-- ==== Sys2Proof/Word.lean ====
section
/-! DEFINITION. The words and numbers of the FD96: link bytes, tags, head and slot numbers, time. -/

namespace Sys2Proof

/-- One byte of the carousel link (R190). -/
abbrev Byte := BitVec 8

/-- A two-byte link field (R197). -/
abbrev Half := BitVec 16

/-- A four-byte link field (R197). -/
abbrev Wide := BitVec 32

/-- The 12-bit identity of a ticket, 0–4095 (section 7 of 00_scope.md). -/
abbrev Tag := BitVec 12

/-- The step count, 0 to 4,294,967,295, wrapping (R2). -/
abbrev StepCount := BitVec 32

/-- A head record's number, 0–95 (section 6.1 of 00_scope.md). -/
abbrev HeadId := Fin 96

/-- A recipe slot's number, 0–7 (section 6.1 of 00_scope.md). -/
abbrev SlotId := Fin 8

/-- One of the six boost slots (R166). -/
abbrev BoostId := Fin 6

/-- A moment or an interval, in whole microseconds (R61 resolves 1 µs). -/
abbrev Time := Nat

end Sys2Proof
end

