-- ==== Sys2Proof/Config.lean ====
section
/-! DEFINITION. What the part fixes (the numbers of the rules) and the one value the manual leaves open. -/

namespace Sys2Proof.Config

/-- Counts of one carousel revolution (section 5 of 00_scope.md, R1). -/
abbrev counts : Nat := 7680

/-- One timer unit, 0.1 ms, in microseconds (section 5 of 00_scope.md). -/
abbrev timerUnit : Time := 100

/-- The pulse filter's interval in microseconds (R61). -/
abbrev glitchInterval : Time := 40

/-- The glitch count at which the meter-noise limit is reported (R62). -/
abbrev glitchLimit : Nat := 16

/-- The stray pulse count at which STRAY_FLOW is raised (R50). -/
abbrev strayLimit : Nat := 8

/-- The limit of the stray pulse count (R60). -/
abbrev strayMax : Nat := 255

/-- The limit of the pulse count P (R63). -/
abbrev pulseMax : Nat := 1048575

/-- The limit of the fine volume D (R63). -/
abbrev fineMax : Nat := 268435455

/-- The consecutive fault count at which REPEATED_FAULTS is raised (R55). -/
abbrev faultLimit : Nat := 3

/-- The transit list's capacity (R120). -/
abbrev transitMax : Nat := 64

/-- The most KEPT tickets in the transit list (R120). -/
abbrev keptMax : Nat := 8

/-- The most tag offers one seating needs (R115). -/
abbrev tagOffers : Nat := 161

/-- The most tags one FIND TICKETS answer returns (R130). -/
abbrev findMax : Nat := 8

/-- The capacity of the receive queue (R192). -/
abbrev frameMax : Nat := 4

/-- The gap that discards a partial frame, 2.0 ms in microseconds (R190). -/
abbrev byteGap : Time := 2000

/-- The start delimiter of a frame (R190). -/
abbrev delimiter : Byte := 0xC3

/-- The longest request length the receiver admits (R190). -/
abbrev lengthMax : Nat := 64

/-- FREE VALUE (log entry 7). A detail byte of a head image whose cause is not pending: R199 says it has no meaning
and states no value. The n-th such byte drawn is `unusedDetail n`. -/
opaque unusedDetail : Nat → Byte

end Sys2Proof.Config
end

