-- ==== Sys2Proof/Syntax.lean ====
section
/-! DEFINITION. The commands of the FD96: one constructor of `Instr` per row of spec/opcode_table.json. Each carries `t`, the
moment in microseconds at which the event is taken (DESIGN CHOICE, log entry 1). Request rows carry the fields of
R196 at their link widths, so that every value the link can carry can be written. -/

namespace Sys2Proof

/-- The four solenoid pilot valves of a head (R164). -/
inductive Pilot
  | gas | fast | slow | snift
  deriving DecidableEq, Repr

/-- The body of SET LINE: ten fields, numbered from 1 (R3, R196). -/
structure LineFields where
  headCount : Byte
  infeed : Half
  gas : Half
  fill : Half
  closeBy : Half
  sniftBy : Half
  discharge : Half
  commit : Half
  boostTime : Half
  minDwell : Half
  deriving DecidableEq, Repr

/-- The revision block: the 21 fields of one recipe revision as the link carries them (R198). -/
structure RevisionBlock where
  vt : Wide
  s : Wide
  aMax : Half
  aInit : Half
  aStepMax : Half
  g : Byte
  tMax : Half
  gt : Byte
  n : Half
  rLo : Half
  rHi : Half
  learning : Byte
  topUp : Byte
  u : Half
  aTop : Half
  tEq : Half
  tStart : Half
  tStall : Half
  tStill : Half
  tSettleMax : Half
  tSnift : Half
  deriving DecidableEq, Repr

/-- The commands. Rule numbers are the rows' own. -/
inductive Instr
  /-- POWER_ON (R2 and every block's power-on rule). -/
  | powerOn (t : Time)
  /-- FORWARD_STEP (R5). -/
  | forwardStep (t : Time)
  /-- REVERSE_STEP (R7). -/
  | reverseStep (t : Time)
  /-- DIRECTIONLESS_CHANGE (R1). -/
  | directionlessChange (t : Time)
  /-- INDEX_EVENT (R12). -/
  | indexEvent (t : Time)
  /-- METER_PULSE (R61): a leading edge of the head's flowmeter input. -/
  | meterPulse (t : Time) (h : HeadId)
  /-- PRESENCE_EDGE (R80): the head's presence input takes this level. -/
  | presenceEdge (t : Time) (h : HeadId) (level : Bool)
  /-- PRESSURE_EQUAL_EDGE (R84): the head's pressure-equal input takes this level. -/
  | pressureEqualEdge (t : Time) (h : HeadId) (level : Bool)
  /-- EQUALIZE_EXPIRY (R84). -/
  | equalizeExpiry (t : Time) (h : HeadId)
  /-- START_FLOW_EXPIRY (R89). -/
  | startFlowExpiry (t : Time) (h : HeadId)
  /-- STALL_EXPIRY (R89). -/
  | stallExpiry (t : Time) (h : HeadId)
  /-- FLOW_STILL_EXPIRY (R91). -/
  | flowStillExpiry (t : Time) (h : HeadId)
  /-- SETTLE_LIMIT_EXPIRY (R92). -/
  | settleLimitExpiry (t : Time) (h : HeadId)
  /-- SNIFT_EXPIRY (R106). -/
  | sniftExpiry (t : Time) (h : HeadId)
  /-- BOOST_COMPLETION (R170) of one boost slot. -/
  | boostCompletion (t : Time) (i : BoostId)
  /-- DWELL_END (R167) of one pilot. -/
  | dwellEnd (t : Time) (h : HeadId) (p : Pilot)
  /-- DIVISION_COMPLETION (R157). -/
  | divisionCompletion (t : Time)
  /-- BYTE_RECEIVED (R190). -/
  | byteReceived (t : Time) (b : Byte)
  /-- INTERBYTE_GAP (R190). -/
  | interbyteGap (t : Time)
  /-- ANSWER_END (R192). -/
  | answerEnd (t : Time)
  /-- MALFORMED (R193): a frame of this kind byte and body that is no well-formed request. -/
  | malformed (t : Time) (kind : Byte) (body : List Byte)
  /-- READ_STATUS (R201). -/
  | readStatus (t : Time)
  /-- READ_HEAD (R58). -/
  | readHead (t : Time) (head : Byte)
  /-- READ_RECIPE (R36). -/
  | readRecipe (t : Time) (slot : Byte)
  /-- READ_TICKET (R127). -/
  | readTicket (t : Time) (selector : Byte) (number : Half)
  /-- FIND_TICKETS (R130). -/
  | findTickets (t : Time) (head : Byte) (slot : Byte) (location : Byte) (disposition : Byte) (verdictPresent : Byte) (startAfter : Half)
  /-- SET_LINE (R4). -/
  | setLine (t : Time) (fields : LineFields)
  /-- WRITE_RECIPE (R22). -/
  | writeRecipe (t : Time) (slot : Byte) (block : RevisionBlock)
  /-- ERASE_RECIPE (R35). -/
  | eraseRecipe (t : Time) (slot : Byte)
  /-- SET_HEAD (R44). -/
  | setHead (t : Time) (head : Byte) (service : Byte) (k : Half) (slot : Byte) (resetLearning : Byte)
  /-- HEAD_RESET (R56). -/
  | headReset (t : Time) (head : Byte)
  /-- LINE_RESET (R57). -/
  | lineReset (t : Time)
  /-- ABORT_FILL (R100). -/
  | abortFill (t : Time) (head : Byte)
  /-- VERDICT (R123): the level error is a two's-complement number, −32768 for NO_READING (R197). -/
  | verdict (t : Time) (tag : Half) (level : Half)
  /-- KEEP (R124). -/
  | keep (t : Time) (tag : Half)
  /-- RETIRE (R125). -/
  | retire (t : Time) (tag : Half)
  /-- CALIBRATE (R154). -/
  | calibrate (t : Time) (tag : Half) (w : Wide) (force : Byte)
  /-- HOLD_LEARNING (R148). -/
  | holdLearning (t : Time) (hold : Byte)
  /-- CLEAR_ATTENTION (R185). -/
  | clearAttention (t : Time) (target : Byte) (kinds : Byte)
  /-- SET_MASK (R183). -/
  | setMask (t : Time) (kinds : Byte)
  deriving DecidableEq, Repr

/-- The nineteen request kinds with their codes and body lengths (R196). -/
inductive RequestKind
  | readStatus | readHead | readRecipe | readTicket | findTickets | setLine | writeRecipe | eraseRecipe | setHead
  | headReset | lineReset | abortFill | verdict | keep | retire | calibrate | holdLearning | clearAttention | setMask
  deriving DecidableEq, Repr

/-- A well-formed request as the port hands it to its owner: the fields of R196, raw. -/
inductive Request
  | readStatus
  | readHead (head : Byte)
  | readRecipe (slot : Byte)
  | readTicket (selector : Byte) (number : Half)
  | findTickets (head : Byte) (slot : Byte) (location : Byte) (disposition : Byte) (verdictPresent : Byte) (startAfter : Half)
  | setLine (fields : LineFields)
  | writeRecipe (slot : Byte) (block : RevisionBlock)
  | eraseRecipe (slot : Byte)
  | setHead (head : Byte) (service : Byte) (k : Half) (slot : Byte) (resetLearning : Byte)
  | headReset (head : Byte)
  | lineReset
  | abortFill (head : Byte)
  | verdict (tag : Half) (level : Half)
  | keep (tag : Half)
  | retire (tag : Half)
  | calibrate (tag : Half) (w : Wide) (force : Byte)
  | holdLearning (hold : Byte)
  | clearAttention (target : Byte) (kinds : Byte)
  | setMask (kinds : Byte)
  deriving DecidableEq, Repr

end Sys2Proof
end

