-- ==== Sys2Proof/Decode.lean ====
section
/-! DEFINITION. Decoding. No row of spec/opcode_table.json gives bits ("fields" is empty in all forty): the part is commanded by
events and by link frames, so no table word spells a command. What the part does decode is a request frame (R193, R196, R197);
that decoder stands here. -/

namespace Sys2Proof

/-- The command that a table word spells: none, since no row gives bits (log entry 22). -/
def decodeTableWord (_nbits _w : Nat) : Option Instr := none

/-- The kind byte of a request kind (R196). -/
def RequestKind.code : RequestKind → Byte
  | .readStatus => 0x01 | .readHead => 0x02 | .readRecipe => 0x03 | .readTicket => 0x04 | .findTickets => 0x05
  | .setLine => 0x06 | .writeRecipe => 0x07 | .eraseRecipe => 0x08 | .setHead => 0x09 | .headReset => 0x0A
  | .lineReset => 0x0B | .abortFill => 0x0C | .verdict => 0x0D | .keep => 0x0E | .retire => 0x0F
  | .calibrate => 0x10 | .holdLearning => 0x11 | .clearAttention => 0x12 | .setMask => 0x13

/-- The body length of a request kind in bytes (R196). -/
def RequestKind.bodyLength : RequestKind → Nat
  | .readStatus => 0 | .readHead => 1 | .readRecipe => 1 | .readTicket => 3 | .findTickets => 7
  | .setLine => 19 | .writeRecipe => 43 | .eraseRecipe => 1 | .setHead => 6 | .headReset => 1
  | .lineReset => 0 | .abortFill => 1 | .verdict => 4 | .keep => 2 | .retire => 2
  | .calibrate => 7 | .holdLearning => 1 | .clearAttention => 2 | .setMask => 1

/-- Every request kind, in the order of R196's table. -/
def RequestKind.all : List RequestKind :=
  [.readStatus, .readHead, .readRecipe, .readTicket, .findTickets, .setLine, .writeRecipe, .eraseRecipe, .setHead,
   .headReset, .lineReset, .abortFill, .verdict, .keep, .retire, .calibrate, .holdLearning, .clearAttention, .setMask]

/-- The request kind a kind byte and a body length name together, if they do (R193). -/
def RequestKind.ofFrame (kind : Byte) (bodyLength : Nat) : Option RequestKind :=
  RequestKind.all.find? fun k => decide (k.code = kind ∧ k.bodyLength = bodyLength)

/-- The byte at an offset of a body. -/
def byteAt (body : List Byte) (i : Nat) : Byte := body.getD i 0

/-- The two-byte field at an offset, most significant byte first (R197). -/
def halfAt (body : List Byte) (i : Nat) : Half := byteAt body i ++ byteAt body (i + 1)

/-- The four-byte field at an offset, most significant byte first (R197). -/
def wideAt (body : List Byte) (i : Nat) : Wide := halfAt body i ++ halfAt body (i + 2)

/-- The revision block at an offset of a body (R198). -/
def revisionBlockAt (body : List Byte) (i : Nat) : RevisionBlock :=
  { vt := wideAt body i, s := wideAt body (i + 4), aMax := halfAt body (i + 8), aInit := halfAt body (i + 10)
    aStepMax := halfAt body (i + 12), g := byteAt body (i + 14), tMax := halfAt body (i + 15), gt := byteAt body (i + 17)
    n := halfAt body (i + 18), rLo := halfAt body (i + 20), rHi := halfAt body (i + 22), learning := byteAt body (i + 24)
    topUp := byteAt body (i + 25), u := halfAt body (i + 26), aTop := halfAt body (i + 28), tEq := halfAt body (i + 30)
    tStart := halfAt body (i + 32), tStall := halfAt body (i + 34), tStill := halfAt body (i + 36)
    tSettleMax := halfAt body (i + 38), tSnift := halfAt body (i + 40) }

/-- The fields of a SET LINE body (R196). -/
def lineFieldsOf (body : List Byte) : LineFields :=
  { headCount := byteAt body 0, infeed := halfAt body 1, gas := halfAt body 3, fill := halfAt body 5
    closeBy := halfAt body 7, sniftBy := halfAt body 9, discharge := halfAt body 11, commit := halfAt body 13
    boostTime := halfAt body 15, minDwell := halfAt body 17 }

/-- The request a frame carries, or none when it is MALFORMED: an unknown kind, or a body of another length than
its kind's (R193, R196). -/
def Request.ofFrame (kind : Byte) (body : List Byte) : Option Request :=
  (RequestKind.ofFrame kind body.length).map fun
    | .readStatus => .readStatus
    | .readHead => .readHead (byteAt body 0)
    | .readRecipe => .readRecipe (byteAt body 0)
    | .readTicket => .readTicket (byteAt body 0) (halfAt body 1)
    | .findTickets => .findTickets (byteAt body 0) (byteAt body 1) (byteAt body 2) (byteAt body 3) (byteAt body 4) (halfAt body 5)
    | .setLine => .setLine (lineFieldsOf body)
    | .writeRecipe => .writeRecipe (byteAt body 0) (revisionBlockAt body 1)
    | .eraseRecipe => .eraseRecipe (byteAt body 0)
    | .setHead => .setHead (byteAt body 0) (byteAt body 1) (halfAt body 2) (byteAt body 4) (byteAt body 5)
    | .headReset => .headReset (byteAt body 0)
    | .lineReset => .lineReset
    | .abortFill => .abortFill (byteAt body 0)
    | .verdict => .verdict (halfAt body 0) (halfAt body 2)
    | .keep => .keep (halfAt body 0)
    | .retire => .retire (halfAt body 0)
    | .calibrate => .calibrate (halfAt body 0) (wideAt body 2) (byteAt body 6)
    | .holdLearning => .holdLearning (byteAt body 0)
    | .clearAttention => .clearAttention (byteAt body 0) (byteAt body 1)
    | .setMask => .setMask (byteAt body 0)

end Sys2Proof
end

