-- ==== Sys2Proof/Machine/State.lean ====
section
/-! DEFINITION. The state of the FD96: every record, list, register, timer and pin its chapters name, as plain data, and
the state right after power-on. -/

namespace Sys2Proof.Machine

/-! ## Angle tracker (01_carousel_angle_and_zones.md) -/

/-- The tracker's motion state (section 1.2). -/
inductive Motion
  | unreferenced | tracking | backing
  deriving DecidableEq, Repr

/-- The line setup (section 1.3): angles in counts, times in timer units. -/
structure LineSetup where
  headCount : Nat
  infeed : Nat
  gas : Nat
  fill : Nat
  closeBy : Nat
  sniftBy : Nat
  discharge : Nat
  commit : Nat
  boostTime : Nat
  minDwell : Nat
  deriving DecidableEq, Repr

/-- The levels of the two encoder channels (R1). -/
structure Encoder where
  a : Bool
  b : Bool
  deriving DecidableEq, Repr

/-- The tracker's items (section 1.2). `reverseOwed` says that BACKING was entered at an index with extra counts and no
reverse step has been taken since (R9). -/
structure Tracker where
  motion : Motion
  angle : Nat
  backlog : Nat
  stepCount : StepCount
  lastIndexError : Int
  reverseOwed : Bool
  line : LineSetup
  deriving DecidableEq, Repr

/-! ## Recipe table (02_product_recipes.md) -/

/-- The 21 fields of a revision (section 2.3). -/
structure Recipe where
  vt : Nat
  s : Nat
  aMax : Nat
  aInit : Nat
  aStepMax : Nat
  g : Nat
  tMax : Nat
  gt : Nat
  n : Nat
  rLo : Nat
  rHi : Nat
  learning : Bool
  topUp : Bool
  u : Nat
  aTop : Nat
  tEq : Nat
  tStart : Nat
  tStall : Nat
  tStill : Nat
  tSettleMax : Nat
  tSnift : Nat
  deriving DecidableEq, Repr

/-- A revision: its number and its fields (section 2.1). -/
structure Revision where
  number : Byte
  recipe : Recipe
  deriving DecidableEq, Repr

/-- A slot record (section 2.1). Its state EMPTY, READY or ACTIVE follows from it (R19). -/
structure Slot where
  counter : Byte
  current : Option Revision
  pending : Option Revision
  members : Nat
  unadopted : Nat
  adopted : Nat
  deriving DecidableEq, Repr

/-! ## Heads: record (03), dose counter (04), sequencer (05), pilots (09), causes (10), live ticket (06) -/

/-- The service state (section 3.2). `inn` is the manual's IN. -/
inductive Service
  | out | joining | inn | leaving
  deriving DecidableEq, Repr

/-- The outcome of a calibration (R157, R160). -/
inductive CalOutcome
  | staged | outOfRange | outOfBand | cancelled
  deriving DecidableEq, Repr

/-- A head's calibration result (R158). -/
structure CalResult where
  outcome : CalOutcome
  kNew : Option Nat
  tag : Tag
  deriving DecidableEq, Repr

/-- The head record's fields kept by the head table (section 3.1). `usesPending` is the recipe table's note of which revision
a member uses (R20). -/
structure HeadRecord where
  service : Service
  slot : Option SlotId
  pendingSlot : Option SlotId
  adoptedRev : Option Byte
  usesPending : Bool
  k : Nat
  stagedK : Option Nat
  a : Nat
  pendingA : Option Nat
  t : Int
  pendingT : Option Int
  resetStaged : Bool
  drift : Int
  faultCount : Nat
  presenceReleased : Bool
  stray : Nat
  calResult : Option CalResult
  deriving DecidableEq, Repr

/-- The nine phases (05, section 5). -/
inductive Phase
  | empty | seated | pressurize | fast | slow | settle | topup | snift | done
  deriving DecidableEq, Repr

/-- The settle item (R77). -/
inductive Settle
  | none | first | second
  deriving DecidableEq, Repr

/-- The six timers (R78): stopped, or running with the moment at which each runs down (log entry 21). -/
structure Timers where
  equalize : Option Time
  startFlow : Option Time
  stall : Option Time
  flowStill : Option Time
  settleLimit : Option Time
  snift : Option Time
  deriving DecidableEq, Repr

/-- A sequencer's items (R77). -/
structure Sequencer where
  phase : Phase
  gasGranted : Bool
  equalized : Bool
  fillReached : Bool
  closeByPassed : Bool
  settle : Settle
  timers : Timers
  deriving DecidableEq, Repr

/-- A pilot's state (R164). -/
inductive PilotState
  | off | boost | hold
  deriving DecidableEq, Repr

/-- A pilot record (R164). `dwellTaken` is the model's own (log entry 23): the moment of the pilot's latest dwell end that has been
taken, by which R173 tells a dwell end taken from one that falls at the present moment and is still to be taken. -/
structure PilotRecord where
  state : PilotState
  released : Option Time
  dwellTaken : Option Time
  deriving DecidableEq, Repr

/-- The four pilot records of a head (R164). -/
structure Pilots where
  gas : PilotRecord
  fast : PilotRecord
  slow : PilotRecord
  snift : PilotRecord
  deriving DecidableEq, Repr

/-- The fifteen reject reasons (section 5.7), in the order of their codes (R197). -/
inductive Reason
  | noFlow | stall | closeBy | sniftBy | equalizeTimeout | aborted | reverse | angle | meterNoise | drip | pressureSwitch
  | low | high | sniftShort | reset
  deriving DecidableEq, Repr

/-- The reason details of EQUIPMENT (section 10.1). -/
inductive EquipmentDetail
  | meterNoise | drip | strayFlow | pressureSwitch
  deriving DecidableEq, Repr

/-- The reason details of INTERVENTION (section 10.1). -/
inductive InterventionDetail
  | presenceStuck | repeatedFaults
  deriving DecidableEq, Repr

/-- The detail of CAL_DONE: the outcome and K_new (section 10.1). -/
structure CalDetail where
  outcome : CalOutcome
  kNew : Option Nat
  deriving DecidableEq, Repr

/-- A head's five cause entries, each clear or pending with its detail (R177). -/
structure Causes where
  equipment : Option EquipmentDetail
  intervention : Option InterventionDetail
  fillFault : Option Reason
  trimLimit : Bool
  calDone : Option CalDetail
  deriving DecidableEq, Repr

/-- A ticket's disposition (section 6.2). -/
inductive Disposition
  | pending | good | reject
  deriving DecidableEq, Repr

/-- A ticket's dose-end outcome (R104). -/
inductive DoseOutcome
  | byVolume | forced
  deriving DecidableEq, Repr

/-- A ticket's dose-end record (R104). -/
structure DoseEnd where
  outcome : DoseOutcome
  final : Nat
  deriving DecidableEq, Repr

/-- A ticket's head end (R106, R108). -/
inductive HeadEnd
  | vented | cutShort
  deriving DecidableEq, Repr

/-- A verdict: a level error in 0.1 mm, or NO_READING (R122). -/
inductive Verdict
  | level (e : Int)
  | noReading
  deriving DecidableEq, Repr

/-- A ticket's snapshot (R114). -/
structure Snapshot where
  k : Nat
  a : Nat
  t : Int
  e : Int
  f : Int
  eTop : Int
  recipe : Recipe
  deriving DecidableEq, Repr

/-- A fill ticket (section 6.2). Its reject reasons are the 16-bit set of R197, bit n for the reason with code n. Its location is
where it stands: with a head (LIVE) or in the transit list (TRANSIT). -/
structure Ticket where
  tag : Tag
  head : HeadId
  slot : SlotId
  revision : Byte
  snapshot : Snapshot
  p : Nat
  d : Nat
  dClose : Option Nat
  x : Option Int
  glitches : Nat
  noSlow : Bool
  toppedUp : Bool
  settleCut : Bool
  outlier : Bool
  kept : Bool
  reasons : Half
  disposition : Disposition
  doseEnd : Option DoseEnd
  headEnd : Option HeadEnd
  verdict : Option Verdict
  deriving DecidableEq, Repr

/-- All that belongs to one head number. `presence` and `pressureEqual` are the levels of its two inputs. -/
structure Head where
  record : HeadRecord
  seq : Sequencer
  lastCounted : Option Time
  pilots : Pilots
  causes : Causes
  ticket : Option Ticket
  presence : Bool
  pressureEqual : Bool
  deriving DecidableEq, Repr

/-! ## Ticket table, divider, arbiter, attention, link -/

/-- The two discharge lines, true for asserted (R112). -/
structure DischargeLines where
  container : Bool
  reject : Bool
  deriving DecidableEq, Repr

/-- A calibration in flight (R152). -/
structure Calibration where
  head : HeadId
  tag : Tag
  kSnap : Nat
  p : Nat
  w : Nat
  force : Bool
  dividend : Nat
  remainder : Nat
  quotient : Nat
  deriving DecidableEq, Repr

/-- The four kinds of open (R165): each has its class and its pilots. -/
inductive OpenKind
  | fill | topUp | snift | gas
  deriving DecidableEq, Repr

/-- An entry of the pilot queue (R165). -/
structure Entry where
  head : HeadId
  kind : OpenKind
  step : StepCount
  deriving DecidableEq, Repr

/-- A grant that holds a boost slot (R166): its head, those of its pilots still on the boost it gave them, and the moment of
its boost completion. -/
structure Grant where
  head : HeadId
  pilots : List Pilot
  completion : Time
  deriving DecidableEq, Repr

/-- The three global flags (R177). -/
structure Globals where
  angleFault : Bool
  reverse : Bool
  verdictLoss : Bool
  deriving DecidableEq, Repr

/-- A request frame as the receive queue holds it: kind byte and body (R190, R192). -/
structure Frame where
  kind : Byte
  body : List Byte
  deriving DecidableEq, Repr

/-- The receiver (R190). LENGTH holds the first length byte once it is in; BODY and CHECK hold the length and the kind and body
bytes taken so far; CHECK holds the first check byte once it is in. -/
inductive Receiver
  | hunt
  | length (high : Option Byte)
  | body (len : Half) (taken : List Byte)
  | check (len : Half) (taken : List Byte) (high : Option Byte)
  deriving DecidableEq, Repr

/-- The answer codes (R195). -/
inductive AnswerCode
  | done | accepted | noSuchHead | noSuchTag | badField | slotEmpty | slotInUse | revisionBusy | notAllowed | busy | calNoPulses
  | malformed
  deriving DecidableEq, Repr

/-- An answer (R194): the request's kind byte, the code, the attention line at the serving, the detail and the payload. -/
structure Answer where
  kind : Byte
  code : AnswerCode
  attention : Bool
  detail : Byte
  payload : List Byte
  deriving DecidableEq, Repr

/-- The link port (R190, R192): receiver, time of the last byte, receive queue with the frame being served at its head, and the
answer being sent. -/
structure Link where
  rx : Receiver
  lastByte : Time
  queue : List Frame
  sending : Option Answer
  deriving DecidableEq, Repr

/-- The whole part. `now`, `lastAnswer`, `freeReads` and `pending` are the model's own (log entries 1, 3, 7): the clock in
microseconds, the answer of the latest serving, the count of free detail bytes drawn, and the queue of waiting commands. -/
structure State where
  now : Time
  encoder : Encoder
  tracker : Tracker
  slots : Vector Slot 8
  heads : Vector Head 96
  transit : List Ticket
  tagCounter : Tag
  lines : DischargeLines
  learningHold : Bool
  divider : Option Calibration
  pilotQueue : List Entry
  boosts : Vector (Option Grant) 6
  globals : Globals
  masks : Byte
  attentionLine : Bool
  link : Link
  lastAnswer : Option Answer
  freeReads : Nat
  pending : List Instr
  deriving DecidableEq, Repr

/-- The faults of the model: there are none. Nothing stops the part: "Faults do not stop the carousel" (00_scope.md
section 1.2); what goes wrong becomes a reject reason, an attention cause or an answer code. Safe. -/
inductive Fault
  deriving DecidableEq, Repr

/-- The refusals of the model. -/
inductive Refusal
  /-- Raised by exec's arm of a command that has no meaning yet (none has this arm now). Safe. -/
  | notModelled (mnemonic : String)
  deriving DecidableEq, Repr

/-! ## Power-on -/

/-- The line setup at power-on (section 1.3). -/
def LineSetup.powerOn : LineSetup :=
  { headCount := 96, infeed := 0, gas := 240, fill := 480, closeBy := 4800, sniftBy := 5120, discharge := 5760, commit := 6400
    boostTime := 40, minDwell := 200 }

/-- The tracker at power-on (R2). -/
def Tracker.powerOn : Tracker :=
  { motion := .unreferenced, angle := 0, backlog := 0, stepCount := 0, lastIndexError := 0, reverseOwed := false, line := .powerOn }

/-- A recipe slot at power-on (R18). -/
def Slot.powerOn : Slot :=
  { counter := 0, current := none, pending := none, members := 0, unadopted := 0, adopted := 0 }

/-- A head record at power-on (R37). -/
def HeadRecord.powerOn : HeadRecord :=
  { service := .out, slot := none, pendingSlot := none, adoptedRev := none, usesPending := false, k := 2560, stagedK := none
    a := 0, pendingA := none, t := 0, pendingT := none, resetStaged := false, drift := 0, faultCount := 0
    presenceReleased := true, stray := 0, calResult := none }

/-- All timers stopped. -/
def Timers.stopped : Timers :=
  { equalize := none, startFlow := none, stall := none, flowStill := none, settleLimit := none, snift := none }

/-- A sequencer at power-on (R77). -/
def Sequencer.powerOn : Sequencer :=
  { phase := .empty, gasGranted := false, equalized := false, fillReached := false, closeByPassed := false, settle := .none
    timers := .stopped }

/-- A pilot at power-on (R164). -/
def PilotRecord.powerOn : PilotRecord := { state := .off, released := none, dwellTaken := none }

/-- No cause pending (R177). -/
def Causes.clear : Causes :=
  { equipment := none, intervention := none, fillFault := none, trimLimit := false, calDone := none }

/-- A head at power-on, its inputs at the given levels. -/
def Head.powerOn (presence pressureEqual : Bool) : Head :=
  { record := .powerOn, seq := .powerOn, lastCounted := none
    pilots := { gas := .powerOn, fast := .powerOn, slow := .powerOn, snift := .powerOn }
    causes := .clear, ticket := none, presence := presence, pressureEqual := pressureEqual }

/-- The link port at power-on (R190). -/
def Link.powerOn : Link := { rx := .hunt, lastByte := 0, queue := [], sending := none }

/-- The part right after power-on. The clock starts at 0 and the input pins stand low (DESIGN CHOICE, log entries 4 and 5). -/
def State.reset : State :=
  { now := 0, encoder := { a := false, b := false }, tracker := .powerOn
    slots := Vector.replicate 8 .powerOn, heads := Vector.replicate 96 (.powerOn false false)
    transit := [], tagCounter := 0, lines := { container := false, reject := false }
    learningHold := false, divider := none, pilotQueue := [], boosts := Vector.replicate 6 none
    globals := { angleFault := false, reverse := false, verdictLoss := false }, masks := 0, attentionLine := false
    link := .powerOn, lastAnswer := none, freeReads := 0, pending := [] }

end Sys2Proof.Machine
end

