-- ==== Sys2Proof/Machine/Flags.lean ====
section
/-! DEFINITION. Sets, flags and what follows from them: the codes of R197, reject-reason sets, kind sets of causes, the slot
state, the highest pending cause and the judgement of the attention line. -/

namespace Sys2Proof.Machine

/-! ## Codes (R197) -/

/-- The code of a reject reason (R197). -/
def Reason.code : Reason → Nat
  | .noFlow => 0 | .stall => 1 | .closeBy => 2 | .sniftBy => 3 | .equalizeTimeout => 4 | .aborted => 5 | .reverse => 6
  | .angle => 7 | .meterNoise => 8 | .drip => 9 | .pressureSwitch => 10 | .low => 11 | .high => 12 | .sniftShort => 13
  | .reset => 14

/-- The code of a service state (R197). -/
def Service.code : Service → Nat
  | .out => 0 | .joining => 1 | .inn => 2 | .leaving => 3

/-- The code of a phase (R197). -/
def Phase.code : Phase → Nat
  | .empty => 0 | .seated => 1 | .pressurize => 2 | .fast => 3 | .slow => 4 | .settle => 5 | .topup => 6 | .snift => 7 | .done => 8

/-- The code of an EQUIPMENT detail (R197). -/
def EquipmentDetail.code : EquipmentDetail → Nat
  | .meterNoise => 0 | .drip => 1 | .strayFlow => 2 | .pressureSwitch => 3

/-- The code of an INTERVENTION detail (R197). -/
def InterventionDetail.code : InterventionDetail → Nat
  | .presenceStuck => 0 | .repeatedFaults => 1

/-- The code of a calibration outcome (R197). -/
def CalOutcome.code : CalOutcome → Nat
  | .staged => 0 | .outOfRange => 1 | .outOfBand => 2 | .cancelled => 3

/-- The code of a disposition in a ticket image (R197). -/
def Disposition.code : Disposition → Nat
  | .pending => 0 | .good => 1 | .reject => 2

/-- The code of a dose-end outcome (R197). -/
def DoseOutcome.code : DoseOutcome → Nat
  | .byVolume => 0 | .forced => 1

/-- The code of a head end (R197). -/
def HeadEnd.code : HeadEnd → Nat
  | .vented => 0 | .cutShort => 1

/-- The code of a motion state (R197). -/
def Motion.code : Motion → Nat
  | .unreferenced => 0 | .tracking => 1 | .backing => 2

/-- The value of an answer code (R195). -/
def AnswerCode.value : AnswerCode → Byte
  | .done => 0x00 | .accepted => 0x01 | .noSuchHead => 0x02 | .noSuchTag => 0x03 | .badField => 0x04 | .slotEmpty => 0x05
  | .slotInUse => 0x06 | .revisionBusy => 0x07 | .notAllowed => 0x08 | .busy => 0x09 | .calNoPulses => 0x0A | .malformed => 0x0B

/-! ## Reject reasons (section 5.7) -/

/-- The set of one reason (R197: bit n for the member with code n). -/
def Reason.bit (r : Reason) : Half := 1#16 <<< r.code

/-- The ticket carries the reason. -/
def Ticket.has (t : Ticket) (r : Reason) : Bool := t.reasons.getLsbD r.code

/-- A reason joins the ticket's set, from which none is removed (section 5.7). -/
def Ticket.addReason (r : Reason) (t : Ticket) : Ticket := { t with reasons := t.reasons ||| r.bit }

/-- The set of the two reasons that are not forced (section 7 of 00_scope.md). -/
def unforcedReasons : Half := Reason.low.bit ||| Reason.high.bit

/-- The ticket carries a forced reason: any but LOW and HIGH. -/
def Ticket.forced (t : Ticket) : Bool := decide (t.reasons &&& ~~~unforcedReasons ≠ 0#16)

/-- The reasons of the FILL_FAULT class at dose end (R55, R105). -/
def faultClass : List Reason := [.noFlow, .stall, .closeBy, .sniftBy, .equalizeTimeout, .low, .high]

/-- The ticket's reason of the FILL_FAULT class, of which it has at most one at dose end (R105). -/
def Ticket.faultReason (t : Ticket) : Option Reason := faultClass.find? t.has

/-- The ticket flags as a set (R197). -/
def Ticket.flags (t : Ticket) : Byte :=
  (if t.noSlow then 1#8 else 0#8) ||| (if t.toppedUp then 2#8 else 0#8) ||| (if t.settleCut then 4#8 else 0#8)
    ||| (if t.outlier then 8#8 else 0#8) ||| (if t.kept then 16#8 else 0#8)

/-! ## Phases -/

/-- SEATED to TOPUP: the phases an abort acts in (R100). -/
def Phase.filling : Phase → Bool
  | .seated | .pressurize | .fast | .slow | .settle | .topup => true
  | .empty | .snift | .done => false

/-- The phases in which pulses are fill pulses (section 4.2). -/
def Phase.counting : Phase → Bool
  | .fast | .slow | .settle | .topup => true
  | .empty | .seated | .pressurize | .snift | .done => false

/-- FAST or SLOW: the phases out of which an ending records D_close and settles FIRST (R68, R90). -/
def Phase.metered : Phase → Bool
  | .fast | .slow => true
  | .empty | .seated | .pressurize | .settle | .topup | .snift | .done => false

/-! ## Slot state (R19) -/

/-- EMPTY, READY or ACTIVE. -/
inductive SlotState
  | empty | ready | active
  deriving DecidableEq, Repr

/-- The slot state follows from the current revision and the member count (R19). -/
def Slot.state (sl : Slot) : SlotState :=
  if sl.current.isNone then .empty else if sl.members = 0 then .ready else .active

/-- The code of a slot state (R197). -/
def SlotState.code : SlotState → Nat
  | .empty => 0 | .ready => 1 | .active => 2

/-! ## Attention causes (section 10.1) -/

/-- The eight kinds of cause. -/
inductive Kind
  | equipment | intervention | fillFault | trimLimit | calDone | angleFault | reverse | verdictLoss
  deriving DecidableEq, Repr

/-- The code of a kind in a kind set (R197). -/
def Kind.code : Kind → Nat
  | .equipment => 0 | .intervention => 1 | .fillFault => 2 | .trimLimit => 3 | .calDone => 4
  | .angleFault => 5 | .reverse => 6 | .verdictLoss => 7

/-- A kind set names a kind (R197). -/
def named (kinds : Byte) (k : Kind) : Bool := kinds.getLsbD k.code

/-- A one-member kind set where the condition holds. -/
def kindBit (k : Kind) (c : Bool) : Byte := if c then 1#8 <<< k.code else 0#8

/-- A head's pending causes as a kind set (R199). -/
def Causes.kindSet (c : Causes) : Byte :=
  kindBit .equipment c.equipment.isSome ||| kindBit .intervention c.intervention.isSome ||| kindBit .fillFault c.fillFault.isSome
    ||| kindBit .trimLimit c.trimLimit ||| kindBit .calDone c.calDone.isSome

/-- The global flags as a kind set (R201). -/
def Globals.kindSet (g : Globals) : Byte :=
  kindBit .angleFault g.angleFault ||| kindBit .reverse g.reverse ||| kindBit .verdictLoss g.verdictLoss

/-- The highest pending cause of a head as its code, 0 for NONE (R181, R197). -/
def Causes.highest (c : Causes) : Nat :=
  if c.equipment.isSome then 1 else if c.intervention.isSome then 2 else if c.fillFault.isSome then 3
  else if c.trimLimit then 4 else if c.calDone.isSome then 5 else 0

/-- Some pending cause has its kind's mask bit open (R182). -/
def State.lineDue (s : State) : Bool :=
  decide (s.globals.kindSet &&& s.masks ≠ 0#8) || s.heads.toList.any fun hd => decide (hd.causes.kindSet &&& s.masks ≠ 0#8)

/-- The attention line is judged again (R182). -/
def judgeLine (s : State) : State := { s with attentionLine := s.lineDue }

end Sys2Proof.Machine
end

