-- ==== Sys2Proof/Machine/Operands.lean ====
section
/-! DEFINITION. The operand forms: how each request field names a head, a slot, a tag, a K, a level, a flag or a set (R197), the
field checks of SET LINE (R3) and WRITE RECIPE (R22, R23), and the big-endian fields that answers are made of (R197). -/

namespace Sys2Proof.Machine

/-! ## Request fields -/

/-- The installed head a number names: below H (R37, R197). -/
def State.installedHead (s : State) (n : Nat) : Option HeadId :=
  if h : n < 96 then (if n < s.tracker.line.headCount then some ⟨n, h⟩ else none) else none

/-- The head is installed (section 3.1). -/
def State.isInstalled (s : State) (h : HeadId) : Bool := decide (h.val < s.tracker.line.headCount)

/-- The installed heads, in ascending number. -/
def State.installed (s : State) : List HeadId := (List.finRange 96).filter fun h => s.isInstalled h

/-- The slot a byte names, 0–7 (R197). -/
def slotOf (b : Byte) : Option SlotId := if h : b.toNat < 8 then some ⟨b.toNat, h⟩ else none

/-- The tag a two-byte field names, 0–4095. -/
def tagOf (n : Half) : Option Tag := if n.toNat < 4096 then some (BitVec.ofNat 12 n.toNat) else none

/-- A flag field: 0 OFF or NO, 1 ON or YES (R197). -/
def flagOf (b : Byte) : Option Bool := if b = 0#8 then some false else if b = 1#8 then some true else none

/-- A K: 256–65535 (R38). -/
def kInRange (k : Nat) : Bool := decide (256 ≤ k ∧ k ≤ 65535)

/-- The service field of SET HEAD (R197). -/
inductive ServiceField
  | noChange | goIn | goOut
  deriving DecidableEq, Repr

/-- Field 1 of SET HEAD: 0 no change, 1 in, 2 out (R197). -/
def serviceFieldOf (b : Byte) : Option ServiceField :=
  if b = 0#8 then some .noChange else if b = 1#8 then some .goIn else if b = 2#8 then some .goOut else none

/-- Field 2 of SET HEAD: 0 no change (an inner none), 256–65535 a value (R197). -/
def kFieldOf (k : Half) : Option (Option Nat) :=
  if k = 0#16 then some none else if kInRange k.toNat then some (some k.toNat) else none

/-- The slot field of SET HEAD (R197). -/
inductive SlotField
  | noChange | noSlot | slot (n : SlotId)
  deriving DecidableEq, Repr

/-- Field 3 of SET HEAD: 0–7 a slot, 0x80 none, 0xFF no change (R197). -/
def slotFieldOf (b : Byte) : Option SlotField :=
  if b = 0xFF#8 then some .noChange else if b = 0x80#8 then some .noSlot else (slotOf b).map .slot

/-- The verdict a level-error field carries: −32768 NO_READING, any other value clamped to −2000..2000 (R122, R197). -/
def verdictOf (level : Half) : Verdict :=
  if level = 0x8000#16 then .noReading else .level (max (-2000) (min 2000 level.toInt))

/-- The kind set names a per-head kind, bits 0–4 (R184). -/
def namesHeadKind (kinds : Byte) : Bool := decide (kinds &&& 0x1F#8 ≠ 0#8)

/-- The kind set names a global kind, bits 5–7 (R184). -/
def namesGlobalKind (kinds : Byte) : Bool := decide (kinds &&& 0xE0#8 ≠ 0#8)

/-! ## Field checks -/

/-- The number of the first field that fails, of numbered checks in order. -/
def firstBad (checks : List (Nat × Bool)) : Option Nat := (checks.find? fun c => !c.2).map (·.1)

/-- The nine head counts (section 1.3). -/
def headCounts : List Nat := [24, 30, 32, 40, 48, 60, 64, 80, 96]

/-- A zone angle lies in 0–7679 and, but for the infeed angle, above the one before it (R3). -/
def zoneAfter (before here : Half) : Bool := decide (here.toNat < Config.counts ∧ before.toNat < here.toNat)

/-- The first failing field of a SET LINE, numbered from 1 (R3). -/
def lineFirstBad (f : LineFields) : Option Nat :=
  firstBad
    [(1, headCounts.contains f.headCount.toNat), (2, decide (f.infeed.toNat < Config.counts)), (3, zoneAfter f.infeed f.gas),
     (4, zoneAfter f.gas f.fill), (5, zoneAfter f.fill f.closeBy), (6, zoneAfter f.closeBy f.sniftBy),
     (7, zoneAfter f.sniftBy f.discharge), (8, zoneAfter f.discharge f.commit),
     (9, decide (10 ≤ f.boostTime.toNat ∧ f.boostTime.toNat ≤ 150)), (10, decide (50 ≤ f.minDwell.toNat ∧ f.minDwell.toNat ≤ 1000))]

/-- The line setup that a SET LINE carries. -/
def lineSetupOf (f : LineFields) : LineSetup :=
  { headCount := f.headCount.toNat, infeed := f.infeed.toNat, gas := f.gas.toNat, fill := f.fill.toNat
    closeBy := f.closeBy.toNat, sniftBy := f.sniftBy.toNat, discharge := f.discharge.toNat, commit := f.commit.toNat
    boostTime := f.boostTime.toNat, minDwell := f.minDwell.toNat }

/-- A number lies within bounds. -/
def within (lo hi n : Nat) : Bool := decide (lo ≤ n ∧ n ≤ hi)

/-- The first failing field of a WRITE RECIPE, 1 to 21, with the cross-checks at fields 7 and 15 (R22, R23). Field 9 (N) takes
every two-byte value. -/
def blockFirstBad (b : RevisionBlock) : Option Nat :=
  firstBad
    [(1, within 1000 250000 b.vt.toNat), (2, decide (b.s.toNat < b.vt.toNat)), (3, within 0 5000 b.aMax.toNat),
     (4, within 0 b.aMax.toNat b.aInit.toNat), (5, within 1 500 b.aStepMax.toNat), (6, within 0 6 b.g.toNat),
     (7, within 0 2000 b.tMax.toNat && decide (b.aMax.toNat + b.tMax.toNat < b.vt.toNat)), (8, within 0 6 b.gt.toNat),
     (9, true), (10, within 0 20000 b.rLo.toNat), (11, within 0 20000 b.rHi.toNat),
     (12, (flagOf b.learning).isSome), (13, (flagOf b.topUp).isSome), (14, within 0 5000 b.u.toNat),
     (15, within 0 2000 b.aTop.toNat && (decide (b.topUp ≠ 1#8) || decide (b.aTop.toNat < b.u.toNat))),
     (16, within 100 20000 b.tEq.toNat), (17, within 10 20000 b.tStart.toNat), (18, within 10 5000 b.tStall.toNat),
     (19, within 10 5000 b.tStill.toNat), (20, within 100 20000 b.tSettleMax.toNat), (21, within 50 20000 b.tSnift.toNat)]

/-- The recipe that a revision block carries. -/
def recipeOf (b : RevisionBlock) : Recipe :=
  { vt := b.vt.toNat, s := b.s.toNat, aMax := b.aMax.toNat, aInit := b.aInit.toNat, aStepMax := b.aStepMax.toNat, g := b.g.toNat
    tMax := b.tMax.toNat, gt := b.gt.toNat, n := b.n.toNat, rLo := b.rLo.toNat, rHi := b.rHi.toNat
    learning := decide (b.learning = 1#8), topUp := decide (b.topUp = 1#8), u := b.u.toNat, aTop := b.aTop.toNat
    tEq := b.tEq.toNat, tStart := b.tStart.toNat, tStall := b.tStall.toNat, tStill := b.tStill.toNat
    tSettleMax := b.tSettleMax.toNat, tSnift := b.tSnift.toNat }

/-! ## Answer fields, most significant byte first (R197) -/

/-- A one-byte field. -/
def be1 (v : Nat) : List Byte := [BitVec.ofNat 8 v]

/-- A two-byte field. -/
def be2 (v : Nat) : List Byte := [BitVec.ofNat 8 (v / 256), BitVec.ofNat 8 v]

/-- A four-byte field. -/
def be4 (v : Nat) : List Byte :=
  [BitVec.ofNat 8 (v / 16777216), BitVec.ofNat 8 (v / 65536), BitVec.ofNat 8 (v / 256), BitVec.ofNat 8 v]

/-- A signed one-byte field, two's complement. -/
def se1 (v : Int) : List Byte := be1 (BitVec.ofInt 8 v).toNat

/-- A signed two-byte field, two's complement. -/
def se2 (v : Int) : List Byte := be2 (BitVec.ofInt 16 v).toNat

/-- A signed four-byte field, two's complement. -/
def se4 (v : Int) : List Byte := be4 (BitVec.ofInt 32 v).toNat

/-- A flag as a byte: 0 or 1. -/
def flagByte (b : Bool) : List Byte := [if b then 1#8 else 0#8]

/-- A byte whose bits 0, 1, 2, … are the given conditions. -/
def bitsByte (bs : List Bool) : Byte := bs.foldr (fun b acc => (acc <<< 1) ||| (if b then 1#8 else 0#8)) 0#8

end Sys2Proof.Machine
end

