-- ==== Sys2Proof/Machine/Ops.lean ====
section
/-! DEFINITION. The named operations over the state that several commands share: access to heads and slots, the clock and the timers,
raising and clearing causes (10), members coming and going, alignment and promotion (02), the service state (03), pilot opens,
releases and withdrawals (09). Every one is total and answers a state. -/

namespace Sys2Proof.Machine

/-! ## Access -/

/-- The head with this number. -/
def State.head (s : State) (h : HeadId) : Head := s.heads[h.val]

/-- A head is replaced. -/
def setHead (h : HeadId) (x : Head) (s : State) : State := { s with heads := s.heads.set h.val x }

/-- A head is changed. -/
def modHead (h : HeadId) (f : Head → Head) (s : State) : State := setHead h (f (s.head h)) s

/-- A head's record is changed. -/
def modRecord (h : HeadId) (f : HeadRecord → HeadRecord) (s : State) : State :=
  modHead h (fun x => { x with record := f x.record }) s

/-- A head's sequencer is changed. -/
def modSeq (h : HeadId) (f : Sequencer → Sequencer) (s : State) : State :=
  modHead h (fun x => { x with seq := f x.seq }) s

/-- A head's causes are changed. -/
def modCauses (h : HeadId) (f : Causes → Causes) (s : State) : State :=
  modHead h (fun x => { x with causes := f x.causes }) s

/-- A head's pilot records are changed. -/
def modPilots (h : HeadId) (f : Pilots → Pilots) (s : State) : State :=
  modHead h (fun x => { x with pilots := f x.pilots }) s

/-- A head's live ticket, if it has one, is changed. -/
def modTicket (h : HeadId) (f : Ticket → Ticket) (s : State) : State :=
  modHead h (fun x => { x with ticket := x.ticket.map f }) s

/-- Every head is changed. -/
def mapHeads (f : Head → Head) (s : State) : State := { s with heads := s.heads.map f }

/-- The slot record with this number. -/
def State.slot (s : State) (n : SlotId) : Slot := s.slots[n.val]

/-- A slot record is changed. -/
def modSlot (n : SlotId) (f : Slot → Slot) (s : State) : State := { s with slots := s.slots.set n.val (f (s.slot n)) }

/-- The transit list is replaced. -/
def putTransit (l : List Ticket) (s : State) : State := { s with transit := l }

/-- The tag counter is replaced. -/
def putTagCounter (tag : Tag) (s : State) : State := { s with tagCounter := tag }

/-- The discharge lines are set (R118). -/
def putLines (l : DischargeLines) (s : State) : State := { s with lines := l }

/-- The pilot queue is replaced. -/
def putQueue (q : List Entry) (s : State) : State := { s with pilotQueue := q }

/-- The boost slots are replaced. -/
def putBoosts (b : Vector (Option Grant) 6) (s : State) : State := { s with boosts := b }

/-- The head's phase. -/
def State.phase (s : State) (h : HeadId) : Phase := (s.head h).seq.phase

/-- Each installed head takes its part of one event, in ascending number (log entry 6). -/
def forInstalled (f : HeadId → State → State) (s : State) : State := s.installed.foldl (fun acc h => f h acc) s

/-! ## Clock and timers (R78) -/

/-- The clock is brought to the moment of a command; it does not run back (log entry 1). -/
def State.advance (s : State) (t : Time) : State := { s with now := max s.now t }

/-- The names of the six timers (R78). -/
inductive TimerName
  | equalize | startFlow | stall | flowStill | settleLimit | snift
  deriving DecidableEq, Repr

/-- A timer's item. -/
def Timers.get (q : Timers) : TimerName → Option Time
  | .equalize => q.equalize | .startFlow => q.startFlow | .stall => q.stall | .flowStill => q.flowStill
  | .settleLimit => q.settleLimit | .snift => q.snift

/-- A timer's item is replaced. -/
def Timers.put (q : Timers) (n : TimerName) (v : Option Time) : Timers :=
  match n with
  | .equalize => { q with equalize := v } | .startFlow => { q with startFlow := v } | .stall => { q with stall := v }
  | .flowStill => { q with flowStill := v } | .settleLimit => { q with settleLimit := v } | .snift => { q with snift := v }

/-- A timer's duration in timer units, from the snapshot's recipe (R78). -/
def Recipe.duration (r : Recipe) : TimerName → Nat
  | .equalize => r.tEq | .startFlow => r.tStart | .stall => r.tStall | .flowStill => r.tStill | .settleLimit => r.tSettleMax
  | .snift => r.tSnift

/-- A timer is started or restarted for its full duration (R78). -/
def startTimer (n : TimerName) (h : HeadId) (s : State) : State :=
  match (s.head h).ticket with
  | none => s
  | some tk => modSeq h (fun q => { q with timers := q.timers.put n (some (s.now + Config.timerUnit * tk.snapshot.recipe.duration n)) }) s

/-- A timer is stopped. -/
def stopTimer (n : TimerName) (h : HeadId) (s : State) : State :=
  modSeq h (fun q => { q with timers := q.timers.put n none }) s

/-- Every timer of the head is stopped (R98). -/
def stopTimers (h : HeadId) (s : State) : State := modSeq h (fun q => { q with timers := .stopped }) s

/-- The timer runs. -/
def State.running (s : State) (n : TimerName) (h : HeadId) : Bool := ((s.head h).seq.timers.get n).isSome

/-- The timer runs and has run down (R78). -/
def State.expired (s : State) (n : TimerName) (h : HeadId) : Bool :=
  match (s.head h).seq.timers.get n with
  | none => false
  | some due => decide (due ≤ s.now)

/-- The timers left when the phase changes: every timer whose "stopped at" entry names the phase left is stopped (R78). -/
def Timers.leaving (q : Timers) (old new : Phase) : Timers :=
  { equalize := if old = .pressurize then none else q.equalize
    startFlow := if old = .fast ∨ old = .slow ∨ old = .topup then none else q.startFlow
    stall := if (old = .fast ∨ old = .slow ∨ old = .topup) ∧ ¬(new = .fast ∨ new = .slow ∨ new = .topup) then none else q.stall
    flowStill := if old = .settle then none else q.flowStill
    settleLimit := if old = .settle then none else q.settleLimit
    snift := if old = .snift then none else q.snift }

/-- The phase becomes `p`, and the timers of the phase left are stopped (R78). -/
def enterPhase (p : Phase) (h : HeadId) (s : State) : State :=
  modSeq h (fun q => { q with phase := p, timers := q.timers.leaving q.phase p }) s

/-! ## Recipe table: which revision a head uses, alignment, promotion, members (02) -/

/-- The revision the head uses (R21): a member that has adopted uses the pending revision, every other head with a slot the
current one. -/
def State.usedRevision (s : State) (h : HeadId) : Option Revision :=
  let r := (s.head h).record
  match r.slot with
  | none => none
  | some n => if r.service ≠ .out ∧ r.usesPending = true then (s.slot n).pending else (s.slot n).current

/-- A lead limited to 0 through A_max. -/
def clampLead (rev : Revision) (a : Nat) : Nat := min a rev.recipe.aMax

/-- A trim limited to −T_max through +T_max. -/
def clampTrim (rev : Revision) (t : Int) : Int := max (-(rev.recipe.tMax : Int)) (min (rev.recipe.tMax : Int) t)

/-- A record aligned with a current revision (R24). -/
def alignRecord (rev : Revision) (r : HeadRecord) : HeadRecord :=
  { r with usesPending := false, adoptedRev := some rev.number, a := clampLead rev r.a, pendingA := r.pendingA.map (clampLead rev)
           t := clampTrim rev r.t, pendingT := r.pendingT.map (clampTrim rev) }

/-- The head, which is OUT, is aligned with its slot's current revision (R24). -/
def alignHead (h : HeadId) (s : State) : State :=
  match (s.head h).record.slot with
  | none => s
  | some n =>
    match (s.slot n).current with
    | none => s
    | some rev => modRecord h (alignRecord rev) s

/-- Every OUT head assigned to the slot is aligned with a revision that has become current (R24). -/
def alignOut (n : SlotId) (rev : Revision) (s : State) : State :=
  mapHeads (fun x => if x.record.slot = some n ∧ x.record.service = .out then { x with record := alignRecord rev x.record } else x) s

/-- Every member of the slot is recorded as using the current revision (R34). -/
def membersUseCurrent (n : SlotId) (s : State) : State :=
  mapHeads (fun x => if x.record.slot = some n ∧ x.record.service ≠ .out then { x with record := { x.record with usesPending := false } } else x) s

/-- The slot's pending revision is promoted (R34). -/
def promote (n : SlotId) (s : State) : State :=
  match (s.slot n).pending with
  | none => s
  | some rev =>
    alignOut n rev (membersUseCurrent n
      (modSlot n (fun sl => { sl with current := some rev, pending := none, unadopted := 0, adopted := 0 }) s))

/-- Promotion when the unadopted count of a pending revision is 0 (R34). -/
def promoteIfDone (n : SlotId) (s : State) : State :=
  if (s.slot n).pending.isSome ∧ (s.slot n).unadopted = 0 then promote n s else s

/-- Steps 1 to 3 of R28 on the slot a member leaves; `had` says that the member had adopted. -/
def leaveCounts (n : SlotId) (had : Bool) (s : State) : State :=
  promoteIfDone n (modSlot n (fun sl =>
    { sl with members := sl.members - 1
              unadopted := if sl.pending.isSome ∧ had = false then sl.unadopted - 1 else sl.unadopted
              adopted := if sl.pending.isSome ∧ had = true then sl.adopted - 1 else sl.adopted }) s)

/-- A member becomes OUT and leaves its slot (R28). -/
def becomeOut (h : HeadId) (s : State) : State :=
  let s' := modRecord h (fun r => { r with service := .out }) s
  match (s.head h).record.slot with
  | none => s'
  | some n => alignHead h (leaveCounts n (s.head h).record.usesPending s')

/-- An OUT head becomes JOINING and a member of its slot (R27). -/
def becomeJoining (h : HeadId) (s : State) : State :=
  let s' := modRecord h (fun r => { r with service := .joining, usesPending := false }) s
  match (s.head h).record.slot with
  | none => s'
  | some n => modSlot n (fun sl =>
      { sl with members := sl.members + 1, unadopted := if sl.pending.isSome then sl.unadopted + 1 else sl.unadopted }) s'

/-! ## Service state (03) -/

/-- The head is taken out: a JOINING head, or an IN head in phase EMPTY, becomes OUT; an IN head in any other phase
becomes LEAVING; a LEAVING or OUT head is unchanged (R42, R43, R56). -/
def takeOut (h : HeadId) (s : State) : State :=
  match (s.head h).record.service with
  | .joining => becomeOut h s
  | .inn => if s.phase h = .empty then becomeOut h s else modRecord h (fun r => { r with service := .leaving }) s
  | .leaving => s
  | .out => s

/-- The head is brought in: an OUT head becomes JOINING, a LEAVING head IN again (R41). -/
def bringIn (h : HeadId) (s : State) : State :=
  match (s.head h).record.service with
  | .out => becomeJoining h s
  | .leaving => modRecord h (fun r => { r with service := .inn }) s
  | .joining => s
  | .inn => s

/-! ## Attention causes (10) -/

/-- A head's cause entries change and the line is judged again (R178, R182, R186). -/
def changeCauses (h : HeadId) (f : Causes → Causes) (s : State) : State := judgeLine (modCauses h f s)

/-- The global flags change and the line is judged again (R180, R182). -/
def changeGlobals (f : Globals → Globals) (s : State) : State := judgeLine { s with globals := f s.globals }

/-- EQUIPMENT is raised, and the head is taken out at the same event (R178, R43). -/
def raiseEquipment (d : EquipmentDetail) (h : HeadId) (s : State) : State :=
  takeOut h (changeCauses h (fun c => { c with equipment := some d }) s)

/-- INTERVENTION(PRESENCE_STUCK) is raised; the service state stays (R80, R43). -/
def raisePresenceStuck (h : HeadId) (s : State) : State :=
  changeCauses h (fun c => { c with intervention := some .presenceStuck }) s

/-- INTERVENTION(REPEATED_FAULTS) is raised, and the head is taken out at the same event (R55, R43). -/
def raiseRepeatedFaults (h : HeadId) (s : State) : State :=
  takeOut h (changeCauses h (fun c => { c with intervention := some .repeatedFaults }) s)

/-- FILL_FAULT is raised with its reason (R105, R108). -/
def raiseFillFault (r : Reason) (h : HeadId) (s : State) : State :=
  changeCauses h (fun c => { c with fillFault := some r }) s

/-- TRIM_LIMIT is raised (R146). -/
def raiseTrimLimit (h : HeadId) (s : State) : State := changeCauses h (fun c => { c with trimLimit := true }) s

/-- TRIM_LIMIT is cleared (R186). -/
def clearTrimLimit (h : HeadId) (s : State) : State := changeCauses h (fun c => { c with trimLimit := false }) s

/-- CAL_DONE is raised with the outcome and K_new (R158). -/
def raiseCalDone (o : CalOutcome) (kNew : Option Nat) (h : HeadId) (s : State) : State :=
  changeCauses h (fun c => { c with calDone := some { outcome := o, kNew := kNew } }) s

/-- ANGLE_FAULT is raised (R12). -/
def raiseAngleFault (s : State) : State := changeGlobals (fun g => { g with angleFault := true }) s

/-- REVERSE is raised (R7, R9). -/
def raiseReverse (s : State) : State := changeGlobals (fun g => { g with reverse := true }) s

/-- VERDICT_LOSS is raised (R117, R122). -/
def raiseVerdictLoss (s : State) : State := changeGlobals (fun g => { g with verdictLoss := true }) s

/-- One more fault of the FILL_FAULT class on the head: the third in a row raises REPEATED_FAULTS and starts the count again (R55). -/
def countFault (h : HeadId) (s : State) : State :=
  if (s.head h).record.faultCount + 1 < Config.faultLimit then modRecord h (fun r => { r with faultCount := r.faultCount + 1 }) s
  else raiseRepeatedFaults h (modRecord h (fun r => { r with faultCount := 0 }) s)

/-! ## A new K (R45, R51, R159) -/

/-- A new K takes effect: the trim restarts and TRIM_LIMIT is cleared. -/
def takeK (k : Nat) (h : HeadId) (s : State) : State :=
  clearTrimLimit h (modRecord h (fun r => { r with k := k, stagedK := none, t := 0, pendingT := none, drift := 0 }) s)

/-- A K is written to the head: at once when it is OUT, staged otherwise (R45, R159). -/
def writeK (k : Nat) (h : HeadId) (s : State) : State :=
  if (s.head h).record.service = .out then takeK k h s else modRecord h (fun r => { r with stagedK := some k }) s

/-! ## Pilots: opens, releases, withdrawals (09) -/

/-- A pilot's record. -/
def Pilots.get (q : Pilots) : Pilot → PilotRecord
  | .gas => q.gas | .fast => q.fast | .slow => q.slow | .snift => q.snift

/-- A pilot's record is replaced. -/
def Pilots.put (q : Pilots) (p : Pilot) (r : PilotRecord) : Pilots :=
  match p with
  | .gas => { q with gas := r } | .fast => { q with fast := r } | .slow => { q with slow := r } | .snift => { q with snift := r }

/-- A pilot's state. -/
def State.pilot (s : State) (h : HeadId) (p : Pilot) : PilotState := ((s.head h).pilots.get p).state

/-- A pilot is energised: BOOST or HOLD (R164). -/
def State.energised (s : State) (h : HeadId) (p : Pilot) : Bool := decide (s.pilot h p ≠ .off)

/-- The pilots an open names (R165). -/
def OpenKind.pilots : OpenKind → List Pilot
  | .fill => [.fast, .slow] | .topUp => [.slow] | .snift => [.snift] | .gas => [.gas]

/-- The class of an open as its rank in the grant order: FILL, SNIFT, GAS (R165, R168). -/
def OpenKind.rank : OpenKind → Nat
  | .fill => 0 | .topUp => 0 | .snift => 1 | .gas => 2

/-- The head's entry in the pilot queue, of which it has at most one (R165). -/
def State.entryOf (s : State) (h : HeadId) : Option Entry := s.pilotQueue.find? fun e => decide (e.head = h)

/-- The head's entry leaves the pilot queue (R169, R172). -/
def withdraw (h : HeadId) (s : State) : State := putQueue (s.pilotQueue.filter fun e => decide (e.head ≠ h)) s

/-- An entry joins the queue's set. The list is kept in ascending head number, so that equal sets are equal lists (R165). -/
def insertEntry (e : Entry) : List Entry → List Entry
  | [] => [e]
  | x :: rest =>
    if e.head.val < x.head.val then e :: x :: rest else if e.head.val = x.head.val then e :: rest else x :: insertEntry e rest

/-- The head queues an open with the step count current at the event (R79, R165). -/
def queueOpen (k : OpenKind) (h : HeadId) (s : State) : State :=
  putQueue (insertEntry { head := h, kind := k, step := s.tracker.stepCount } s.pilotQueue) s

/-- A pilot of the head that goes OFF is no longer on the boost of the grant that holds a slot; the slot stays held (R166, R171,
log entry 10). -/
def dropFromBoosts (h : HeadId) (p : Pilot) (s : State) : State :=
  putBoosts (s.boosts.map fun o => o.map fun g =>
    if g.head = h then { g with pilots := g.pilots.filter fun q => decide (q ≠ p) } else g) s

/-- A pilot record that goes to OFF, its release time becoming now (R171). -/
def PilotRecord.turnOff (now : Time) (r : PilotRecord) : PilotRecord := { r with state := .off, released := some now }

/-- A pilot goes to OFF, its release time becoming now (R171). -/
def switchOff (p : Pilot) (h : HeadId) (s : State) : State :=
  dropFromBoosts h p (modPilots h (fun q => q.put p ((q.get p).turnOff s.now)) s)

/-- A release of one pilot of the head (R171): an energised pilot goes OFF, a queued entry that names it is withdrawn, otherwise
nothing happens. -/
def release (p : Pilot) (h : HeadId) (s : State) : State :=
  if s.energised h p then switchOff p h s
  else match s.entryOf h with
    | none => s
    | some e => if e.kind.pilots.contains p then withdraw h s else s

end Sys2Proof.Machine
end

