-- ==== Sys2Proof/Machine/Dose.lean ====
section
/-! DEFINITION. The whole-number arithmetic of the part: thresholds, counted pulses, the sample, the final volume and its tests (04),
the learning and trim steps (07), the calibration division and its judgement (08). Pure functions of tickets and numbers. -/

namespace Sys2Proof.Machine

/-! ## Seating: snapshot and thresholds -/

/-- The snapshot a seating takes from the head's working values and the revision it uses, with E, F and E_top (R64, R114). -/
def snapshotOf (r : HeadRecord) (rev : Revision) : Snapshot :=
  { k := r.k, a := r.a, t := r.t
    e := (rev.recipe.vt : Int) + r.t - (r.a : Int)
    f := (rev.recipe.vt : Int) - (rev.recipe.s : Int)
    eTop := (rev.recipe.vt : Int) + r.t - (rev.recipe.aTop : Int)
    recipe := rev.recipe }

/-- A ticket at its opening (R81, R113). -/
def newTicket (tag : Tag) (h : HeadId) (n : SlotId) (r : HeadRecord) (rev : Revision) : Ticket :=
  { tag := tag, head := h, slot := n, revision := rev.number, snapshot := snapshotOf r rev, p := 0, d := 0, dClose := none, x := none
    glitches := 0, noSlow := false, toppedUp := false, settleCut := false, outlier := false, kept := false, reasons := 0#16
    disposition := .pending, doseEnd := none, headEnd := none, verdict := none }

/-! ## Counting -/

/-- The pulse at `now` is a glitch: less than 40 µs after the last counted one (R61). -/
def isGlitch (lastCounted : Option Time) (now : Time) : Bool :=
  match lastCounted with
  | none => false
  | some t => decide (now - t < Config.glitchInterval)

/-- A counted pulse adds the snapshot K to D and 1 to P, each saturating (R63). -/
def Ticket.count (t : Ticket) : Ticket :=
  { t with p := min (t.p + 1) Config.pulseMax, d := min (t.d + t.snapshot.k) Config.fineMax }

/-- D has reached a threshold of this many du (R64, R65). -/
def Ticket.reached (t : Ticket) (du : Int) : Bool := decide (256 * du ≤ (t.d : Int))

/-- The crossing a counted pulse hands over (R65). -/
inductive DoseCrossing
  | none | switch | close | topUpClose
  deriving DecidableEq, Repr

/-- The thresholds armed by the phase, tested in the order of R65's table. -/
def Ticket.crossing (t : Ticket) : Phase → DoseCrossing
  | .fast => if t.reached t.snapshot.e then .close else if t.reached t.snapshot.f then .switch else .none
  | .slow => if t.reached t.snapshot.e then .close else .none
  | .topup => if t.reached t.snapshot.eTop then .topUpClose else .none
  | .settle | .empty | .seated | .pressurize | .snift | .done => .none

/-- D_close is recorded once, as D at the event (R67, R68). -/
def Ticket.recordClose (t : Ticket) : Ticket := { t with dClose := some (t.dClose.getD t.d) }

/-! ## Sample, final volume, tests -/

/-- The afterflow sample x: D − 256·E + 128 divided by 256, rounded towards minus infinity (R70). -/
def Ticket.sample (t : Ticket) : Int := ((t.d : Int) - 256 * t.snapshot.e + 128) / 256

/-- The sample and the OUTLIER flag are recorded (R70, R71). -/
def Ticket.recordSample (t : Ticket) : Ticket :=
  { t with x := some t.sample, outlier := decide (2 * (t.snapshot.recipe.aMax : Int) < t.sample) }

/-- The final volume: D + 128 divided by 256, the remainder discarded (R72). -/
def Ticket.finalVolume (t : Ticket) : Nat := (t.d + 128) / 256

/-- The top-up test: final below Vt + T − U (R73). -/
def Ticket.topUpMet (t : Ticket) : Bool :=
  decide ((t.finalVolume : Int) < (t.snapshot.recipe.vt : Int) + t.snapshot.t - (t.snapshot.recipe.u : Int))

/-- The test counts: top-up enabled, no forced reason, TOPPED_UP clear, close-by not passed (R91). -/
def Ticket.topUpCounts (t : Ticket) (closeByPassed : Bool) : Bool :=
  t.snapshot.recipe.topUp && !t.forced && !t.toppedUp && !closeByPassed

/-- The LOW test: final − T below Vt − R_lo (R74). -/
def Ticket.isLow (t : Ticket) : Bool :=
  decide ((t.finalVolume : Int) - t.snapshot.t < (t.snapshot.recipe.vt : Int) - (t.snapshot.recipe.rLo : Int))

/-- The HIGH test: final − T above Vt + R_hi (R74). -/
def Ticket.isHigh (t : Ticket) : Bool :=
  decide ((t.snapshot.recipe.vt : Int) + (t.snapshot.recipe.rHi : Int) < (t.finalVolume : Int) - t.snapshot.t)

/-- The reasons after the tolerance tests, which are made only where no forced reason stands (R74). -/
def Ticket.toleranceReasons (t : Ticket) : Half :=
  if t.forced then t.reasons
  else t.reasons ||| (if t.isLow then Reason.low.bit else 0#16) ||| (if t.isHigh then Reason.high.bit else 0#16)

/-- Steps 1 and 2 of dose end: final volume, tolerance tests, dose-end record and disposition (R103, R104). -/
def Ticket.judge (t : Ticket) : Ticket :=
  { t with reasons := t.toleranceReasons
           doseEnd := some { outcome := if t.forced then .forced else .byVolume, final := t.finalVolume }
           disposition := if t.toleranceReasons = 0#16 then .good else .reject }

/-! ## Learning and trim (07) -/

/-- A signed number divided by 2^g with rounding half away from zero; g 0 leaves it (R139, R144). -/
def halfAway (d : Int) (g : Nat) : Int :=
  if g = 0 then d else d.sign * (((d.natAbs + 2 ^ (g - 1)) / 2 ^ g : Nat) : Int)

/-- The learning step from a difference: scaled by g and limited to ±A_step_max (R139). -/
def learningStep (r : Recipe) (d : Int) : Int :=
  max (-(r.aStepMax : Int)) (min (r.aStepMax : Int) (halfAway d r.g))

/-- The ticket's sample is used for learning (R137, the conditions on the ticket). -/
def Ticket.teaches (t : Ticket) : Bool :=
  t.snapshot.recipe.learning && t.x.isSome && !t.outlier && !t.noSlow && !t.forced

/-- The new pending A from a base and a sample (R138 to R140). -/
def learnedLead (r : Recipe) (aMax : Nat) (base : Nat) (x : Int) : Nat :=
  (max 0 (min (aMax : Int) ((base : Int) + learningStep r (x - (base : Int))))).toNat

/-- The volume error of a level error: the product with N over 64, rounded half away from zero (R143). -/
def volumeError (n : Nat) (level : Int) : Int := level.sign * (((level.natAbs * n + 32) / 64 : Nat) : Int)

/-- The trim step of a level error (R143, R144). -/
def trimStep (r : Recipe) (level : Int) : Int := halfAway (volumeError r.n level) r.gt

/-- The drift counter after a trim step whose new value is `v` (R145). -/
def driftAfter (tMax : Nat) (v : Int) (drift : Int) : Int :=
  if (tMax : Int) < v then min 7 (drift + 1) else if v < -(tMax : Int) then max (-7) (drift - 1) else drift

/-! ## Calibration (08) -/

/-- The dividend of a calibration (R155). -/
def calDividend (w p : Nat) : Nat := w * 256 + p / 2

/-- One step of the restoring division on (partial remainder, quotient) with the dividend's bit number (R156). -/
def divideStep (dividend p : Nat) (acc : Nat × Nat) (bit : Nat) : Nat × Nat :=
  let r := 2 * acc.1 + dividend / 2 ^ bit % 2
  if p ≤ r then (r - p, 2 * acc.2 + 1) else (r, 2 * acc.2)

/-- The dividend's bit numbers in the order they are taken: 25 down to 0 (R156). -/
def dividendBits : List Nat := (List.range 26).reverse

/-- The calibration after its 26 division steps (R156). -/
def Calibration.divided (c : Calibration) : Calibration :=
  let acc := dividendBits.foldl (divideStep c.dividend c.p) (c.remainder, c.quotient)
  { c with remainder := acc.1, quotient := acc.2 }

/-- The outcome of a K_new (R157). -/
def Calibration.outcome (c : Calibration) (kNew : Nat) : CalOutcome :=
  if kInRange kNew = false then .outOfRange
  else if c.force = false ∧ c.kSnap / 8 < ((kNew : Int) - (c.kSnap : Int)).natAbs then .outOfBand
  else .staged

end Sys2Proof.Machine
end

