-- ==== Sys2Proof/Machine/Sequencer.lean ====
section
/-! DEFINITION. The fill sequence of a head (05): dose end with learning (07) and its report, forced endings, settling and top-up, grants
as the sequencer takes them, seating and the zone crossings, discharge into the transit list (06), commit-angle
processing (03). Grants themselves are made by the arbiter at the end of the event (Arbiter.lean). -/

namespace Sys2Proof.Machine

/-! ## Dose end (section 5.9) -/

/-- Afterflow learning from the head's ticket at dose end (R137 to R140). -/
def learn (h : HeadId) (s : State) : State :=
  match (s.head h).ticket, s.usedRevision h with
  | some tk, some rev =>
    match tk.x with
    | some x =>
      if tk.teaches = true ∧ s.learningHold = false then
        modRecord h (fun r => { r with pendingA := some (learnedLead tk.snapshot.recipe rev.recipe.aMax (r.pendingA.getD r.a) x) }) s
      else s
    | none => s
  | _, _ => s

/-- The dose-end report (R105): a reason of the FILL_FAULT class raises the cause and counts; a GOOD ticket clears the cause and
the count; any other REJECT ticket changes neither. -/
def reportDoseEnd (h : HeadId) (s : State) : State :=
  match (s.head h).ticket with
  | none => s
  | some tk =>
    match tk.faultReason with
    | some r => countFault h (raiseFillFault r h s)
    | none =>
      if tk.disposition = .good then
        modRecord h (fun r => { r with faultCount := 0 }) (changeCauses h (fun c => { c with fillFault := none }) s)
      else s

/-- Dose end (R103): judgement, GAS released, SNIFT entered and its open queued, learning, report. -/
def doseEnd (h : HeadId) (s : State) : State :=
  reportDoseEnd h (learn h (queueOpen .snift h (enterPhase .snift h (release .gas h (modTicket h Ticket.judge s)))))

/-! ## Forced endings (section 5.7) -/

/-- A forced ending out of FAST or SLOW is reported to the dose counter, which records D_close (R68). -/
def closeIfMetered (h : HeadId) (s : State) : State :=
  if (s.phase h).metered then modTicket h Ticket.recordClose s else s

/-- The phase becomes SETTLE with the given settle, and the flow-still and settle-limit timers start (R90). -/
def enterSettle (w : Settle) (h : HeadId) (s : State) : State :=
  startTimer .settleLimit h (startTimer .flowStill h (modSeq h (fun q => { q with settle := w }) (enterPhase .settle h s)))

/-- FIRST out of FAST or SLOW, SECOND out of TOPUP (R90). -/
def settleAfter (p : Phase) : Settle := if p.metered then .first else .second

/-- The fill pilots of the head, FAST and SLOW, are released (R88, R97). -/
def releaseFill (h : HeadId) (s : State) : State := release .slow h (release .fast h s)

/-- A forced ending to SETTLE out of FAST, SLOW or TOPUP (R97); other phases are not touched. -/
def forceToSettle (r : Reason) (h : HeadId) (s : State) : State :=
  match s.phase h with
  | .fast | .slow | .topup =>
    enterSettle (settleAfter (s.phase h)) h (closeIfMetered h (stopTimer .stall h (stopTimer .startFlow h
      (releaseFill h (modTicket h (Ticket.addReason r) s)))))
  | .empty | .seated | .pressurize | .settle | .snift | .done => s

/-- A forced ending straight to SNIFT out of SEATED to TOPUP (R98); a head in EMPTY, SNIFT or DONE is not touched. -/
def forceToSnift (r : Reason) (h : HeadId) (s : State) : State :=
  if (s.phase h).filling then
    doseEnd h (closeIfMetered h (stopTimers h (withdraw h (release .snift h (releaseFill h (modTicket h (Ticket.addReason r) s))))))
  else s

/-- EQUIPMENT is raised and the head forced with the matching reason (R99). -/
def equipmentEnding (d : EquipmentDetail) (r : Reason) (h : HeadId) (s : State) : State := forceToSnift r h (raiseEquipment d h s)

/-! ## Counted pulses, settle, top-up -/

/-- The timers on a counted pulse, by phase (R86). TOPUP is after its SLOW grant while SLOW is energised (log entry 20). -/
def pulseTimers (h : HeadId) (s : State) : State :=
  match s.phase h with
  | .fast | .slow => startTimer .stall h (stopTimer .startFlow h s)
  | .topup => if s.energised h .slow then startTimer .stall h (stopTimer .startFlow h s) else s
  | .settle => startTimer .flowStill h s
  | .empty | .seated | .pressurize | .snift | .done => s

/-- The close crossing (R67, R88): D_close is recorded, the fill pilots are released, NO_SLOW is set out of FAST, and the first
settle begins. -/
def closeCrossing (h : HeadId) (s : State) : State :=
  enterSettle .first h (releaseFill h
    (modTicket h (fun tk => { tk.recordClose with noSlow := tk.noSlow || decide (s.phase h = .fast) }) s))

/-- The sequencer takes the crossing a pulse handed over (R87, R88, R94). -/
def takeDoseCrossing (c : DoseCrossing) (h : HeadId) (s : State) : State :=
  match c with
  | .none => s
  | .switch => enterPhase .slow h (release .fast h s)
  | .close => closeCrossing h s
  | .topUpClose => enterSettle .second h (release .slow h s)

/-- A counted pulse is added to the ticket and touches the timers (R61, R63, R86). -/
def countPulse (tk : Ticket) (h : HeadId) (s : State) : State :=
  pulseTimers h (modHead h (fun x => { x with lastCounted := some s.now, ticket := some tk.count }) s)

/-- A glitch is added to the ticket's glitch count (R62). -/
def countGlitch (h : HeadId) (s : State) : State := modTicket h (fun t => { t with glitches := t.glitches + 1 }) s

/-- A stray pulse (R60). -/
def strayPulse (h : HeadId) (s : State) : State :=
  modRecord h (fun r => { r with stray := min (r.stray + 1) Config.strayMax }) s

/-- TOPUP is entered: TOPPED_UP set, the top-up open queued (R93). -/
def enterTopUp (h : HeadId) (s : State) : State :=
  enterPhase .topup h (queueOpen .topUp h (modTicket h (fun tk => { tk with toppedUp := true }) s))

/-- The flow has come to rest (R91). The timer runs in SETTLE only (R78); elsewhere nothing happens (log entry 15). -/
def flowStill (h : HeadId) (s : State) : State :=
  match s.phase h, (s.head h).seq.settle, (s.head h).ticket with
  | .settle, .first, some tk =>
    let s' := modTicket h Ticket.recordSample s
    if tk.topUpCounts (s.head h).seq.closeByPassed = true ∧ tk.topUpMet = true then enterTopUp h s' else doseEnd h s'
  | .settle, .second, some _ => doseEnd h s
  | _, _, _ => s

/-- The snift time has run: SNIFT released, head end VENTED, DONE (R106). The timer runs in SNIFT only (R78); elsewhere nothing
happens (log entry 15). -/
def sniftDone (h : HeadId) (s : State) : State :=
  if s.phase h = .snift then
    enterPhase .done h (modTicket h (fun tk => { tk with headEnd := some .vented }) (release .snift h s))
  else s

/-! ## Grants as the sequencer takes them -/

/-- The GAS grant: gas granted, the equalize timer started, the pressure-equal input sampled (R83). -/
def gasGrant (h : HeadId) (s : State) : State :=
  let s' := startTimer .equalize h (modSeq h (fun q => { q with gasGranted := true }) s)
  if (s'.head h).pressureEqual then equipmentEnding .pressureSwitch .pressureSwitch h s' else s'

/-- The sequencer takes a grant (R83, R85, R93, R106). -/
def takeGrant (k : OpenKind) (h : HeadId) (s : State) : State :=
  match k, s.phase h with
  | .gas, .pressurize => gasGrant h s
  | .fill, .pressurize => startTimer .startFlow h (enterPhase .fast h s)
  | .topUp, .topup => startTimer .startFlow h s
  | .snift, .snift => startTimer .snift h s
  | _, _ => s

/-- A rising pressure-equal edge that counts: equalized, the equalize timer stopped, the FILL open queued if the fill crossing is
reached (R84). -/
def equalize (h : HeadId) (s : State) : State :=
  let s' := stopTimer .equalize h (modSeq h (fun q => { q with equalized := true }) s)
  if (s.head h).seq.fillReached then queueOpen .fill h s' else s'

/-! ## Seating (section 5.2) and tags (section 6.3) -/

/-- An existing ticket, live or in transit, holds the tag (R115). -/
def State.tagHeld (s : State) (tag : Tag) : Bool :=
  s.transit.any (fun tk => decide (tk.tag = tag)) || s.heads.toList.any fun x => x.ticket.any fun tk => decide (tk.tag = tag)

/-- The first tag no existing ticket holds, from the offered one on, wrapping at 4095 (R115). -/
def State.freeTag (s : State) : Nat → Tag → Tag
  | 0, tag => tag
  | fuel + 1, tag => if s.tagHeld tag then s.freeTag fuel (tag + 1) else tag

/-- The tag the next seating takes (R115). -/
def State.nextTag (s : State) : Tag := s.freeTag Config.tagOffers s.tagCounter

/-- A container is seated (R81). A head without a slot or a revision, which no IN head is, seats nothing (log entry 15). -/
def seat (h : HeadId) (s : State) : State :=
  match (s.head h).record.slot, s.usedRevision h with
  | some n, some rev =>
    putTagCounter (s.nextTag + 1) (modHead h (fun x =>
      { x with record := { x.record with presenceReleased := false }
               seq := { Sequencer.powerOn with phase := .seated, timers := x.seq.timers }
               ticket := some (newTicket s.nextTag h n x.record rev) }) s)
  | _, _ => s

/-! ## Zone crossings -/

/-- The infeed crossing (R80). -/
def infeedCrossing (h : HeadId) (s : State) : State :=
  let x := s.head h
  if x.record.service = .inn ∧ x.seq.phase = .empty ∧ x.presence = true then
    (if x.record.presenceReleased then seat h s else raisePresenceStuck h s)
  else s

/-- The gas crossing (R82). -/
def gasCrossing (h : HeadId) (s : State) : State :=
  if s.phase h = .seated then enterPhase .pressurize h (queueOpen .gas h s) else s

/-- The fill crossing (R84). -/
def fillCrossing (h : HeadId) (s : State) : State :=
  match s.phase h with
  | .pressurize =>
    let s' := modSeq h (fun q => { q with fillReached := true }) s
    if (s.head h).seq.equalized then queueOpen .fill h s' else s'
  | .seated => modSeq h (fun q => { q with fillReached := true }) s
  | .empty | .fast | .slow | .settle | .topup | .snift | .done => s

/-- The close-by crossing (R95). -/
def closeByCrossing (h : HeadId) (s : State) : State :=
  let s' := modSeq h (fun q => { q with closeByPassed := true }) s
  match s.phase h with
  | .empty => s
  | .fast | .slow | .topup => forceToSettle .closeBy h s'
  | .seated | .pressurize => forceToSnift .closeBy h s'
  | .settle | .snift | .done => s'

/-- The snift-by crossing (R96). -/
def sniftByCrossing (h : HeadId) (s : State) : State :=
  match s.phase h with
  | .seated | .pressurize | .fast | .slow | .topup => forceToSnift .sniftBy h s
  | .settle => doseEnd h (modTicket h (fun tk => { tk with settleCut := true }) s)
  | .snift | .done | .empty => s

/-! ## Discharge (R108, section 6.4) -/

/-- The discharge lines report a position (R118). -/
def reportPosition (container reject : Bool) (s : State) : State := putLines { container := container, reject := reject } s

/-- A full transit list loses its oldest ticket that is not KEPT, as displaced (R117). -/
def displaceIfFull (s : State) : State :=
  if s.transit.length < Config.transitMax then s
  else raiseVerdictLoss (putTransit (s.transit.eraseP fun tk => !tk.kept) s)

/-- The head's ticket joins the tail of the transit list, KEPT clear and without a verdict; the phase becomes EMPTY and the
live ticket absent (R108, R116). -/
def moveToTransit (tk : Ticket) (h : HeadId) (s : State) : State :=
  let s' := displaceIfFull s
  enterPhase .empty h (modHead h (fun x => { x with ticket := none })
    (putTransit (s'.transit ++ [{ tk with kept := false, verdict := none }]) s'))

/-- The handed ticket goes to transit and is reported (R116, R118). -/
def handOver (h : HeadId) (s : State) : State :=
  match (s.head h).ticket with
  | none => enterPhase .empty h s
  | some tk => reportPosition true (decide (tk.disposition = .reject)) (moveToTransit tk h s)

/-- A ticket cut short: head end CUT_SHORT, SNIFT_SHORT added, disposition REJECT (R108). -/
def Ticket.cutShort (t : Ticket) : Ticket :=
  { t.addReason .sniftShort with headEnd := some .cutShort, disposition := .reject }

/-- Discharge in SNIFT (R108): the SNIFT pilot is released or its open withdrawn, the ticket cut short, FILL_FAULT raised, the ticket
handed over; a ticket not counted at its dose end is counted, the head by then being EMPTY (R55, log entry 8). -/
def dischargeSnift (h : HeadId) (s : State) : State :=
  let counted := match (s.head h).ticket with
    | none => true
    | some tk => tk.faultReason.isSome
  let s' := handOver h (raiseFillFault .sniftShort h (modTicket h Ticket.cutShort (stopTimer .snift h (release .snift h s))))
  if counted then s' else countFault h s'

/-- The discharge crossing (R108, R119). -/
def dischargeCrossing (h : HeadId) (s : State) : State :=
  match s.phase h with
  | .empty => reportPosition false false s
  | .done => handOver h s
  | .snift => dischargeSnift h s
  | .seated | .pressurize | .fast | .slow | .settle | .topup => dischargeSnift h (sniftByCrossing h s)

/-! ## Commit-angle processing (section 3.4) -/

/-- Step 1 (R49): the presence latch. -/
def commitPresence (h : HeadId) (s : State) : State :=
  if (s.head h).presence then s else modRecord h (fun r => { r with presenceReleased := true }) s

/-- Step 2 (R50): the stray pulse count. -/
def commitStray (h : HeadId) (s : State) : State :=
  let s' := if Config.strayLimit ≤ (s.head h).record.stray then raiseEquipment .strayFlow h s else s
  modRecord h (fun r => { r with stray := 0 }) s'

/-- Step 3 (R51): a staged K. -/
def commitK (h : HeadId) (s : State) : State :=
  match (s.head h).record.stagedK with
  | none => s
  | some k => takeK k h s

/-- Learning returned to its starting point: A becomes A_init of the revision used or 0, T 0, pending values dropped, drift 0 (R47, R52). -/
def resetLearning (rev : Option Revision) (r : HeadRecord) : HeadRecord :=
  { r with a := match rev with
             | none => 0
             | some v => v.recipe.aInit
           t := 0, pendingA := none, pendingT := none, drift := 0 }

/-- Step 4 (R52): a staged learning reset, or the pending values. -/
def commitPending (h : HeadId) (s : State) : State :=
  modRecord h (fun r =>
    if r.resetStaged then { resetLearning (s.usedRevision h) r with resetStaged := false }
    else { r with a := r.pendingA.getD r.a, t := r.pendingT.getD r.t, pendingA := none, pendingT := none }) s

/-- The recipe table's part of a slot change at commit: a member leaves its old slot's counts and joins the new slot's, as an adopter
where that slot holds a pending revision (R29). A change to the head's own slot moves nothing. -/
def moveCounts (h : HeadId) (n : SlotId) (s : State) : State :=
  let r := (s.head h).record
  if r.service = .out ∨ r.slot = some n then s
  else
    let s1 := match r.slot with
      | none => s
      | some old => leaveCounts old r.usesPending s
    modRecord h (fun r' => { r' with usesPending := (s1.slot n).pending.isSome })
      (modSlot n (fun sl => { sl with members := sl.members + 1, adopted := if sl.pending.isSome then sl.adopted + 1 else sl.adopted }) s1)

/-- Step 5 (R53): a pending slot. -/
def commitSlot (h : HeadId) (s : State) : State :=
  match (s.head h).record.pendingSlot with
  | none => s
  | some n =>
    let s1 := modRecord h (fun r => { r with slot := some n, pendingSlot := none }) (moveCounts h n s)
    let rev := s1.usedRevision h
    modRecord h (fun r => { r with a := match rev with
                                     | none => 0
                                     | some v => v.recipe.aInit
                                   t := 0, drift := 0, resetStaged := false, adoptedRev := rev.map (·.number) }) s1

/-- Step 6 (R33, R54): a member adopts its slot's pending revision, which may promote it. -/
def commitAdopt (h : HeadId) (s : State) : State :=
  let r := (s.head h).record
  match r.slot with
  | none => s
  | some n =>
    match (s.slot n).pending with
    | none => s
    | some rev =>
      if r.service = .out ∨ r.usesPending = true then s
      else
        promoteIfDone n (modSlot n (fun sl => { sl with unadopted := sl.unadopted - 1, adopted := sl.adopted + 1 })
          (modRecord h (fun r' => { r' with usesPending := true, adoptedRev := some rev.number
                                            a := clampLead rev r'.a, t := clampTrim rev r'.t }) s))

/-- Step 7 (R54): the service change. -/
def commitService (h : HeadId) (s : State) : State :=
  match (s.head h).record.service with
  | .joining => modRecord h (fun r => { r with service := .inn }) s
  | .leaving => becomeOut h s
  | .out => s
  | .inn => s

/-- The commit crossing: the seven steps in order (R48). -/
def commitCrossing (h : HeadId) (s : State) : State :=
  commitService h (commitAdopt h (commitSlot h (commitPending h (commitK h (commitStray h (commitPresence h s))))))

/-! ## Delivery of crossings (section 1.4) -/

/-- The seven zones. -/
inductive Zone
  | infeed | gas | fill | closeBy | sniftBy | discharge | commit
  deriving DecidableEq, Repr

/-- The head pitch, 7680/H counts (section 1.3). -/
def LineSetup.pitch (l : LineSetup) : Nat := Config.counts / l.headCount

/-- The head-relative angle: angle − h × pitch, reduced modulo 7680 (R5). -/
def LineSetup.relative (l : LineSetup) (angle : Nat) (h : HeadId) : Nat :=
  (angle + (Config.counts - h.val * l.pitch % Config.counts)) % Config.counts

/-- The zone whose angle this is (R5). Zone angles are strictly increasing, so at most one matches. -/
def LineSetup.zoneAt (l : LineSetup) (theta : Nat) : Option Zone :=
  if theta = l.infeed then some .infeed else if theta = l.gas then some .gas else if theta = l.fill then some .fill
  else if theta = l.closeBy then some .closeBy else if theta = l.sniftBy then some .sniftBy
  else if theta = l.discharge then some .discharge else if theta = l.commit then some .commit else none

/-- A crossing is delivered to the block that owns the state it changes (R6). -/
def deliver (z : Zone) (h : HeadId) (s : State) : State :=
  match z with
  | .infeed => infeedCrossing h s
  | .gas => gasCrossing h s
  | .fill => fillCrossing h s
  | .closeBy => closeByCrossing h s
  | .sniftBy => sniftByCrossing h s
  | .discharge => dischargeCrossing h s
  | .commit => commitCrossing h s

/-- The head's crossing at the present angle, if its head-relative angle is a zone angle (R5). -/
def crossHead (h : HeadId) (s : State) : State :=
  match s.tracker.line.zoneAt (s.tracker.line.relative s.tracker.angle h) with
  | none => s
  | some z => deliver z h s

end Sys2Proof.Machine
end

