-- ==== Sys2Proof/Machine/Arbiter.lean ====
section
/-! DEFINITION. The pilot arbiter (09): eligibility, grant order, grants at the end of an event, boost completions and dwell ends, and
its part of the resets; with the meanings of BOOST_COMPLETION and DWELL_END. -/

namespace Sys2Proof.Machine

/-- The pilot's dwell end at this release time: the minimum dwell of the line setup later (R167). -/
def LineSetup.dwellEnd (l : LineSetup) (released : Time) : Time := released + Config.timerUnit * l.minDwell

/-- The pilot's minimum dwell is behind it, or it was never released (R167). A dwell end that falls at the present moment falls together
with every event taken at it, and counts from when it is itself taken (R173, log entry 23). -/
def State.dwellOver (s : State) (h : HeadId) (p : Pilot) : Bool :=
  let r := (s.head h).pilots.get p
  match r.released with
  | none => true
  | some released =>
    let due := s.tracker.line.dwellEnd released
    decide (due < s.now ∨ (due = s.now ∧ r.dwellTaken = some due))

/-- An entry is eligible when each pilot it names is OFF and past its dwell (R167). -/
def State.eligible (s : State) (e : Entry) : Bool :=
  e.kind.pilots.all fun p => !s.energised e.head p && s.dwellOver e.head p

/-- The age of an entry: the present step count less its step, modulo 2^32 (R168). -/
def State.age (s : State) (e : Entry) : Nat := (s.tracker.stepCount - e.step).toNat

/-- `a` stands before `b` in the grant order: class, then the earlier step, then the lower head (R168). -/
def State.grantBefore (s : State) (a b : Entry) : Bool :=
  decide (a.kind.rank < b.kind.rank ∨ (a.kind.rank = b.kind.rank ∧
    (s.age b < s.age a ∨ (s.age a = s.age b ∧ a.head.val < b.head.val))))

/-- The eligible entry first in the grant order (R168). -/
def State.firstEligible (s : State) : Option Entry :=
  (s.pilotQueue.filter s.eligible).foldl (fun acc e =>
    match acc with
    | none => some e
    | some b => if s.grantBefore e b then some e else some b) none

/-- A FREE boost slot, the lowest-numbered one (R166: which one is not observable; log entry 13). -/
def State.freeBoost (s : State) : Option BoostId := (List.finRange 6).find? fun i => (s.boosts[i.val]).isNone

/-- Each of the pilots goes from OFF to BOOST (R169). -/
def energise (ps : List Pilot) (h : HeadId) (s : State) : State :=
  modPilots h (fun q => ps.foldl (fun q p => q.put p { q.get p with state := .boost }) q) s

/-- One grant (R169): the slot is held, the pilots energised, the entry leaves the queue, the sequencer takes the grant. -/
def grant (i : BoostId) (e : Entry) (s : State) : State :=
  let g : Grant := { head := e.head, pilots := e.kind.pilots, completion := s.now + Config.timerUnit * s.tracker.line.boostTime }
  takeGrant e.kind e.head (withdraw e.head (energise e.kind.pilots e.head (putBoosts (s.boosts.set i.val (some g)) s)))

/-- Grants one after another, for as long as a slot is FREE and an eligible entry remains (R168); every grant takes a slot and none
frees one, so six rounds suffice. -/
def grants : Nat → State → State
  | 0, s => s
  | fuel + 1, s =>
    match s.freeBoost, s.firstEligible with
    | some i, some e => grants fuel (grant i e s)
    | _, _ => s

/-- The arbiter makes the grants an event allows, when all heads' parts of it are done (R165, R168). -/
def arbitrate (s : State) : State := grants 6 s

/-- A pilot in BOOST goes to HOLD (R170). -/
def holdPilot (p : Pilot) (q : Pilots) : Pilots :=
  if (q.get p).state = .boost then q.put p { q.get p with state := .hold } else q

/-- The boost completion of a held slot (R170): the slot becomes FREE, and the pilots still on that grant's boost go to HOLD. -/
def completeBoost (i : BoostId) (g : Grant) (s : State) : State :=
  modPilots g.head (fun q => g.pilots.foldl (fun q p => holdPilot p q) q) (putBoosts (s.boosts.set i.val none) s)

/-- BOOST_COMPLETION (R170). A slot that is FREE, or whose boost time has not run, gives no completion. -/
def execBoostCompletion (t : Time) (i : BoostId) (s : State) : Host.Outcome State Fault Refusal :=
  let s' := s.advance t
  match s'.boosts[i.val] with
  | none => .next s'
  | some g => .next (if g.completion ≤ s'.now then arbitrate (completeBoost i g s') else s')

/-- A pilot's dwell end is taken: the entries are judged again and granted as R168 allows (R167). -/
def takeDwellEnd (due : Time) (h : HeadId) (p : Pilot) (s : State) : State :=
  arbitrate (modPilots h (fun q => q.put p { q.get p with dwellTaken := some due }) s)

/-- DWELL_END (R167). A pilot that was never released, or whose dwell has not passed, gives no dwell end. -/
def execDwellEnd (t : Time) (h : HeadId) (p : Pilot) (s : State) : Host.Outcome State Fault Refusal :=
  let s' := s.advance t
  match ((s'.head h).pilots.get p).released with
  | none => .next s'
  | some r =>
    let due := s'.tracker.line.dwellEnd r
    .next (if due ≤ s'.now then takeDwellEnd due h p s' else s')

/-- The pilots of one head at LINE RESET (R175): GAS, FAST and SLOW go OFF, SNIFT stays energised on hold current. -/
def resetPilots (now : Time) (q : Pilots) : Pilots :=
  let off (r : PilotRecord) : PilotRecord := if r.state = .off then r else r.turnOff now
  { gas := off q.gas, fast := off q.fast, slow := off q.slow
    snift := if q.snift.state = .boost then { q.snift with state := .hold } else q.snift }

/-- LINE RESET at the arbiter (R175): the queue emptied, the pilots reset, every slot FREE. -/
def resetArbiter (s : State) : State :=
  mapHeads (fun x => { x with pilots := resetPilots s.now x.pilots })
    (putQueue [] (putBoosts (Vector.replicate 6 none) s))

/-- Step 3 of R101: a head in SNIFT with its SNIFT pilot not energised and no SNIFT open queued queues one. -/
def requeueSnift (h : HeadId) (s : State) : State :=
  if s.phase h = .snift ∧ s.energised h .snift = false ∧ (s.entryOf h).isNone = true then queueOpen .snift h s else s

end Sys2Proof.Machine
end

