-- ==== Sys2Proof/Machine/Tracker.lean ====
section
/-! DEFINITION. The angle tracker (01): encoder changes, crossing-producing steps, reverse motion, the index check; with the
meanings of POWER_ON, FORWARD_STEP, REVERSE_STEP, DIRECTIONLESS_CHANGE and INDEX_EVENT. -/

namespace Sys2Proof.Machine

/-! ## Encoder (R1) -/

/-- The next state of the quadrature sequence in the forward direction, in which channel A leads B: 00, 10, 11, 01 (R1). -/
def Encoder.forward (e : Encoder) : Encoder := { a := !e.b, b := e.a }

/-- The next state in the other direction (R1). -/
def Encoder.backward (e : Encoder) : Encoder := { a := e.b, b := !e.a }

/-- Both channels change at once (R1). -/
def Encoder.both (e : Encoder) : Encoder := { a := !e.a, b := !e.b }

/-! ## Steps -/

/-- The count after, 7679 to 0 (R5, R8). -/
def angleAfter (a : Nat) : Nat := (a + 1) % Config.counts

/-- The count before, 0 to 7679 (R7, R9). -/
def angleBefore (a : Nat) : Nat := (a + (Config.counts - 1)) % Config.counts

/-- The crossings of the present angle are delivered to every installed head, and the grants are made (R5, R6, R165). -/
def deliverCrossings (s : State) : State := arbitrate (forInstalled crossHead s)

/-- The tracker's own part of a crossing-producing step (R5). -/
def Tracker.step (k : Tracker) : Tracker := { k with angle := angleAfter k.angle, stepCount := k.stepCount + 1 }

/-- A crossing-producing step (R5). -/
def crossingStep (s : State) : State := deliverCrossings { s with tracker := s.tracker.step }

/-- The tracker's part of a forward step while BACKING (R8). -/
def Tracker.payBack (k : Tracker) : Tracker :=
  if k.backlog ≤ 1 then { k with angle := angleAfter k.angle, backlog := 0, motion := .tracking, reverseOwed := false }
  else { k with angle := angleAfter k.angle, backlog := k.backlog - 1 }

/-- A forward step at the tracker (R5, R8, R10). -/
def forwardStep (s : State) : State :=
  match s.tracker.motion with
  | .tracking => crossingStep s
  | .backing => { s with tracker := s.tracker.payBack }
  | .unreferenced => s

/-- The tracker aborts every installed head in SEATED to TOPUP with the reason, and the grants follow (R7, R15, R102). -/
def abortAll (r : Reason) (s : State) : State := arbitrate (forInstalled (forceToSnift r) s)

/-- REVERSE is raised and the heads are aborted (R7). -/
def reverseAbort (s : State) : State := abortAll .reverse (raiseReverse s)

/-- The tracker's part of a reverse step while TRACKING (R7). -/
def Tracker.turnBack (k : Tracker) : Tracker :=
  { k with angle := angleBefore k.angle, backlog := 1, motion := .backing, reverseOwed := false }

/-- The tracker's part of a reverse step while BACKING; a backlog of 7680 loses the reference (R9). -/
def Tracker.goBack (k : Tracker) : Tracker :=
  if k.backlog + 1 < Config.counts then { k with angle := angleBefore k.angle, backlog := k.backlog + 1, reverseOwed := false }
  else { k with angle := 0, backlog := 0, motion := .unreferenced, reverseOwed := false }

/-- A reverse step at the tracker (R7, R9, R10). -/
def reverseStep (s : State) : State :=
  match s.tracker.motion with
  | .tracking => reverseAbort { s with tracker := s.tracker.turnBack }
  | .backing =>
    let s' := { s with tracker := s.tracker.goBack }
    if s.tracker.reverseOwed then reverseAbort s' else s'
  | .unreferenced => s

/-! ## Index (section 1.6) -/

/-- At the referencing index, a head in SNIFT or DONE whose angle lies beyond the discharge angle and not beyond the commit angle takes
a discharge crossing (R109). -/
def referencingDischarge (h : HeadId) (s : State) : State :=
  let theta := s.tracker.line.relative 0 h
  if (s.phase h = .snift ∨ s.phase h = .done) ∧ s.tracker.line.discharge < theta ∧ theta ≤ s.tracker.line.commit then
    dischargeCrossing h s
  else s

/-- The tracker's own part of a referencing index (R11). -/
def Tracker.reference (k : Tracker) : Tracker :=
  { k with angle := 0, backlog := 0, motion := .tracking, reverseOwed := false, stepCount := k.stepCount + 1 }

/-- The index event that references the tracker (R11, R109). -/
def referenceIndex (s : State) : State :=
  deliverCrossings (forInstalled referencingDischarge { s with tracker := s.tracker.reference })

/-- `k` crossing-producing steps, one after another (R13). That they are one command, so that no event of another source falls between two
of them, as R13 would let it, is the model's choice (log entry 24). -/
def catchUp : Nat → State → State
  | 0, s => s
  | k + 1, s => catchUp k (crossingStep s)

/-- The mismatch k of an index at angle a: a for extra counts, 7680 − a for lost ones (R12). -/
def mismatch (a : Nat) : Nat := if a < 3840 then a else Config.counts - a

/-- The last index error of an index at angle a (R12). -/
def indexError (a : Nat) : Int := if a < 3840 then (a : Int) else -((Config.counts - a : Nat) : Int)

/-- The tracker's part of the resync for extra counts (R14). -/
def Tracker.resync (k : Tracker) : Tracker :=
  { k with angle := 0, backlog := mismatch k.angle, motion := .backing, reverseOwed := true }

/-- The abort a mismatch larger than half the head pitch brings (R15). -/
def angleAbort (k : Nat) (s : State) : State := if s.tracker.line.pitch / 2 < k then abortAll .angle s else s

/-- An index event at a wrong angle a (R12 to R15). -/
def mismatchedIndex (s : State) : State :=
  let a := s.tracker.angle
  let s' := angleAbort (mismatch a) (raiseAngleFault { s with tracker := { s.tracker with lastIndexError := indexError a } })
  if a < 3840 then { s' with tracker := s'.tracker.resync } else catchUp (mismatch a) s'

/-- An index event at the tracker (R11, R12, R16). -/
def indexEvent (s : State) : State :=
  match s.tracker.motion with
  | .unreferenced => referenceIndex s
  | .tracking => if s.tracker.angle = 0 then s else mismatchedIndex s
  | .backing => s

/-! ## Meanings -/

/-- POWER_ON: every block takes its power-on values (R2, R18, R37, R59, R77, R112, R136, R152, R164–R166, R177, R190). The clock and the
input pins are outside the part and stand as they are (log entry 4). -/
def execPowerOn (t : Time) (s : State) : Host.Outcome State Fault Refusal :=
  .next { State.reset with
    now := (s.advance t).now, encoder := s.encoder
    heads := s.heads.map fun x => Head.powerOn x.presence x.pressureEqual
    freeReads := s.freeReads, pending := s.pending }

/-- FORWARD_STEP (R5, R8, R10). -/
def execForwardStep (t : Time) (s : State) : Host.Outcome State Fault Refusal :=
  .next (forwardStep { s.advance t with encoder := s.encoder.forward })

/-- REVERSE_STEP (R7, R9, R10). -/
def execReverseStep (t : Time) (s : State) : Host.Outcome State Fault Refusal :=
  .next (reverseStep { s.advance t with encoder := s.encoder.backward })

/-- DIRECTIONLESS_CHANGE: discarded, no step is handed on (R1). -/
def execDirectionlessChange (t : Time) (s : State) : Host.Outcome State Fault Refusal :=
  .next { s.advance t with encoder := s.encoder.both }

/-- INDEX_EVENT (R11 to R16). -/
def execIndexEvent (t : Time) (s : State) : Host.Outcome State Fault Refusal := .next (indexEvent (s.advance t))

end Sys2Proof.Machine
end

