-- ==== Sys2Proof/Machine/Events.lean ====
section
/-! DEFINITION. The events of the heads' inputs and timers and of the divider: the meanings of METER_PULSE, PRESENCE_EDGE,
PRESSURE_EQUAL_EDGE, the six timer expiries and DIVISION_COMPLETION. -/

namespace Sys2Proof.Machine

/-- A pulse that passes the filter: counted, and the crossing it hands over, if any, taken with the grants it allows (R63, R65). -/
def countedPulse (tk : Ticket) (h : HeadId) (s : State) : State :=
  match tk.count.crossing (s.phase h) with
  | .none => countPulse tk h s
  | c => arbitrate (takeDoseCrossing c h (countPulse tk h s))

/-- A glitch: the sixteenth on the ticket raises METER_NOISE and forces the head (R62, R99). -/
def glitchPulse (tk : Ticket) (h : HeadId) (s : State) : State :=
  if tk.glitches + 1 = Config.glitchLimit then arbitrate (equipmentEnding .meterNoise .meterNoise h (countGlitch h s))
  else countGlitch h s

/-- A meter pulse at the head's dose counter: stray outside the counting phases, filtered in them (R60, R61). -/
def meterPulse (h : HeadId) (s : State) : State :=
  if (s.phase h).counting then
    match (s.head h).ticket with
    | none => s
    | some tk => if isGlitch (s.head h).lastCounted s.now then glitchPulse tk h s else countedPulse tk h s
  else strayPulse h s

/-- METER_PULSE (R60, R61); the counter of a head that is not installed takes no pulse (R37). -/
def execMeterPulse (t : Time) (h : HeadId) (s : State) : Host.Outcome State Fault Refusal :=
  let s' := s.advance t
  .next (if s'.isInstalled h then meterPulse h s' else s')

/-- PRESENCE_EDGE (R80): the input takes the level; no block acts on the edge. -/
def execPresenceEdge (t : Time) (h : HeadId) (level : Bool) (s : State) : Host.Outcome State Fault Refusal :=
  .next (modHead h (fun x => { x with presence := level }) (s.advance t))

/-- The edge counts: a rising one, in PRESSURIZE with gas granted and equalized not yet set (R84). -/
def State.edgeCounts (s : State) (h : HeadId) (level : Bool) : Bool :=
  let x := s.head h
  s.isInstalled h && level && !x.pressureEqual && decide (x.seq.phase = .pressurize) && x.seq.gasGranted && !x.seq.equalized

/-- An edge that counts: the head is equalized, and a FILL open queued by it may be granted (R84). -/
def countedEdge (h : HeadId) (s : State) : State :=
  if (s.head h).seq.fillReached then arbitrate (equalize h s) else equalize h s

/-- PRESSURE_EQUAL_EDGE (R84): the input takes the level, and an edge that counts equalizes the head. -/
def execPressureEqualEdge (t : Time) (h : HeadId) (level : Bool) (s : State) : Host.Outcome State Fault Refusal :=
  let s' := modHead h (fun x => { x with pressureEqual := level }) (s.advance t)
  .next (if s.edgeCounts h level then countedEdge h s' else s')

/-- A timer's expiry is taken only if the timer runs and has run down (R78, R110); it stops the timer, and the sequencer acts. -/
def takeExpiry (n : TimerName) (act : HeadId → State → State) (h : HeadId) (s : State) : State :=
  if s.isInstalled h ∧ s.expired n h = true then arbitrate (act h (stopTimer n h s)) else s

/-- EQUALIZE_EXPIRY (R84). -/
def execEqualizeExpiry (t : Time) (h : HeadId) (s : State) : Host.Outcome State Fault Refusal :=
  .next (takeExpiry .equalize (forceToSnift .equalizeTimeout) h (s.advance t))

/-- START_FLOW_EXPIRY (R89). -/
def execStartFlowExpiry (t : Time) (h : HeadId) (s : State) : Host.Outcome State Fault Refusal :=
  .next (takeExpiry .startFlow (forceToSettle .noFlow) h (s.advance t))

/-- STALL_EXPIRY (R89). -/
def execStallExpiry (t : Time) (h : HeadId) (s : State) : Host.Outcome State Fault Refusal :=
  .next (takeExpiry .stall (forceToSettle .stall) h (s.advance t))

/-- FLOW_STILL_EXPIRY (R91). -/
def execFlowStillExpiry (t : Time) (h : HeadId) (s : State) : Host.Outcome State Fault Refusal :=
  .next (takeExpiry .flowStill flowStill h (s.advance t))

/-- SETTLE_LIMIT_EXPIRY (R92). -/
def execSettleLimitExpiry (t : Time) (h : HeadId) (s : State) : Host.Outcome State Fault Refusal :=
  .next (takeExpiry .settleLimit (equipmentEnding .drip .drip) h (s.advance t))

/-- SNIFT_EXPIRY (R106). -/
def execSniftExpiry (t : Time) (h : HeadId) (s : State) : Host.Outcome State Fault Refusal :=
  .next (takeExpiry .snift sniftDone h (s.advance t))

/-- An outcome is recorded in the head's calibration result and CAL_DONE raised (R158). -/
def recordOutcome (h : HeadId) (o : CalOutcome) (kNew : Option Nat) (tag : Tag) (s : State) : State :=
  raiseCalDone o kNew h (modRecord h (fun r => { r with calResult := some { outcome := o, kNew := kNew, tag := tag } }) s)

/-- The calibration in flight completes (R156 to R159): the quotient is K_new, a STAGED one is written to the head, the outcome is
recorded, the divider becomes IDLE. -/
def completeDivision (c : Calibration) (s : State) : State :=
  let kNew := c.divided.quotient
  let o := c.outcome kNew
  let s' := if o = .staged then writeK kNew c.head s else s
  recordOutcome c.head o (some kNew) c.tag { s' with divider := none }

/-- DIVISION_COMPLETION (R157); an IDLE divider gives none. -/
def execDivisionCompletion (t : Time) (s : State) : Host.Outcome State Fault Refusal :=
  let s' := s.advance t
  match s'.divider with
  | none => .next s'
  | some c => .next (completeDivision c s')

end Sys2Proof.Machine
end

