-- ==== Sys2Proof/Machine/Answers.lean ====
section
/-! DEFINITION. Answers: the reply a serving forms (R193 to R195) and the record images that DONE replies carry (R198 to R201). The bits
of a record image that no rule names are 0: the model's choice (log entry 25). -/

namespace Sys2Proof.Machine

/-! ## Replies -/

/-- What an owning block decides about a request: the code, the detail byte and the payload (R194, R195). -/
structure Reply where
  code : AnswerCode
  detail : Byte
  payload : List Byte
  deriving DecidableEq, Repr

/-- A reply of a code alone: detail 0, no payload (R194, R195). -/
def Reply.plain (c : AnswerCode) : Reply := { code := c, detail := 0, payload := [] }

/-- DONE without a payload (R195). -/
def Reply.done : Reply := .plain .done

/-- DONE with a payload (R195). -/
def Reply.image (p : List Byte) : Reply := { code := .done, detail := 0, payload := p }

/-- BAD_FIELD with the number of the first failing field (R194). -/
def Reply.badField (n : Nat) : Reply := { code := .badField, detail := BitVec.ofNat 8 n, payload := [] }

/-- The answer of a serving: the reply with the request's kind and the attention line after the serving (R194). -/
def answerOf (kind : Byte) (s : State) (r : Reply) : Answer :=
  { kind := kind, code := r.code, attention := s.attentionLine, detail := r.detail, payload := r.payload }

/-- The serving's answer is formed when all its parts are done (R193, R194). -/
def replied (kind : Byte) (served : State × Reply) : State :=
  { served.1 with lastAnswer := some (answerOf kind served.1 served.2) }

/-! ## Recipe image (R198) -/

/-- The 42 bytes of a revision block (R198). -/
def Recipe.block (r : Recipe) : List Byte :=
  be4 r.vt ++ be4 r.s ++ be2 r.aMax ++ be2 r.aInit ++ be2 r.aStepMax ++ be1 r.g ++ be2 r.tMax ++ be1 r.gt ++ be2 r.n ++ be2 r.rLo
    ++ be2 r.rHi ++ flagByte r.learning ++ flagByte r.topUp ++ be2 r.u ++ be2 r.aTop ++ be2 r.tEq ++ be2 r.tStart ++ be2 r.tStall
    ++ be2 r.tStill ++ be2 r.tSettleMax ++ be2 r.tSnift

/-- The 43 bytes of a revision, zeros when it is absent (R197, R198). -/
def revisionImage : Option Revision → List Byte
  | none => List.replicate 43 0
  | some rev => rev.number :: rev.recipe.block

/-- The recipe image, 93 bytes (R198). Bits 2 to 7 of its presence byte, which R198 does not name, are 0: the model's choice (log entry 25). -/
def recipeImage (n : SlotId) (sl : Slot) : List Byte :=
  be1 n.val ++ be1 sl.state.code ++ [sl.counter] ++ be1 sl.members ++ be1 sl.unadopted ++ be1 sl.adopted
    ++ [bitsByte [sl.current.isSome, sl.pending.isSome]] ++ revisionImage sl.current ++ revisionImage sl.pending

/-! ## Head image (R199) -/

/-- A slot as a head image gives it: its number, 0x80 for none (R197). -/
def slotByte : Option SlotId → Byte
  | none => 0x80
  | some n => BitVec.ofNat 8 n.val

/-- A detail byte: the detail's code while the cause is pending, otherwise the free value given (R199, log entry 7). -/
def detailByte (code : Option Nat) (free : Byte) : Byte :=
  match code with
  | none => free
  | some c => BitVec.ofNat 8 c

/-- The presence byte of a head image (R199). -/
def headPresence (x : Head) : Byte :=
  bitsByte [x.record.pendingSlot.isSome, x.record.adoptedRev.isSome, x.record.stagedK.isSome, x.record.pendingA.isSome,
    x.record.pendingT.isSome, x.record.calResult.isSome, x.ticket.isSome, (x.record.calResult.bind (·.kNew)).isSome]

/-- The head image, 36 bytes (R199). `draw` numbers the three free detail bytes of this image. Bits 2 to 7 of byte 21 and bits 5 to 7 of
the pending causes, which R199 does not name, are 0: the model's choice (log entry 25). -/
def headImage (h : HeadId) (x : Head) (draw : Nat) : List Byte :=
  be1 h.val ++ be1 x.record.service.code ++ be1 x.seq.phase.code ++ [slotByte x.record.slot]
    ++ be1 ((x.record.pendingSlot.map (·.val)).getD 0) ++ [x.record.adoptedRev.getD 0]
    ++ be2 x.record.k ++ be2 (x.record.stagedK.getD 0) ++ be2 x.record.a ++ be2 (x.record.pendingA.getD 0)
    ++ se2 x.record.t ++ se2 (x.record.pendingT.getD 0) ++ se1 x.record.drift ++ be1 x.record.faultCount ++ be1 x.record.stray
    ++ [bitsByte [x.record.presenceReleased, x.record.resetStaged]] ++ [headPresence x] ++ [x.causes.kindSet]
    ++ [detailByte (x.causes.equipment.map (·.code)) (Config.unusedDetail (3 * draw)),
        detailByte (x.causes.intervention.map (·.code)) (Config.unusedDetail (3 * draw + 1)),
        detailByte (x.causes.fillFault.map (·.code)) (Config.unusedDetail (3 * draw + 2))]
    ++ be1 ((x.record.calResult.map (·.outcome.code)).getD 0) ++ be4 ((x.record.calResult.bind (·.kNew)).getD 0)
    ++ be2 ((x.record.calResult.map (·.tag.toNat)).getD 0) ++ be2 ((x.ticket.map (·.tag.toNat)).getD 0)

/-! ## Ticket image and find list (R200) -/

/-- Where a ticket stands (section 6.2). -/
inductive Location
  | live | transit
  deriving DecidableEq, Repr

/-- The code of a location in a ticket image (R197). -/
def Location.code : Location → Nat
  | .live => 0 | .transit => 1

/-- A verdict as a signed two-byte field, zeros when it is absent (R197, R200). -/
def verdictBytes : Option Verdict → List Byte
  | none => be2 0
  | some (.level e) => se2 e
  | some .noReading => be2 0x8000

/-- The presence byte of a ticket image (R200). Its bits 5 to 7, which R200 does not name, are 0: the model's choice (log entry 25). -/
def ticketPresence (tk : Ticket) : Byte :=
  bitsByte [tk.dClose.isSome, tk.x.isSome, tk.doseEnd.isSome, tk.headEnd.isSome, tk.verdict.isSome]

/-- The ticket image, 96 bytes (R200). Bits 5 to 7 of its flags byte and bit 15 of its reject reasons, which R197 gives no member, are 0:
the model's choice (log entry 25). -/
def ticketImage (loc : Location) (tk : Ticket) : List Byte :=
  be2 tk.tag.toNat ++ be1 tk.head.val ++ be1 tk.slot.val ++ [tk.revision] ++ be1 loc.code ++ be1 tk.disposition.code
    ++ [tk.flags] ++ be2 tk.reasons.toNat ++ [ticketPresence tk] ++ be1 tk.glitches ++ be4 tk.p ++ be4 tk.d
    ++ be4 (tk.dClose.getD 0) ++ se4 (tk.x.getD 0) ++ be1 ((tk.doseEnd.map (·.outcome.code)).getD 0)
    ++ be1 ((tk.headEnd.map (·.code)).getD 0) ++ verdictBytes tk.verdict ++ be4 ((tk.doseEnd.map (·.final)).getD 0)
    ++ be2 tk.snapshot.k ++ be2 tk.snapshot.a ++ se2 tk.snapshot.t ++ se4 tk.snapshot.e ++ se4 tk.snapshot.f
    ++ se4 tk.snapshot.eTop ++ tk.snapshot.recipe.block

/-- The find list, 18 bytes, of the matching tags from the starting point on: up to eight of them, the "more" flag, 0xFFFF in the
positions left over (R130, R200). -/
def findList (found : List Tag) : List Byte :=
  let page := found.take Config.findMax
  be1 page.length ++ flagByte (decide (Config.findMax < found.length))
    ++ (page.flatMap fun tag => be2 tag.toNat) ++ List.replicate (2 * (Config.findMax - page.length)) 0xFF

/-! ## Status image (R201) -/

/-- The number of live tickets (R131). -/
def State.liveCount (s : State) : Nat := (s.heads.toList.filter fun x => x.ticket.isSome).length

/-- The KEPT count: the KEPT tickets in the transit list (R120). -/
def State.keptCount (s : State) : Nat := (s.transit.filter (·.kept)).length

/-- The queue depth of a class, by its rank (R176). -/
def State.classDepth (s : State) (rank : Nat) : Nat := (s.pilotQueue.filter fun e => decide (e.kind.rank = rank)).length

/-- The number of held boost slots (R176). -/
def State.heldBoosts (s : State) : Nat := (s.boosts.toList.filter (·.isSome)).length

/-- The highest pending cause that the summary shows for a head: NONE when it is not installed (R181). -/
def State.summaryCause (s : State) (h : HeadId) : Nat := if s.isInstalled h then (s.head h).causes.highest else 0

/-- The status image, 149 bytes (R201). Bits 2 to 7 of the discharge-lines byte and bits 0 to 4 of the global flags, which R201 does not
name, are 0: the model's choice (log entry 25). -/
def statusImage (s : State) : List Byte :=
  let k := s.tracker
  be1 k.motion.code ++ be1 k.line.headCount ++ be2 k.angle ++ be2 k.backlog ++ se2 k.lastIndexError
    ++ be2 k.line.infeed ++ be2 k.line.gas ++ be2 k.line.fill ++ be2 k.line.closeBy ++ be2 k.line.sniftBy ++ be2 k.line.discharge
    ++ be2 k.line.commit ++ be2 k.line.boostTime ++ be2 k.line.minDwell
    ++ be1 s.liveCount ++ be1 s.transit.length ++ be1 s.keptCount ++ [bitsByte [s.lines.container, s.lines.reject]]
    ++ be2 s.tagCounter.toNat ++ flagByte s.learningHold ++ flagByte s.divider.isSome
    ++ be1 ((s.divider.map (·.head.val)).getD 0) ++ be2 ((s.divider.map (·.tag.toNat)).getD 0)
    ++ be1 s.pilotQueue.length ++ be1 (s.classDepth 0) ++ be1 (s.classDepth 1) ++ be1 (s.classDepth 2) ++ be1 s.heldBoosts
    ++ [s.globals.kindSet] ++ [s.masks] ++ flagByte s.attentionLine
    ++ (s.slots.toList.map fun sl => BitVec.ofNat 8 sl.state.code)
    ++ ((List.finRange 96).map fun h => BitVec.ofNat 8 (s.summaryCause h))

end Sys2Proof.Machine
end

