-- ==== Sys2Proof/Machine/Reads.lean ====
section
/-! DEFINITION. The reading requests: the meanings of READ_STATUS, READ_HEAD, READ_RECIPE, READ_TICKET and FIND_TICKETS. -/

namespace Sys2Proof.Machine

/-! ## READ STATUS -/

/-- READ STATUS reads and changes nothing (R17, R131, R151, R163, R176, R188, R201). -/
def serveReadStatus (s : State) : State × Reply := (s, .image (statusImage s))

/-- READ_STATUS. -/
def execReadStatus (t : Time) (s : State) : Host.Outcome State Fault Refusal :=
  .next (replied RequestKind.readStatus.code (serveReadStatus (s.advance t)))

/-! ## READ HEAD -/

/-- READ HEAD: the image is formed, and CAL_DONE is cleared after it (R58, R186). One more set of free detail bytes is drawn
(log entry 7). -/
def serveReadHead (head : Byte) (s : State) : State × Reply :=
  match s.installedHead head.toNat with
  | none => (s, .plain .noSuchHead)
  | some h =>
    (changeCauses h (fun c => { c with calDone := none }) { s with freeReads := s.freeReads + 1 },
      .image (headImage h (s.head h) s.freeReads))

/-- READ_HEAD. -/
def execReadHead (t : Time) (head : Byte) (s : State) : Host.Outcome State Fault Refusal :=
  .next (replied RequestKind.readHead.code (serveReadHead head (s.advance t)))

/-! ## READ RECIPE -/

/-- READ RECIPE (R22, R36). -/
def serveReadRecipe (slot : Byte) (s : State) : State × Reply :=
  match slotOf slot with
  | none => (s, .badField 0)
  | some n => (s, .image (recipeImage n (s.slot n)))

/-- READ_RECIPE. -/
def execReadRecipe (t : Time) (slot : Byte) (s : State) : Host.Outcome State Fault Refusal :=
  .next (replied RequestKind.readRecipe.code (serveReadRecipe slot (s.advance t)))

/-! ## READ TICKET -/

/-- Every existing ticket with its location, in the search order: the transit list oldest first, then the live tickets by head
number (R130). -/
def State.allTickets (s : State) : List (Location × Ticket) :=
  s.transit.map (fun tk => (Location.transit, tk)) ++ s.heads.toList.filterMap fun x => x.ticket.map fun tk => (Location.live, tk)

/-- The existing ticket that holds a tag, with its location (R127). -/
def State.ticketByTag (s : State) (tag : Tag) : Option (Location × Ticket) := s.allTickets.find? fun p => decide (p.2.tag = tag)

/-- READ TICKET by tag (R127). -/
def readByTag (number : Half) (s : State) : Reply :=
  match tagOf number with
  | none => .badField 1
  | some tag =>
    match s.ticketByTag tag with
    | none => .plain .noSuchTag
    | some p => .image (ticketImage p.1 p.2)

/-- READ TICKET by head (R128). -/
def readByHead (number : Half) (s : State) : Reply :=
  match s.installedHead number.toNat with
  | none => .plain .noSuchHead
  | some h =>
    match (s.head h).ticket with
    | none => .plain .noSuchTag
    | some tk => .image (ticketImage .live tk)

/-- READ TICKET (R127, R128): selector 0 BY_TAG, 1 BY_HEAD. -/
def serveReadTicket (selector : Byte) (number : Half) (s : State) : State × Reply :=
  (s, if selector = 0#8 then readByTag number s else if selector = 1#8 then readByHead number s else .badField 0)

/-- READ_TICKET. -/
def execReadTicket (t : Time) (selector : Byte) (number : Half) (s : State) : Host.Outcome State Fault Refusal :=
  .next (replied RequestKind.readTicket.code (serveReadTicket selector number (s.advance t)))

/-! ## FIND TICKETS -/

/-- The selector of FIND TICKETS, an absent item standing for ANY (R129). -/
structure Selector where
  head : Option HeadId
  slot : Option SlotId
  location : Option Location
  disposition : Option Disposition
  verdict : Option Bool
  deriving DecidableEq, Repr

/-- The ticket matches every field of the selector (R129). -/
def Selector.admits (q : Selector) (loc : Location) (tk : Ticket) : Bool :=
  (q.head.all fun h => decide (tk.head = h)) && (q.slot.all fun n => decide (tk.slot = n))
    && (q.location.all fun l => decide (loc = l)) && (q.disposition.all fun d => decide (tk.disposition = d))
    && (q.verdict.all fun v => decide (tk.verdict.isSome = v))

/-- The slot field: 0–7, or 0xFF for ANY (R197). -/
def anySlotOf (b : Byte) : Option (Option SlotId) := if b = 0xFF#8 then some none else (slotOf b).map some

/-- The location field: 0 ANY, 1 LIVE, 2 TRANSIT (R197). -/
def anyLocationOf (b : Byte) : Option (Option Location) :=
  if b = 0#8 then some none else if b = 1#8 then some (some .live) else if b = 2#8 then some (some .transit) else none

/-- The disposition field: 0 ANY, 1 PENDING, 2 GOOD, 3 REJECT (R197). -/
def anyDispositionOf (b : Byte) : Option (Option Disposition) :=
  if b = 0#8 then some none else if b = 1#8 then some (some .pending) else if b = 2#8 then some (some .good)
  else if b = 3#8 then some (some .reject) else none

/-- The verdict-present field: 0 ANY, 1 YES, 2 NO (R197). -/
def anyVerdictOf (b : Byte) : Option (Option Bool) :=
  if b = 0#8 then some none else if b = 1#8 then some (some true) else if b = 2#8 then some (some false) else none

/-- The start-after field: a tag, or 0xFFFF for absent (R197). -/
def startAfterOf (n : Half) : Option (Option Tag) := if n = 0xFFFF#16 then some none else (tagOf n).map some

/-- The head field: an installed head, or 255 for ANY (R129, R197). -/
def State.anyHeadOf (s : State) (b : Byte) : Option (Option HeadId) :=
  if b = 0xFF#8 then some none else (s.installedHead b.toNat).map some

/-- The tickets from the starting point on: those after the named one, or all when none is named or the tag names none (R130). -/
def startFrom (start : Option Tag) (l : List (Location × Ticket)) : List (Location × Ticket) :=
  match start with
  | none => l
  | some tag => if l.any (fun p => decide (p.2.tag = tag)) then (l.dropWhile fun p => decide (p.2.tag ≠ tag)).tail else l

/-- The tags of the matching tickets from the starting point on, in search order (R130). -/
def State.foundTags (s : State) (q : Selector) (start : Option Tag) : List Tag :=
  ((startFrom start s.allTickets).filter fun p => q.admits p.1 p.2).map (·.2.tag)

/-- FIND TICKETS: the fields in order 0 to 5, then the search (R129, R130). -/
def serveFindTickets (head slot location disposition verdictPresent : Byte) (startAfter : Half) (s : State) : State × Reply :=
  (s, match s.anyHeadOf head with
  | none => .plain .noSuchHead
  | some h =>
    match anySlotOf slot with
    | none => .badField 1
    | some n =>
      match anyLocationOf location with
      | none => .badField 2
      | some l =>
        match anyDispositionOf disposition with
        | none => .badField 3
        | some d =>
          match anyVerdictOf verdictPresent with
          | none => .badField 4
          | some v =>
            match startAfterOf startAfter with
            | none => .badField 5
            | some start => .image (findList (s.foundTags { head := h, slot := n, location := l, disposition := d, verdict := v } start)))

/-- FIND_TICKETS. -/
def execFindTickets (t : Time) (head slot location disposition verdictPresent : Byte) (startAfter : Half) (s : State) :
    Host.Outcome State Fault Refusal :=
  .next (replied RequestKind.findTickets.code
    (serveFindTickets head slot location disposition verdictPresent startAfter (s.advance t)))

end Sys2Proof.Machine
end

