-- ==== Sys2Proof/Machine/Writes.lean ====
section
/-! DEFINITION. The writing requests: the meanings of SET_LINE (01), WRITE_RECIPE and ERASE_RECIPE (02) and SET_HEAD (03). -/

namespace Sys2Proof.Machine

/-! ## SET LINE -/

/-- A head removed from the installed heads: its record returns to its power-on values and its causes are cleared; being OUT, it is in
phase EMPTY and holds no ticket (R4). -/
def Head.removed (x : Head) : Head := { x with record := .powerOn, causes := .clear }

/-- The heads at or above the new head count that were installed cease to be (R4). -/
def removeHeads (newCount : Nat) (s : State) : State :=
  (s.installed.filter fun h => decide (newCount ≤ h.val)).foldl (fun acc h => modHead h Head.removed acc) s

/-- A calibration in flight for a head that ceases to be installed is cancelled without a result (R4, R160). -/
def dropRemovedCalibration (newCount : Nat) (s : State) : State :=
  match s.divider with
  | none => s
  | some c => if newCount ≤ c.head.val ∧ s.isInstalled c.head = true then { s with divider := none } else s

/-- The effects of an accepted SET LINE (R4, R167, R187). -/
def applyLine (l : LineSetup) (s : State) : State :=
  let s' := removeHeads l.headCount (dropRemovedCalibration l.headCount s)
  arbitrate (judgeLine { s' with tracker := { s'.tracker with line := l } })

/-- SET LINE (R3, R4). -/
def serveSetLine (f : LineFields) (s : State) : State × Reply :=
  if s.installed.all (fun h => decide ((s.head h).record.service = .out)) then
    match lineFirstBad f with
    | some n => (s, .badField n)
    | none => (applyLine (lineSetupOf f) s, .done)
  else (s, .plain .notAllowed)

/-- SET_LINE. -/
def execSetLine (t : Time) (fields : LineFields) (s : State) : Host.Outcome State Fault Refusal :=
  .next (replied RequestKind.setLine.code (serveSetLine fields (s.advance t)))

/-! ## WRITE RECIPE and ERASE RECIPE -/

/-- A revision that becomes current at once, in a slot without members (R25, R26). -/
def writeCurrent (n : SlotId) (rev : Revision) (s : State) : State :=
  alignOut n rev (modSlot n (fun sl => { sl with counter := rev.number, current := some rev }) s)

/-- A revision that becomes the pending one, in a slot with members (R30, R31). -/
def writePending (n : SlotId) (rev : Revision) (s : State) : State :=
  modSlot n (fun sl => { sl with counter := rev.number, pending := some rev, unadopted := sl.members, adopted := 0 }) s

/-- WRITE RECIPE: the field pass, then the slot's state (R22, R23, R25, R26, R30 to R32). -/
def serveWriteRecipe (slot : Byte) (b : RevisionBlock) (s : State) : State × Reply :=
  match slotOf slot with
  | none => (s, .badField 0)
  | some n =>
    match blockFirstBad b with
    | some i => (s, .badField i)
    | none =>
      let rev : Revision := { number := (s.slot n).counter + 1, recipe := recipeOf b }
      match (s.slot n).state with
      | .empty | .ready => (writeCurrent n rev s, .done)
      | .active =>
        if (s.slot n).pending.isSome ∧ (s.slot n).adopted ≠ 0 then (s, .plain .revisionBusy) else (writePending n rev s, .done)

/-- WRITE_RECIPE. -/
def execWriteRecipe (t : Time) (slot : Byte) (block : RevisionBlock) (s : State) : Host.Outcome State Fault Refusal :=
  .next (replied RequestKind.writeRecipe.code (serveWriteRecipe slot block (s.advance t)))

/-- Some installed head has the slot as its slot or its pending slot (R35). -/
def State.slotInUse (s : State) (n : SlotId) : Bool :=
  s.installed.any fun h => decide ((s.head h).record.slot = some n ∨ (s.head h).record.pendingSlot = some n)

/-- ERASE RECIPE (R22, R35). -/
def serveEraseRecipe (slot : Byte) (s : State) : State × Reply :=
  match slotOf slot with
  | none => (s, .badField 0)
  | some n => if s.slotInUse n then (s, .plain .slotInUse) else (modSlot n (fun sl => { sl with current := none }) s, .done)

/-- ERASE_RECIPE. -/
def execEraseRecipe (t : Time) (slot : Byte) (s : State) : Host.Outcome State Fault Refusal :=
  .next (replied RequestKind.eraseRecipe.code (serveEraseRecipe slot (s.advance t)))

/-! ## SET HEAD -/

/-- The fields 1 to 4 of SET HEAD, decoded. -/
structure HeadFields where
  service : ServiceField
  k : Option Nat
  slot : SlotField
  reset : Bool
  deriving DecidableEq, Repr

/-- The fields of SET HEAD, or the number of the first that is not one of its codes (R44, check 2). -/
def headFieldsOf (service : Byte) (k : Half) (slot resetLearning : Byte) : Except Nat HeadFields :=
  match serviceFieldOf service with
  | none => .error 1
  | some sv =>
    match kFieldOf k with
    | none => .error 2
    | some kv =>
      match slotFieldOf slot with
      | none => .error 3
      | some sl =>
        match flagOf resetLearning with
        | none => .error 4
        | some r => .ok { service := sv, k := kv, slot := sl, reset := r }

/-- The slot is EMPTY: it has no current revision (R19). -/
def State.slotEmpty (s : State) (n : SlotId) : Bool := decide ((s.slot n).state = .empty)

/-- Check 3 of R44: a slot field on a head that is not OUT. -/
def slotRefusal (f : HeadFields) (h : HeadId) (s : State) : Option AnswerCode :=
  if (s.head h).record.service = .out then none
  else match f.slot with
    | .noChange => none
    | .noSlot => some .notAllowed
    | .slot n => if s.slotEmpty n then some .slotEmpty else none

/-- Check 4 of R44: service=in with EQUIPMENT pending. -/
def equipmentRefusal (f : HeadFields) (h : HeadId) (s : State) : Option AnswerCode :=
  if f.service = .goIn ∧ ((s.head h).record.service = .out ∨ (s.head h).record.service = .leaving)
      ∧ (s.head h).causes.equipment.isSome then some .notAllowed
  else none

/-- The slot an OUT head will hold once field 3 is applied (R44, check 5). -/
def SlotField.applied (f : SlotField) (present : Option SlotId) : Option SlotId :=
  match f with
  | .noChange => present
  | .noSlot => none
  | .slot n => some n

/-- Check 5 of R44: service=in on an OUT head needs a slot that is not EMPTY. -/
def joinRefusal (f : HeadFields) (h : HeadId) (s : State) : Option AnswerCode :=
  if f.service = .goIn ∧ (s.head h).record.service = .out then
    match f.slot.applied (s.head h).record.slot with
    | none => some .notAllowed
    | some n => if s.slotEmpty n then some .slotEmpty else none
  else none

/-- The first refusal of checks 3 to 5 (R44). -/
def setHeadRefusal (f : HeadFields) (h : HeadId) (s : State) : Option AnswerCode :=
  (slotRefusal f h s).or ((equipmentRefusal f h s).or (joinRefusal f h s))

/-- The K field (R45). -/
def applyK (k : Option Nat) (h : HeadId) (s : State) : State :=
  match k with
  | none => s
  | some v => writeK v h s

/-- A slot written directly to an OUT head (R46). -/
def writeSlot (sl : Option SlotId) (h : HeadId) (s : State) : State :=
  let rev := sl.bind fun n => (s.slot n).current
  modRecord h (fun r =>
    { resetLearning rev r with slot := sl, pendingSlot := none, usesPending := false, adoptedRev := rev.map (·.number), resetStaged := false }) s

/-- The slot field (R46): direct on an OUT head, staged as the pending slot otherwise. -/
def applySlot (f : SlotField) (h : HeadId) (s : State) : State :=
  if f = .noChange then s
  else if (s.head h).record.service = .out then writeSlot (f.applied none) h s
  else modRecord h (fun r => { r with pendingSlot := f.applied none }) s

/-- The reset-learning field (R47): direct on an OUT head, staged otherwise. -/
def applyReset (reset : Bool) (h : HeadId) (s : State) : State :=
  if reset = false then s
  else if (s.head h).record.service = .out then modRecord h (resetLearning (s.usedRevision h)) s
  else modRecord h (fun r => { r with resetStaged := true }) s

/-- The service field (R41, R42). -/
def applyService (f : ServiceField) (h : HeadId) (s : State) : State :=
  match f with
  | .noChange => s
  | .goIn => bringIn h s
  | .goOut => takeOut h s

/-- The fields of an accepted SET HEAD in their order: K, slot, reset learning, service (R44). -/
def applyHeadFields (f : HeadFields) (h : HeadId) (s : State) : State :=
  applyService f.service h (applyReset f.reset h (applySlot f.slot h (applyK f.k h s)))

/-- SET HEAD (R44). -/
def serveSetHead (head service : Byte) (k : Half) (slot resetLearning : Byte) (s : State) : State × Reply :=
  match s.installedHead head.toNat with
  | none => (s, .plain .noSuchHead)
  | some h =>
    match headFieldsOf service k slot resetLearning with
    | .error n => (s, .badField n)
    | .ok f =>
      match setHeadRefusal f h s with
      | some c => (s, .plain c)
      | none => (applyHeadFields f h s, .done)

/-- SET_HEAD. -/
def execSetHead (t : Time) (head service : Byte) (k : Half) (slot resetLearning : Byte) (s : State) :
    Host.Outcome State Fault Refusal :=
  .next (replied RequestKind.setHead.code (serveSetHead head service k slot resetLearning (s.advance t)))

end Sys2Proof.Machine
end

