-- ==== Sys2Proof/Machine/Resets.lean ====
section
/-! DEFINITION. The resets and aborts: the meanings of HEAD_RESET, LINE_RESET (03, 05, 09, 10) and ABORT_FILL (05). -/

namespace Sys2Proof.Machine

/-- The staged and pending values that a reset drops, with the fault count (R56, R57). -/
def HeadRecord.dropped (r : HeadRecord) : HeadRecord :=
  { r with stagedK := none, pendingA := none, pendingT := none, pendingSlot := none, resetStaged := false, faultCount := 0 }

/-- A calibration in flight is cancelled: the divider becomes IDLE, CANCELLED is recorded and CAL_DONE raised (R160). -/
def cancelCalibration (s : State) : State :=
  match s.divider with
  | none => s
  | some c => recordOutcome c.head .cancelled none c.tag { s with divider := none }

/-- HEAD RESET cancels a calibration in flight for the head named, and no other (R160). -/
def cancelForHead (h : HeadId) (s : State) : State :=
  if s.divider.any (fun c => decide (c.head = h)) then cancelCalibration s else s

/-- The sequencer's part of HEAD RESET (R101, R174). -/
def resetSequencer (h : HeadId) (s : State) : State := requeueSnift h (forceToSnift .reset h (withdraw h s))

/-- The head table's part of HEAD RESET (R56). -/
def resetRecord (h : HeadId) (s : State) : State := modRecord h (fun r => { r.dropped with drift := 0 }) (takeOut h s)

/-- HEAD RESET (R56): the sequencer's part, the head table's, the clearing of the causes, the calibration. -/
def resetHead (h : HeadId) (s : State) : State :=
  arbitrate (cancelForHead h (changeCauses h (fun _ => .clear) (resetRecord h (resetSequencer h s))))

/-- HEAD RESET names an installed head (R37, R56). -/
def serveHeadReset (head : Byte) (s : State) : State × Reply :=
  match s.installedHead head.toNat with
  | none => (s, .plain .noSuchHead)
  | some h => (resetHead h s, .done)

/-- HEAD_RESET. -/
def execHeadReset (t : Time) (head : Byte) (s : State) : Host.Outcome State Fault Refusal :=
  .next (replied RequestKind.headReset.code (serveHeadReset head (s.advance t)))

/-- The sequencers' part of LINE RESET (R101, R175). -/
def resetSequencers (s : State) : State := forInstalled requeueSnift (forInstalled (forceToSnift .reset) (resetArbiter s))

/-- The head table's part of LINE RESET: as HEAD RESET on every installed head, the drift counter kept (R57). -/
def resetRecords (s : State) : State := forInstalled (fun h s => modRecord h HeadRecord.dropped (takeOut h s)) s

/-- Every installed head's causes and the global causes are cleared as one clearing (R57, R187). -/
def clearAllCauses (s : State) : State :=
  judgeLine { forInstalled (fun h s => modCauses h (fun _ => .clear) s) s with
    globals := { angleFault := false, reverse := false, verdictLoss := false } }

/-- LINE RESET (R57): the sequencers' part, the head table's, the transit list emptied (R134), the causes cleared, the calibration. -/
def resetLine (s : State) : State :=
  arbitrate (cancelCalibration (clearAllCauses (putTransit [] (resetRecords (resetSequencers s)))))

/-- LINE RESET is answered DONE (R57). -/
def serveLineReset (s : State) : State × Reply := (resetLine s, .done)

/-- LINE_RESET. -/
def execLineReset (t : Time) (s : State) : Host.Outcome State Fault Refusal :=
  .next (replied RequestKind.lineReset.code (serveLineReset (s.advance t)))

/-- ABORT FILL for ALL (255) or for one installed head (R100). -/
def serveAbortFill (head : Byte) (s : State) : State × Reply :=
  if head = 0xFF#8 then (abortAll .aborted s, .done)
  else match s.installedHead head.toNat with
    | none => (s, .plain .noSuchHead)
    | some h => (arbitrate (forceToSnift .aborted h s), .done)

/-- ABORT_FILL. -/
def execAbortFill (t : Time) (head : Byte) (s : State) : Host.Outcome State Fault Refusal :=
  .next (replied RequestKind.abortFill.code (serveAbortFill head (s.advance t)))

end Sys2Proof.Machine
end

