-- ==== Sys2Proof/Machine/Tickets.lean ====
section
/-! DEFINITION. The ticket requests: the meanings of VERDICT with its trim (06, 07), KEEP, RETIRE (06) and CALIBRATE (08). -/

namespace Sys2Proof.Machine

/-! ## Naming a transit ticket -/

/-- The transit ticket that holds a tag, or the refusal: NOT_ALLOWED when a live ticket holds it, NO_SUCH_TAG when none does
(R122, R124, R125, R153). -/
def State.transitTicket (s : State) (tag : Tag) : Except AnswerCode Ticket :=
  if s.heads.toList.any fun x => x.ticket.any fun tk => decide (tk.tag = tag) then .error .notAllowed
  else match s.transit.find? fun tk => decide (tk.tag = tag) with
    | none => .error .noSuchTag
    | some tk => .ok tk

/-- The ticket with the tag is changed in its place. -/
def changeFirst (tag : Tag) (f : Ticket → Ticket) : List Ticket → List Ticket
  | [] => []
  | x :: rest => if x.tag = tag then f x :: rest else x :: changeFirst tag f rest

/-- A transit ticket is retired: it leaves the list, the order of the others standing (R120, R121). -/
def retireTicket (tag : Tag) (s : State) : State := putTransit (s.transit.eraseP fun tk => decide (tk.tag = tag)) s

/-! ## VERDICT -/

/-- A ticket that a verdict for a newer one retires as missed: neither KEPT nor verdicted (R122). -/
def Ticket.missable (tk : Ticket) : Bool := !tk.kept && tk.verdict.isNone

/-- The tickets older than the named one (R120). -/
def olderThan (tag : Tag) (l : List Ticket) : List Ticket := l.takeWhile fun tk => decide (tk.tag ≠ tag)

/-- The number of tickets that a verdict for the tag retires as missed (R122, R123). -/
def missedCount (tag : Tag) (l : List Ticket) : Nat := ((olderThan tag l).filter Ticket.missable).length

/-- The list without the missed tickets (R122). -/
def withoutMissed (tag : Tag) (l : List Ticket) : List Ticket :=
  (olderThan tag l).filter (fun tk => !tk.missable) ++ l.dropWhile fun tk => decide (tk.tag ≠ tag)

/-- The missed tickets are retired; if there was one, VERDICT_LOSS is raised (R122). -/
def retireMissed (tag : Tag) (s : State) : State :=
  let s' := putTransit (withoutMissed tag s.transit) s
  if missedCount tag s.transit = 0 then s' else raiseVerdictLoss s'

/-- The level error that trims the head, if the ticket's conditions of R142 hold. -/
def Ticket.trimLevel (tk : Ticket) : Option Int :=
  if tk.disposition = .good ∧ tk.toppedUp = false then
    match tk.verdict with
    | some (.level e) => some e
    | some .noReading => none
    | none => none
  else none

/-- The head's conditions of R142: installed, on the ticket's slot, no pending slot. -/
def State.trims (s : State) (tk : Ticket) : Bool :=
  !s.learningHold && s.isInstalled tk.head && decide ((s.head tk.head).record.slot = some tk.slot)
    && (s.head tk.head).record.pendingSlot.isNone

/-- The trim step on a head that uses revision `rev` (R144 to R146). -/
def trimHead (rev : Revision) (step : Int) (h : HeadId) (s : State) : State :=
  let r := (s.head h).record
  let v := r.pendingT.getD r.t - step
  let drift := driftAfter rev.recipe.tMax v r.drift
  let s' := modRecord h (fun r => { r with pendingT := some (clampTrim rev v), drift := drift }) s
  if drift ≠ r.drift ∧ 4 ≤ drift.natAbs then raiseTrimLimit h s' else s'

/-- Trim from a verdict handed to the correction unit (R142 to R146). A head that uses no revision holds no pending T (R38), so it is
not trimmed (log entry 9). -/
def trimFrom (tk : Ticket) (s : State) : State :=
  match tk.trimLevel, s.usedRevision tk.head with
  | some e, some rev => if s.trims tk then trimHead rev (trimStep tk.snapshot.recipe e) tk.head s else s
  | _, _ => s

/-- The verdict on the named ticket, after the missed ones are retired (R123). -/
def recordVerdict (v : Verdict) (tk : Ticket) (s : State) : State :=
  let tk' := { tk with verdict := some v }
  let s' := trimFrom tk' (putTransit (changeFirst tk.tag (fun t => { t with verdict := some v }) s.transit) s)
  if tk.kept then s' else retireTicket tk.tag s'

/-- VERDICT (R122, R123). -/
def serveVerdict (tag level : Half) (s : State) : State × Reply :=
  match tagOf tag with
  | none => (s, .badField 0)
  | some n =>
    match s.transitTicket n with
    | .error c => (s, .plain c)
    | .ok tk => (recordVerdict (verdictOf level) tk (retireMissed n s), .image (be1 (missedCount n s.transit)))

/-- VERDICT. -/
def execVerdict (t : Time) (tag level : Half) (s : State) : Host.Outcome State Fault Refusal :=
  .next (replied RequestKind.verdict.code (serveVerdict tag level (s.advance t)))

/-! ## KEEP and RETIRE -/

/-- KEEP (R124). -/
def serveKeep (tag : Half) (s : State) : State × Reply :=
  match tagOf tag with
  | none => (s, .badField 0)
  | some n =>
    match s.transitTicket n with
    | .error c => (s, .plain c)
    | .ok tk =>
      if tk.kept then (s, .done)
      else if s.keptCount < Config.keptMax then (putTransit (changeFirst n (fun t => { t with kept := true }) s.transit) s, .done)
      else (s, .plain .notAllowed)

/-- KEEP. -/
def execKeep (t : Time) (tag : Half) (s : State) : Host.Outcome State Fault Refusal :=
  .next (replied RequestKind.keep.code (serveKeep tag (s.advance t)))

/-- RETIRE (R125). -/
def serveRetire (tag : Half) (s : State) : State × Reply :=
  match tagOf tag with
  | none => (s, .badField 0)
  | some n =>
    match s.transitTicket n with
    | .error c => (s, .plain c)
    | .ok _ => (retireTicket n s, .done)

/-- RETIRE. -/
def execRetire (t : Time) (tag : Half) (s : State) : Host.Outcome State Fault Refusal :=
  .next (replied RequestKind.retire.code (serveRetire tag (s.advance t)))

/-! ## CALIBRATE -/

/-- The calibration that an accepted request starts (R154, R155). -/
def calibrationOf (tk : Ticket) (w : Nat) (force : Bool) : Calibration :=
  { head := tk.head, tag := tk.tag, kSnap := tk.snapshot.k, p := tk.p, w := w, force := force, dividend := calDividend w tk.p
    remainder := 0, quotient := 0 }

/-- The fields of CALIBRATE, or the number of the first that fails (R153, check 1). -/
def calFieldsOf (tag : Half) (w : Wide) (force : Byte) : Except Nat (Tag × Nat × Bool) :=
  match tagOf tag with
  | none => .error 0
  | some n =>
    if within 100 250000 w.toNat = false then .error 1
    else match flagOf force with
      | none => .error 2
      | some f => .ok (n, w.toNat, f)

/-- CALIBRATE (R153, R154). -/
def serveCalibrate (tag : Half) (w : Wide) (force : Byte) (s : State) : State × Reply :=
  match calFieldsOf tag w force with
  | .error i => (s, .badField i)
  | .ok (n, wv, f) =>
    if s.divider.isSome then (s, .plain .busy)
    else match s.transitTicket n with
      | .error c => (s, .plain c)
      | .ok tk =>
        if s.isInstalled tk.head = false then (s, .plain .noSuchHead)
        else if tk.p = 0 then (s, .plain .calNoPulses)
        else (retireTicket n { s with divider := some (calibrationOf tk wv f) }, .plain .accepted)

/-- CALIBRATE. -/
def execCalibrate (t : Time) (tag : Half) (w : Wide) (force : Byte) (s : State) : Host.Outcome State Fault Refusal :=
  .next (replied RequestKind.calibrate.code (serveCalibrate tag w force (s.advance t)))

end Sys2Proof.Machine
end

