-- ==== Sys2Proof/Machine/Settings.lean ====
section
/-! DEFINITION. The requests of the correction unit and the attention unit: the meanings of HOLD_LEARNING (07), CLEAR_ATTENTION and
SET_MASK (10). -/

namespace Sys2Proof.Machine

/-- The pending A and pending T of every head record are dropped (R148). -/
def dropPending (s : State) : State :=
  mapHeads (fun x => { x with record := { x.record with pendingA := none, pendingT := none } }) s

/-- HOLD LEARNING (R148). -/
def serveHoldLearning (hold : Byte) (s : State) : State × Reply :=
  match flagOf hold with
  | none => (s, .badField 0)
  | some true => ({ dropPending s with learningHold := true }, .done)
  | some false => ({ s with learningHold := false }, .done)

/-- HOLD_LEARNING. -/
def execHoldLearning (t : Time) (hold : Byte) (s : State) : Host.Outcome State Fault Refusal :=
  .next (replied RequestKind.holdLearning.code (serveHoldLearning hold (s.advance t)))

/-- The named kinds of a head's causes are cleared (R185). -/
def Causes.cleared (kinds : Byte) (c : Causes) : Causes :=
  { equipment := if named kinds .equipment then none else c.equipment
    intervention := if named kinds .intervention then none else c.intervention
    fillFault := if named kinds .fillFault then none else c.fillFault
    trimLimit := if named kinds .trimLimit then false else c.trimLimit
    calDone := if named kinds .calDone then none else c.calDone }

/-- The named global flags are cleared (R185). -/
def Globals.cleared (kinds : Byte) (g : Globals) : Globals :=
  { angleFault := g.angleFault && !named kinds .angleFault
    reverse := g.reverse && !named kinds .reverse
    verdictLoss := g.verdictLoss && !named kinds .verdictLoss }

/-- CLEAR ATTENTION of a head: TRIM_LIMIT named also zeroes the drift counter, pending or not (R185). -/
def clearHead (kinds : Byte) (h : HeadId) (s : State) : State :=
  let s' := changeCauses h (Causes.cleared kinds) s
  if named kinds .trimLimit then modRecord h (fun r => { r with drift := 0 }) s' else s'

/-- CLEAR ATTENTION (R184, R185): target 255 GLOBAL, any other a head number. -/
def serveClearAttention (target kinds : Byte) (s : State) : State × Reply :=
  if target = 0xFF#8 then
    (if namesHeadKind kinds then (s, .badField 1) else (changeGlobals (Globals.cleared kinds) s, .done))
  else match s.installedHead target.toNat with
    | none => (s, .plain .noSuchHead)
    | some h =>
      if namesGlobalKind kinds then (s, .badField 1)
      else if named kinds .equipment = true ∧ (s.head h).record.service ≠ .out then (s, .plain .notAllowed)
      else (clearHead kinds h s, .done)

/-- CLEAR_ATTENTION. -/
def execClearAttention (t : Time) (target kinds : Byte) (s : State) : Host.Outcome State Fault Refusal :=
  .next (replied RequestKind.clearAttention.code (serveClearAttention target kinds (s.advance t)))

/-- SET MASK (R183). -/
def serveSetMask (kinds : Byte) (s : State) : State × Reply := (judgeLine { s with masks := kinds }, .done)

/-- SET_MASK. -/
def execSetMask (t : Time) (kinds : Byte) (s : State) : Host.Outcome State Fault Refusal :=
  .next (replied RequestKind.setMask.code (serveSetMask kinds (s.advance t)))

end Sys2Proof.Machine
end

