-- ==== Sys2Proof/Machine/Link.lean ====
section
/-! DEFINITION. The link port (11): the check, the receiver, the receive queue and serving, answer frames; with the meanings of
BYTE_RECEIVED, INTERBYTE_GAP, ANSWER_END and MALFORMED. -/

namespace Sys2Proof.Machine

/-! ## The check (R191) -/

/-- One bit of the check: combined with bit 15, the register shifted, the polynomial combined in if the bit was 1 (R191). -/
def checkBit (reg : Half) (bit : Bool) : Half :=
  if reg.getLsbD 15 != bit then (reg <<< 1) ^^^ 0x1021#16 else reg <<< 1

/-- The bits of a byte, most significant first (R191). -/
def bitsOf (b : Byte) : List Bool := [7, 6, 5, 4, 3, 2, 1, 0].map fun i => b.getLsbD i

/-- One byte of the check (R191). -/
def checkByte (reg : Half) (b : Byte) : Half := (bitsOf b).foldl checkBit reg

/-- The check over bytes in the order received (R191). -/
def checkOf (bytes : List Byte) : Half := bytes.foldl checkByte 0xFFFF#16

/-- The two bytes of a half, most significant first (R190, R191). -/
def halfBytes (v : Half) : List Byte := be2 v.toNat

/-- The whole frame of some kind and body bytes: delimiter, length, kind and body, check (R190). -/
def frameOf (content : List Byte) : List Byte :=
  let head := be2 content.length
  Config.delimiter :: (head ++ content ++ halfBytes (checkOf (head ++ content)))

/-- The frame of an answer: the kind byte with its most significant bit set, code, link flags, detail, payload (R194). -/
def Answer.frame (a : Answer) : List Byte :=
  frameOf ((a.kind ||| 0x80#8) :: a.code.value :: (if a.attention then 1#8 else 0#8) :: a.detail :: a.payload)

/-! ## Serving (R193) -/

/-- A well-formed request is handed to its owning block (R193). -/
def serve (r : Request) (s : State) : State × Reply :=
  match r with
  | .readStatus => serveReadStatus s
  | .readHead head => serveReadHead head s
  | .readRecipe slot => serveReadRecipe slot s
  | .readTicket selector number => serveReadTicket selector number s
  | .findTickets head slot location disposition verdictPresent startAfter =>
    serveFindTickets head slot location disposition verdictPresent startAfter s
  | .setLine fields => serveSetLine fields s
  | .writeRecipe slot block => serveWriteRecipe slot block s
  | .eraseRecipe slot => serveEraseRecipe slot s
  | .setHead head service k slot resetLearning => serveSetHead head service k slot resetLearning s
  | .headReset head => serveHeadReset head s
  | .lineReset => serveLineReset s
  | .abortFill head => serveAbortFill head s
  | .verdict tag level => serveVerdict tag level s
  | .keep tag => serveKeep tag s
  | .retire tag => serveRetire tag s
  | .calibrate tag w force => serveCalibrate tag w force s
  | .holdLearning hold => serveHoldLearning hold s
  | .clearAttention target kinds => serveClearAttention target kinds s
  | .setMask kinds => serveSetMask kinds s

/-- A frame is decoded and served; what is no well-formed request is answered MALFORMED and changes nothing (R193). -/
def serveFrame (f : Frame) (s : State) : State :=
  match Request.ofFrame f.kind f.body with
  | none => replied f.kind (s, .plain .malformed)
  | some r => replied f.kind (serve r s)

/-- The frame at the head of the queue is served, and its answer is being sent (R192, R193). -/
def serveNext (s : State) : State :=
  match s.link.queue with
  | [] => s
  | f :: _ =>
    let s' := serveFrame f s
    { s' with link := { s'.link with sending := s'.lastAnswer } }

/-- A frame that passed the check arrives: it joins a queue of fewer than 4, and is served at once if the queue was empty; at a full
queue it is discarded (R192, R193). -/
def frameArrives (f : Frame) (s : State) : State :=
  if s.link.queue.length < Config.frameMax then
    let s' := { s with link := { s.link with queue := s.link.queue ++ [f] } }
    if s.link.queue.isEmpty then serveNext s' else s'
  else s

/-! ## The receiver (R190) -/

/-- The receiver's next state on a byte, and the frame that its second check byte completes with a good check (R190, R191). -/
def Receiver.take (rx : Receiver) (b : Byte) : Receiver × Option Frame :=
  match rx with
  | .hunt => (if b = Config.delimiter then .length none else .hunt, none)
  | .length none => (.length (some b), none)
  | .length (some high) =>
    let len : Half := high ++ b
    (if 1 ≤ len.toNat ∧ len.toNat ≤ Config.lengthMax then .body len [] else .hunt, none)
  | .body len taken =>
    (if taken.length + 1 < len.toNat then .body len (taken ++ [b]) else .check len (taken ++ [b]) none, none)
  | .check len taken none => (.check len taken (some b), none)
  | .check len taken (some high) =>
    (.hunt, match taken with
    | [] => none
    | kind :: rest => if checkOf (halfBytes len ++ taken) = high ++ b then some { kind := kind, body := rest } else none)

/-- The receiver takes a byte, the time of the last byte becomes now, and a completed good frame arrives (R190 to R192). -/
def takeByte (b : Byte) (s : State) : State :=
  let r := s.link.rx.take b
  let s' := { s with link := { s.link with rx := r.1, lastByte := s.now } }
  match r.2 with
  | none => s'
  | some f => frameArrives f s'

/-! ## Meanings -/

/-- BYTE_RECEIVED (R190 to R193). -/
def execByteReceived (t : Time) (b : Byte) (s : State) : Host.Outcome State Fault Refusal := .next (takeByte b (s.advance t))

/-- The 2.0 ms since the last byte have passed and the receiver holds a partial frame (R190). -/
def State.gapOver (s : State) : Bool := decide (s.link.rx ≠ .hunt ∧ s.link.lastByte + Config.byteGap ≤ s.now)

/-- INTERBYTE_GAP: the partial frame is discarded (R190). -/
def execInterbyteGap (t : Time) (s : State) : Host.Outcome State Fault Refusal :=
  let s' := s.advance t
  .next (if s'.gapOver then { s' with link := { s'.link with rx := .hunt } } else s')

/-- The answer being sent has ended: its frame leaves the queue, and the next one is served (R192, R193). -/
def endAnswer (s : State) : State :=
  serveNext { s with link := { s.link with queue := s.link.queue.tail, sending := none } }

/-- ANSWER_END; where no answer is being sent, none ends. -/
def execAnswerEnd (t : Time) (s : State) : Host.Outcome State Fault Refusal :=
  let s' := s.advance t
  .next (if s'.link.sending.isSome then endAnswer s' else s')

/-- MALFORMED (R193): a frame of an unknown kind or of another length than its kind's is answered MALFORMED and changes nothing. A
frame that is a well-formed request is no MALFORMED one (log entry 18). -/
def execMalformed (t : Time) (kind : Byte) (body : List Byte) (s : State) : Host.Outcome State Fault Refusal :=
  let s' := s.advance t
  .next (if (Request.ofFrame kind body).isNone then replied kind (s', .plain .malformed) else s')

end Sys2Proof.Machine
end

