-- ==== Sys2Proof/Machine/Dispatch.lean ====
section
/-! DEFINITION. The meaning of every command, one arm per constructor of Instr. -/

namespace Sys2Proof.Machine

def exec (i : Instr) (s : State) : Host.Outcome State Fault Refusal :=
  match i with
  | .powerOn t => Sys2Proof.Machine.execPowerOn t s
  | .forwardStep t => Sys2Proof.Machine.execForwardStep t s
  | .reverseStep t => Sys2Proof.Machine.execReverseStep t s
  | .directionlessChange t => Sys2Proof.Machine.execDirectionlessChange t s
  | .indexEvent t => Sys2Proof.Machine.execIndexEvent t s
  | .meterPulse t h => Sys2Proof.Machine.execMeterPulse t h s
  | .presenceEdge t h level => Sys2Proof.Machine.execPresenceEdge t h level s
  | .pressureEqualEdge t h level => Sys2Proof.Machine.execPressureEqualEdge t h level s
  | .equalizeExpiry t h => Sys2Proof.Machine.execEqualizeExpiry t h s
  | .startFlowExpiry t h => Sys2Proof.Machine.execStartFlowExpiry t h s
  | .stallExpiry t h => Sys2Proof.Machine.execStallExpiry t h s
  | .flowStillExpiry t h => Sys2Proof.Machine.execFlowStillExpiry t h s
  | .settleLimitExpiry t h => Sys2Proof.Machine.execSettleLimitExpiry t h s
  | .sniftExpiry t h => Sys2Proof.Machine.execSniftExpiry t h s
  | .boostCompletion t slot => Sys2Proof.Machine.execBoostCompletion t slot s
  | .dwellEnd t h p => Sys2Proof.Machine.execDwellEnd t h p s
  | .divisionCompletion t => Sys2Proof.Machine.execDivisionCompletion t s
  | .byteReceived t b => Sys2Proof.Machine.execByteReceived t b s
  | .interbyteGap t => Sys2Proof.Machine.execInterbyteGap t s
  | .answerEnd t => Sys2Proof.Machine.execAnswerEnd t s
  | .malformed t kind body => Sys2Proof.Machine.execMalformed t kind body s
  | .readStatus t => Sys2Proof.Machine.execReadStatus t s
  | .readHead t head => Sys2Proof.Machine.execReadHead t head s
  | .readRecipe t slot => Sys2Proof.Machine.execReadRecipe t slot s
  | .readTicket t selector number => Sys2Proof.Machine.execReadTicket t selector number s
  | .findTickets t head slot location disposition verdictPresent startAfter => Sys2Proof.Machine.execFindTickets t head slot location disposition verdictPresent startAfter s
  | .setLine t fields => Sys2Proof.Machine.execSetLine t fields s
  | .writeRecipe t slot block => Sys2Proof.Machine.execWriteRecipe t slot block s
  | .eraseRecipe t slot => Sys2Proof.Machine.execEraseRecipe t slot s
  | .setHead t head service k slot resetLearning => Sys2Proof.Machine.execSetHead t head service k slot resetLearning s
  | .headReset t head => Sys2Proof.Machine.execHeadReset t head s
  | .lineReset t => Sys2Proof.Machine.execLineReset t s
  | .abortFill t head => Sys2Proof.Machine.execAbortFill t head s
  | .verdict t tag level => Sys2Proof.Machine.execVerdict t tag level s
  | .keep t tag => Sys2Proof.Machine.execKeep t tag s
  | .retire t tag => Sys2Proof.Machine.execRetire t tag s
  | .calibrate t tag w force => Sys2Proof.Machine.execCalibrate t tag w force s
  | .holdLearning t hold => Sys2Proof.Machine.execHoldLearning t hold s
  | .clearAttention t target kinds => Sys2Proof.Machine.execClearAttention t target kinds s
  | .setMask t kinds => Sys2Proof.Machine.execSetMask t kinds s

end Sys2Proof.Machine
end

