-- ==== Sys2Proof/Safety.lean ====
section
/-! DEFINITION. What the statements speak of: the part of the state that the heads' work leaves alone, and the invariants that
every step keeps. -/

namespace Sys2Proof.Machine

/-! ## Frames -/

/-- What no crossing, grant, pulse, expiry or abort writes: clock, encoder, tracker, learning hold, divider, masks, link port, latest
answer, free values drawn, waiting commands. -/
structure Outer where
  now : Time
  encoder : Encoder
  tracker : Tracker
  learningHold : Bool
  divider : Option Calibration
  masks : Byte
  link : Link
  lastAnswer : Option Answer
  freeReads : Nat
  pending : List Instr
  deriving DecidableEq, Repr

/-- The outer part of a state. -/
def State.outer (s : State) : Outer :=
  { now := s.now, encoder := s.encoder, tracker := s.tracker, learningHold := s.learningHold, divider := s.divider, masks := s.masks
    link := s.link, lastAnswer := s.lastAnswer, freeReads := s.freeReads, pending := s.pending }

/-- What belongs to a head apart from its record and its causes: sequencer, last counted time, pilots, ticket, inputs. -/
structure Works where
  seq : Sequencer
  lastCounted : Option Time
  pilots : Pilots
  ticket : Option Ticket
  presence : Bool
  pressureEqual : Bool
  deriving DecidableEq, Repr

/-- A head's works. -/
def Head.works (x : Head) : Works :=
  { seq := x.seq, lastCounted := x.lastCounted, pilots := x.pilots, ticket := x.ticket, presence := x.presence
    pressureEqual := x.pressureEqual }

/-- Who holds the boost slots and until when, with the pilots still on their boost for the grants of every head but `h`. -/
def State.boostHolds (h : HeadId) (s : State) : Vector (Option (HeadId × Time × List Pilot)) 6 :=
  s.boosts.map fun o => o.map fun g => (g.head, g.completion, if g.head = h then [] else g.pilots)

/-- What an event at head `h` alone leaves as it stands: the works and causes of every other head, the queued opens of every other
head, who holds the boost slots, and the pilots on boost of every other head's grants. -/
def State.elsewhere (h : HeadId) (s : State) :
    (HeadId → Option (Works × Causes)) × List Entry × Vector (Option (HeadId × Time × List Pilot)) 6 :=
  (fun j => if j = h then none else some ((s.head j).works, (s.head j).causes),
    s.pilotQueue.filter (fun e => decide (e.head ≠ h)), s.boostHolds h)

/-- The ticket table's items beside the live tickets: the transit list, the tag counter, the discharge lines (R112). -/
structure Papers where
  transit : List Ticket
  tagCounter : Tag
  lines : DischargeLines
  deriving DecidableEq, Repr

/-- The ticket table's items beside the live tickets. -/
def State.papers (s : State) : Papers := { transit := s.transit, tagCounter := s.tagCounter, lines := s.lines }

/-! ## Invariants -/

/-- The tracker's items fit its motion state (R2). -/
def TrackerLegal (s : State) : Prop :=
  s.tracker.angle < Config.counts ∧
  match s.tracker.motion with
  | .tracking => s.tracker.backlog = 0
  | .backing => 1 ≤ s.tracker.backlog ∧ s.tracker.backlog < Config.counts
  | .unreferenced => s.tracker.angle = 0 ∧ s.tracker.backlog = 0

/-- The attention line stands as R182 has it. -/
def LineJudged (s : State) : Prop := s.attentionLine = s.lineDue

/-- A head has a live ticket exactly when its phase is not EMPTY (R81). -/
def TicketFollowsPhase (s : State) : Prop := ∀ h : HeadId, (s.head h).ticket.isSome = true ↔ s.phase h ≠ .empty

/-- The receive queue holds at most 4 frames, and an answer is being sent exactly while it holds one (R192, R193). -/
def PortLegal (s : State) : Prop :=
  s.link.queue.length ≤ Config.frameMax ∧ (s.link.sending.isSome = true ↔ s.link.queue ≠ [])

/-- The pilot queue stands in ascending head number, so it holds at most one entry per head (R165). -/
def QueueSorted (s : State) : Prop := s.pilotQueue.Pairwise fun a b => a.head.val < b.head.val

/-- The transit list holds at most 64 tickets, at most 8 of them KEPT (R120). -/
def TransitLegal (s : State) : Prop := s.transit.length ≤ Config.transitMax ∧ s.keptCount ≤ Config.keptMax

/-- The phases in which a pilot may be energised (R79). -/
def pilotAllowed : Pilot → Phase → Bool
  | .fast, .fast => true
  | .slow, .fast | .slow, .slow | .slow, .topup => true
  | .gas, .pressurize | .gas, .fast | .gas, .slow | .gas, .settle | .gas, .topup => true
  | .snift, .snift => true
  | _, _ => false

/-- The phase in which an open of a kind may be queued (R79). -/
def OpenKind.phase : OpenKind → Phase
  | .gas => .pressurize | .fill => .pressurize | .topUp => .topup | .snift => .snift

/-- Pilots are energised, and opens queued, only in the phases that allow them; a queued open names de-energised pilots (R79). -/
def PilotsFollowPhases (s : State) : Prop :=
  (∀ h p, s.energised h p = true → pilotAllowed p (s.phase h) = true) ∧
  ∀ e ∈ s.pilotQueue, s.phase e.head = e.kind.phase ∧ ∀ p ∈ e.kind.pilots, s.energised e.head p = false

/-- The tags of all existing tickets, the transit list's first (R115). -/
def State.tags (s : State) : List Tag := s.allTickets.map (·.2.tag)

/-- The tags of all existing tickets are pairwise distinct, and the transit list is legal (R115, R120). -/
def TagsDistinct (s : State) : Prop := s.tags.Nodup ∧ TransitLegal s

/-- The items of a head record and its ticket that have a fixed range stay in it (R38, R50, R55, R62). -/
def RecordsInRange (s : State) : Prop := ∀ h : HeadId,
  let r := (s.head h).record
  kInRange r.k = true ∧ (∀ k, r.stagedK = some k → kInRange k = true) ∧ -7 ≤ r.drift ∧ r.drift ≤ 7 ∧ r.faultCount < Config.faultLimit ∧
  r.stray ≤ Config.strayMax ∧
  ∀ tk, (s.head h).ticket = some tk → tk.glitches ≤ Config.glitchLimit ∧ ((s.phase h).filling = true → tk.glitches < Config.glitchLimit)

/-- No head holds pending A or pending T while the learning hold is ON (R148). -/
def HoldDropsPending (s : State) : Prop :=
  s.learningHold = true → ∀ h, (s.head h).record.pendingA = none ∧ (s.head h).record.pendingT = none

/-- The head is a member of the slot: in service on it (section 2.5 of 02_product_recipes.md). -/
def State.memberOf (s : State) (n : SlotId) (h : HeadId) : Bool :=
  decide ((s.head h).record.service ≠ .out ∧ (s.head h).record.slot = some n)

/-- The member uses the pending revision (R20, R21). -/
def State.adopterOf (s : State) (n : SlotId) (h : HeadId) : Bool := s.memberOf n h && (s.head h).record.usesPending

/-- The counts of every slot agree with the heads (R18, R19, R27 to R34): members are counted, a pending revision stands only with a current
one and some member, its adopters are counted and the others unadopted, without one both counts are 0 and nobody uses it. Every head in service has
a slot, a pending slot has a current revision (R35), and heads that are not installed are OUT without a pending slot. -/
def MembersCounted (s : State) : Prop :=
  (∀ n : SlotId,
    let members := ((List.finRange 96).filter (s.memberOf n)).length
    let adopters := ((List.finRange 96).filter (s.adopterOf n)).length
    (s.slot n).members = members ∧ (0 < members → (s.slot n).current.isSome = true) ∧
    ((s.slot n).pending.isSome = true → (s.slot n).adopted = adopters ∧ (s.slot n).unadopted + adopters = members ∧ 0 < (s.slot n).unadopted) ∧
    ((s.slot n).pending = none → (s.slot n).adopted = 0 ∧ (s.slot n).unadopted = 0 ∧ adopters = 0)) ∧
  (∀ h, (s.head h).record.service ≠ .out → (s.head h).record.slot.isSome = true) ∧
  (∀ h n, (s.head h).record.pendingSlot = some n → (s.slot n).current.isSome = true) ∧
  ∀ h, s.isInstalled h = false → (s.head h).record.service = .out ∧ (s.head h).record.pendingSlot = none

/-- A slot's counts once a member has left it, before any promotion (steps 1 and 2 of R28). -/
def Slot.left (sl : Slot) (usedPending : Bool) : Slot :=
  { sl with
    members := sl.members - 1
    unadopted := if sl.pending.isSome ∧ usedPending = false then sl.unadopted - 1 else sl.unadopted
    adopted := if sl.pending.isSome ∧ usedPending = true then sl.adopted - 1 else sl.adopted }

/-- Working and pending A and T follow the revision the head uses (R38): A within 0 to A_max, T within −T_max to +T_max; a head that uses no
revision holds A 0, T 0 and nothing pending. This stands on the members' counts, on A_init within A_max in every revision (R23), and on heads
that are not installed holding no slot. -/
def ValuesFollowRevision (s : State) : Prop :=
  MembersCounted s ∧
  (∀ n rev, (s.slot n).current = some rev ∨ (s.slot n).pending = some rev → rev.recipe.aInit ≤ rev.recipe.aMax) ∧
  (∀ h, s.isInstalled h = false → (s.head h).record.slot = none) ∧
  ∀ h,
    let r := (s.head h).record
    (s.usedRevision h = none → r.a = 0 ∧ r.t = 0 ∧ r.pendingA = none ∧ r.pendingT = none) ∧
    ∀ rev, s.usedRevision h = some rev →
      let lead (a : Nat) : Prop := a ≤ rev.recipe.aMax
      let trim (t : Int) : Prop := -(rev.recipe.tMax : Int) ≤ t ∧ t ≤ rev.recipe.tMax
      lead r.a ∧ (∀ a, r.pendingA = some a → lead a) ∧ trim r.t ∧ ∀ t, r.pendingT = some t → trim t

/-- The seven zone angles are strictly increasing and lie below 7680 (R3). -/
def ZonesInOrder (l : LineSetup) : Prop :=
  l.infeed < l.gas ∧ l.gas < l.fill ∧ l.fill < l.closeBy ∧ l.closeBy < l.sniftBy ∧ l.sniftBy < l.discharge ∧ l.discharge < l.commit ∧
  l.commit < Config.counts

/-- The angle up to which crossings have been produced: the tracker's angle, ahead of it by the backlog while BACKING (R8, R14). -/
def Tracker.front (k : Tracker) : Nat := (k.angle + k.backlog) % Config.counts

/-- Every commit crossing finds its head in phase EMPTY (R48, R109). OUT and JOINING heads are EMPTY (R40) and heads that are not installed are
OUT; a head that is not EMPTY is not between its discharge and its commit angle; no fill is under way while UNREFERENCED, nor while BACKING
unless the abort of R9 is still owed. -/
def CommitFindsEmpty (s : State) : Prop :=
  ZonesInOrder s.tracker.line ∧ s.tracker.line.headCount ∈ headCounts ∧ TrackerLegal s ∧
  (∀ h, (s.head h).record.service = .out ∨ (s.head h).record.service = .joining → s.phase h = .empty) ∧
  (∀ h, s.isInstalled h = false → (s.head h).record.service = .out) ∧
  (∀ h, s.tracker.motion ≠ .unreferenced → s.phase h ≠ .empty →
    let theta := s.tracker.line.relative s.tracker.front h
    theta < s.tracker.line.discharge ∨ s.tracker.line.commit < theta) ∧
  (s.tracker.motion = .unreferenced ∨ s.tracker.motion = .backing ∧ s.tracker.reverseOwed = false → ∀ h, (s.phase h).filling = false)

/-- Every step that answers a next state keeps the invariant. -/
def KeptByStep (inv : State → Prop) : Prop := ∀ s t : State, inv s → step s = .next t → inv t

/-- The heads that a reset takes out at once (R42, R56): JOINING, or IN and in phase EMPTY. -/
def State.outAtReset (s : State) (h : HeadId) : Bool :=
  decide ((s.head h).record.service = .joining ∨ (s.head h).record.service = .inn ∧ s.phase h = .empty)

/-- The heads that a reset brings to LEAVING (R42, R56): IN, and not in phase EMPTY. -/
def State.leavingAtReset (s : State) (h : HeadId) : Bool := decide ((s.head h).record.service = .inn ∧ s.phase h ≠ .empty)

/-- Slots and members once a reset has acted on every installed head, in ascending number (log entry 6): each head that it takes out at
once has become OUT (R28). -/
def State.afterLeaving (s : State) : State :=
  forInstalled (fun h u => if s.outAtReset h then becomeOut h u else u) s

/-- A record once a reset has dropped what R56 drops from it: the head LEAVING if it was IN and held a container. -/
def HeadRecord.reset (leaving : Bool) (r : HeadRecord) : HeadRecord :=
  { r with
    service := if leaving then .leaving else r.service
    stagedK := none, pendingA := none, pendingT := none, pendingSlot := none, resetStaged := false, faultCount := 0 }

/-- All that an event at head `h` alone leaves as it stands: the outer part, the transit list with tag counter and discharge lines,
the global flags, and every other head's works, causes, queued open and boosts. -/
def OthersStand (h : HeadId) (s v : State) : Prop :=
  v.outer = s.outer ∧ v.papers = s.papers ∧ v.globals = s.globals ∧ v.elsewhere h = s.elsewhere h

/-- No member comes or goes: every other head's record and every recipe slot stand. -/
def MembersStand (h : HeadId) (s v : State) : Prop :=
  (∀ j, j ≠ h → (v.head j).record = (s.head j).record) ∧ v.slots = s.slots

/-! ## Dose end as the statements put it -/

/-- A pilot's record once the pilot has been released at this moment (R171). -/
def State.releasedPilot (s : State) (h : HeadId) (p : Pilot) : PilotRecord :=
  if s.energised h p then { (s.head h).pilots.get p with state := .off, released := some s.now } else (s.head h).pilots.get p

/-- The head's queue entry once these pilots have been released: gone if it names one of them that is not energised (R171, R172). -/
def State.entryWithout (s : State) (ps : List Pilot) (h : HeadId) : Option Entry :=
  (s.entryOf h).filter fun e => !(ps.any fun p => e.kind.pilots.contains p && !s.energised h p)

/-- The consecutive fault count after a dose-end report (R55, R105). -/
def reportCount (tk : Ticket) (n : Nat) : Nat :=
  match tk.faultReason with
  | some _ => if n + 1 < 3 then n + 1 else 0
  | none => if tk.disposition = .good then 0 else n

/-- The head's causes after a dose-end report (R105, R178). -/
def reportCauses (tk : Ticket) (n : Nat) (c : Causes) : Causes :=
  match tk.faultReason with
  | some r => if n + 1 < 3 then { c with fillFault := some r } else { c with fillFault := some r, intervention := some .repeatedFaults }
  | none => if tk.disposition = .good then { c with fillFault := none } else c

/-- The service state of a head that is not in phase EMPTY after a dose-end report (R43, R55). -/
def reportService (tk : Ticket) (n : Nat) (sv : Service) : Service :=
  if tk.faultReason.isSome ∧ 3 ≤ n + 1 ∧ sv = .inn then .leaving else sv

/-- A head that holds a container and is taken out: IN becomes LEAVING (R42, R43). -/
def leavingIfIn (sv : Service) : Service := if sv = .inn then .leaving else sv

/-- The head's pending A after the learning of a dose end with this ticket (R137 to R140). -/
def State.learnedPending (s : State) (h : HeadId) (tk : Ticket) : Option Nat :=
  let r := (s.head h).record
  let base : Int := (r.pendingA.getD r.a : Nat)
  match tk.x, s.usedRevision h with
  | some x, some rev =>
    if tk.snapshot.recipe.learning = true ∧ s.learningHold = false ∧ tk.outlier = false ∧ tk.noSlow = false ∧ tk.forced = false then
      some (max 0 (min (rev.recipe.aMax : Int) (base + learningStep tk.snapshot.recipe (x - base)))).toNat
    else r.pendingA
  | _, _ => r.pendingA

/-- Dose end has been taken at head `h` with the ticket `tk`, from causes `c` and service state `sv` (R103 to R105): phase SNIFT, a
SNIFT open queued, learning and report done, everything else standing. JOINING heads, which hold no container (R40), are left aside where
members come and go. -/
def DoseEnded (h : HeadId) (tk : Ticket) (c : Causes) (sv : Service) (s v : State) : Prop :=
  let x := s.head h
  let y := v.head h
  let n := x.record.faultCount
  y.ticket = some tk ∧ v.entryOf h = some { head := h, kind := .snift, step := s.tracker.stepCount } ∧
  y.causes = reportCauses tk n c ∧
  (x.record.service ≠ .joining →
    y.record = { x.record with
      pendingA := s.learnedPending h tk, faultCount := reportCount tk n, service := reportService tk n sv } ∧ MembersStand h s v) ∧
  y.lastCounted = x.lastCounted ∧ y.presence = x.presence ∧ y.pressureEqual = x.pressureEqual ∧
  OthersStand h s v ∧ (LineJudged s → LineJudged v)

/-- A ticket with one more reason, and D_close recorded if the phase was FAST or SLOW (R68, R97, R98). -/
def Ticket.endedWith (tk : Ticket) (r : Reason) (p : Phase) : Ticket :=
  { tk with reasons := tk.reasons ||| r.bit, dClose := if p = .fast ∨ p = .slow then some (tk.dClose.getD tk.d) else tk.dClose }

/-- The head has been forced straight to SNIFT with reason `r` (R98), from causes `c` and service state `sv`. -/
def ForcedToSnift (r : Reason) (h : HeadId) (c : Causes) (sv : Service) (s v : State) : Prop :=
  ∀ tk, (s.head h).ticket = some tk →
    DoseEnded h (tk.endedWith r (s.phase h)).judge c sv s v ∧
    (v.head h).seq = { (s.head h).seq with phase := .snift, timers := .stopped } ∧
    ∀ p, (v.head h).pilots.get p = s.releasedPilot h p

/-- The head has entered SETTLE with ticket `tk` out of FAST, SLOW or TOPUP (R88, R90, R94, R97): the pilots `ps` released, start-flow and
stall stopped, flow-still and settle-limit started. -/
def Settled (w : Settle) (ps : List Pilot) (h : HeadId) (tk : Ticket) (s v : State) : Prop :=
  let x := s.head h
  let y := v.head h
  y.ticket = some tk ∧
  y.seq = { x.seq with
    phase := .settle, settle := w
    timers := { x.seq.timers with
      startFlow := none, stall := none, flowStill := some (s.now + 100 * tk.snapshot.recipe.tStill)
      settleLimit := some (s.now + 100 * tk.snapshot.recipe.tSettleMax) } } ∧
  (∀ p, y.pilots.get p = if p ∈ ps then s.releasedPilot h p else x.pilots.get p) ∧ v.entryOf h = s.entryWithout ps h ∧
  y.record = x.record ∧ y.causes = x.causes ∧ y.lastCounted = x.lastCounted ∧ y.presence = x.presence ∧
  y.pressureEqual = x.pressureEqual ∧ OthersStand h s v ∧ MembersStand h s v ∧ v.attentionLine = s.attentionLine

/-- Every installed head in SEATED to TOPUP has been forced straight to SNIFT with reason `r`, and every other head stands (R7, R15, R100,
R102). Held boost slots stay held until their completion (R166); a pilot released is no longer on its grant's boost (log entry 10). -/
def AllForcedToSnift (r : Reason) (s v : State) : Prop :=
  let struck (h : HeadId) : Bool := s.isInstalled h && (s.phase h).filling
  (∀ h tk, struck h = true → (s.head h).ticket = some tk →
    let x := s.head h
    let y := v.head h
    let tk' := (tk.endedWith r (s.phase h)).judge
    y.ticket = some tk' ∧ y.seq = { x.seq with phase := .snift, timers := .stopped } ∧
    (∀ p, y.pilots.get p = s.releasedPilot h p) ∧ v.entryOf h = some { head := h, kind := .snift, step := s.tracker.stepCount } ∧
    y.causes = reportCauses tk' x.record.faultCount x.causes ∧
    y.lastCounted = x.lastCounted ∧ y.presence = x.presence ∧ y.pressureEqual = x.pressureEqual) ∧
  (∀ h, struck h = false →
    (v.head h).works = (s.head h).works ∧ (v.head h).causes = (s.head h).causes ∧ v.entryOf h = s.entryOf h) ∧
  ((∀ h, (s.phase h).filling = true → (s.head h).record.service ≠ .joining) → v.slots = s.slots ∧
    (∀ h tk, struck h = true → (s.head h).ticket = some tk →
      let q := (s.head h).record
      let tk' := (tk.endedWith r (s.phase h)).judge
      (v.head h).record = { q with
        faultCount := reportCount tk' q.faultCount, service := reportService tk' q.faultCount q.service }) ∧
    ∀ h, struck h = false → (v.head h).record = (s.head h).record) ∧
  v.boosts = (s.boosts.map fun o => o.map fun g =>
    if struck g.head then { g with pilots := g.pilots.filter fun p => !s.energised g.head p } else g) ∧
  v.outer = s.outer ∧ v.papers = s.papers ∧ (LineJudged s → LineJudged v)

/-! ## Answers and requests as the statements put them -/

/-- The state whose latest answer is this one, with the attention line as the state has it (R194). -/
def answered (kind : Byte) (code : AnswerCode) (detail : Byte) (payload : List Byte) (s : State) : State :=
  { s with lastAnswer := some { kind := kind, code := code, attention := s.attentionLine, detail := detail, payload := payload } }

/-- A revision block stands at an offset (R198). -/
def BlockAt (p : List Byte) (o : Nat) (r : Recipe) : Prop :=
  wideAt p o = BitVec.ofNat 32 r.vt ∧ wideAt p (o + 4) = BitVec.ofNat 32 r.s ∧ halfAt p (o + 8) = BitVec.ofNat 16 r.aMax ∧
  halfAt p (o + 10) = BitVec.ofNat 16 r.aInit ∧ halfAt p (o + 12) = BitVec.ofNat 16 r.aStepMax ∧ byteAt p (o + 14) = BitVec.ofNat 8 r.g ∧
  halfAt p (o + 15) = BitVec.ofNat 16 r.tMax ∧ byteAt p (o + 17) = BitVec.ofNat 8 r.gt ∧ halfAt p (o + 18) = BitVec.ofNat 16 r.n ∧
  halfAt p (o + 20) = BitVec.ofNat 16 r.rLo ∧ halfAt p (o + 22) = BitVec.ofNat 16 r.rHi ∧ byteAt p (o + 24) = (if r.learning then 1 else 0) ∧
  byteAt p (o + 25) = (if r.topUp then 1 else 0) ∧ halfAt p (o + 26) = BitVec.ofNat 16 r.u ∧ halfAt p (o + 28) = BitVec.ofNat 16 r.aTop ∧
  halfAt p (o + 30) = BitVec.ofNat 16 r.tEq ∧ halfAt p (o + 32) = BitVec.ofNat 16 r.tStart ∧ halfAt p (o + 34) = BitVec.ofNat 16 r.tStall ∧
  halfAt p (o + 36) = BitVec.ofNat 16 r.tStill ∧ halfAt p (o + 38) = BitVec.ofNat 16 r.tSettleMax ∧
  halfAt p (o + 40) = BitVec.ofNat 16 r.tSnift

/-- A revision stands at an offset, its number before its block; an absent one stands as 43 zeros (R197, R198). -/
def RevisionAt (p : List Byte) (o : Nat) : Option Revision → Prop
  | none => ∀ i, i < 43 → byteAt p (o + i) = 0
  | some rev => byteAt p o = rev.number ∧ BlockAt p (o + 1) rev.recipe

/-- The members of a set byte: bit n stands for the condition with number n (R197). -/
def SetBits (b : Byte) (members : List Bool) : Prop := ∀ i, i < 8 → b.getLsbD i = members.getD i false

/-- Every existing ticket with its location, the transit list's first, oldest first, then the live ones by head number (R130). -/
def State.searchOrder (s : State) : List (Location × Ticket) :=
  s.transit.map (fun tk => (Location.transit, tk)) ++
    (List.finRange 96).filterMap fun h => (s.head h).ticket.map fun tk => (Location.live, tk)

/-- The page of a find list (R130, R200): the number of tags, "more", the first eight tags, 0xFFFF in the positions left over. -/
def PageOf (p : List Byte) (found : List Tag) : Prop :=
  p.length = 18 ∧ byteAt p 0 = BitVec.ofNat 8 (min 8 found.length) ∧ byteAt p 1 = (if 8 < found.length then 1 else 0) ∧
  ∀ i, i < 8 → halfAt p (2 + 2 * i) = match found[i]? with
    | none => 0xFFFF
    | some tag => BitVec.ofNat 16 tag.toNat

/-- The bits of a word, most significant first. -/
def msbFirst {w : Nat} (v : BitVec w) : List Bool := (List.range w).map v.getMsbD

/-- Bits, most significant first, as a polynomial over the field of two elements. -/
noncomputable def bitsPolynomial (bits : List Bool) : Polynomial (ZMod 2) :=
  bits.foldl (fun p b => Polynomial.X * p + (if b then 1 else 0)) 0

/-- The generator polynomial of the check (R191). -/
noncomputable def generator : Polynomial (ZMod 2) := Polynomial.X ^ 16 + Polynomial.X ^ 12 + Polynomial.X ^ 5 + 1

/-- A two-byte field, most significant byte first (R197). -/
def twoBytes (v : Half) : List Byte := [v.extractLsb' 8 8, v.extractLsb' 0 8]

/-- A four-byte field, most significant byte first (R197). -/
def fourBytes (v : Wide) : List Byte := [v.extractLsb' 24 8, v.extractLsb' 16 8, v.extractLsb' 8 8, v.extractLsb' 0 8]

/-- The revision block on the link (R198). -/
def blockBytes (b : RevisionBlock) : List Byte :=
  fourBytes b.vt ++ fourBytes b.s ++ twoBytes b.aMax ++ twoBytes b.aInit ++ twoBytes b.aStepMax ++ [b.g] ++ twoBytes b.tMax ++ [b.gt] ++
  twoBytes b.n ++ twoBytes b.rLo ++ twoBytes b.rHi ++ [b.learning, b.topUp] ++ twoBytes b.u ++ twoBytes b.aTop ++ twoBytes b.tEq ++
  twoBytes b.tStart ++ twoBytes b.tStall ++ twoBytes b.tStill ++ twoBytes b.tSettleMax ++ twoBytes b.tSnift

/-- The kind byte and the body of a request's frame: the table of R196, field by field. -/
def requestFrame : Request → Byte × List Byte
  | .readStatus => (0x01, [])
  | .readHead head => (0x02, [head])
  | .readRecipe slot => (0x03, [slot])
  | .readTicket selector number => (0x04, selector :: twoBytes number)
  | .findTickets head slot location disposition verdictPresent startAfter =>
    (0x05, [head, slot, location, disposition, verdictPresent] ++ twoBytes startAfter)
  | .setLine f =>
    (0x06, f.headCount :: twoBytes f.infeed ++ twoBytes f.gas ++ twoBytes f.fill ++ twoBytes f.closeBy ++ twoBytes f.sniftBy ++
      twoBytes f.discharge ++ twoBytes f.commit ++ twoBytes f.boostTime ++ twoBytes f.minDwell)
  | .writeRecipe slot block => (0x07, slot :: blockBytes block)
  | .eraseRecipe slot => (0x08, [slot])
  | .setHead head service k slot resetLearning => (0x09, [head, service] ++ twoBytes k ++ [slot, resetLearning])
  | .headReset head => (0x0A, [head])
  | .lineReset => (0x0B, [])
  | .abortFill head => (0x0C, [head])
  | .verdict tag level => (0x0D, twoBytes tag ++ twoBytes level)
  | .keep tag => (0x0E, twoBytes tag)
  | .retire tag => (0x0F, twoBytes tag)
  | .calibrate tag w force => (0x10, twoBytes tag ++ fourBytes w ++ [force])
  | .holdLearning hold => (0x11, [hold])
  | .clearAttention target kinds => (0x12, [target, kinds])
  | .setMask kinds => (0x13, [kinds])

/-- The command row of a request (R196). -/
def requestCommand (t : Time) : Request → Instr
  | .readStatus => .readStatus t
  | .readHead head => .readHead t head
  | .readRecipe slot => .readRecipe t slot
  | .readTicket selector number => .readTicket t selector number
  | .findTickets head slot location disposition verdictPresent startAfter =>
    .findTickets t head slot location disposition verdictPresent startAfter
  | .setLine fields => .setLine t fields
  | .writeRecipe slot block => .writeRecipe t slot block
  | .eraseRecipe slot => .eraseRecipe t slot
  | .setHead head service k slot resetLearning => .setHead t head service k slot resetLearning
  | .headReset head => .headReset t head
  | .lineReset => .lineReset t
  | .abortFill head => .abortFill t head
  | .verdict tag level => .verdict t tag level
  | .keep tag => .keep t tag
  | .retire tag => .retire t tag
  | .calibrate tag w force => .calibrate t tag w force
  | .holdLearning hold => .holdLearning t hold
  | .clearAttention target kinds => .clearAttention t target kinds
  | .setMask kinds => .setMask t kinds

/-- Field i of a WRITE RECIPE is in its range: the table of section 2.3 with the cross-checks of R23. -/
def blockFieldOk (b : RevisionBlock) : Nat → Prop
  | 1 => 1000 ≤ b.vt.toNat ∧ b.vt.toNat ≤ 250000
  | 2 => b.s.toNat < b.vt.toNat
  | 3 => b.aMax.toNat ≤ 5000
  | 4 => b.aInit.toNat ≤ b.aMax.toNat
  | 5 => 1 ≤ b.aStepMax.toNat ∧ b.aStepMax.toNat ≤ 500
  | 6 => b.g.toNat ≤ 6
  | 7 => b.tMax.toNat ≤ 2000 ∧ b.aMax.toNat + b.tMax.toNat < b.vt.toNat
  | 8 => b.gt.toNat ≤ 6
  | 10 => b.rLo.toNat ≤ 20000
  | 11 => b.rHi.toNat ≤ 20000
  | 12 => b.learning.toNat ≤ 1
  | 13 => b.topUp.toNat ≤ 1
  | 14 => b.u.toNat ≤ 5000
  | 15 => b.aTop.toNat ≤ 2000 ∧ (b.topUp = 1 → b.aTop.toNat < b.u.toNat)
  | 16 => 100 ≤ b.tEq.toNat ∧ b.tEq.toNat ≤ 20000
  | 17 => 10 ≤ b.tStart.toNat ∧ b.tStart.toNat ≤ 20000
  | 18 => 10 ≤ b.tStall.toNat ∧ b.tStall.toNat ≤ 5000
  | 19 => 10 ≤ b.tStill.toNat ∧ b.tStill.toNat ≤ 5000
  | 20 => 100 ≤ b.tSettleMax.toNat ∧ b.tSettleMax.toNat ≤ 20000
  | 21 => 50 ≤ b.tSnift.toNat ∧ b.tSnift.toNat ≤ 20000
  | _ => True

/-- Field i of a SET LINE passes (R3). -/
def lineFieldOk (f : LineFields) : Nat → Prop
  | 1 => f.headCount.toNat ∈ [24, 30, 32, 40, 48, 60, 64, 80, 96]
  | 2 => f.infeed.toNat < 7680
  | 3 => f.gas.toNat < 7680 ∧ f.infeed.toNat < f.gas.toNat
  | 4 => f.fill.toNat < 7680 ∧ f.gas.toNat < f.fill.toNat
  | 5 => f.closeBy.toNat < 7680 ∧ f.fill.toNat < f.closeBy.toNat
  | 6 => f.sniftBy.toNat < 7680 ∧ f.closeBy.toNat < f.sniftBy.toNat
  | 7 => f.discharge.toNat < 7680 ∧ f.sniftBy.toNat < f.discharge.toNat
  | 8 => f.commit.toNat < 7680 ∧ f.discharge.toNat < f.commit.toNat
  | 9 => 10 ≤ f.boostTime.toNat ∧ f.boostTime.toNat ≤ 150
  | 10 => 50 ≤ f.minDwell.toNat ∧ f.minDwell.toNat ≤ 1000
  | _ => True

/-- The tag is held by a live ticket (R122). -/
def State.liveTag (s : State) (tag : Tag) : Prop := ∃ h tk, (s.head h).ticket = some tk ∧ tk.tag = tag

end Sys2Proof.Machine
end

