-- ==== Sys2Proof/Certificates/Slice0/Obligations.lean ====
section
/-! DEFINITION. The statements for the provers. Rule numbers name the rules of spec/; log entries are notes/assumptions/<n>.md. A head that
holds a container has a live ticket (`TicketFollowsPhase`, an invariant stated below), so statements about such a head name its ticket. -/

open Sys2Proof Sys2Proof.Machine

/-! ## The queue of commands and power-on -/

/-- A step takes the command at the front of the queue and answers what `exec` answers with the queue's rest; an empty queue idles (the
model's choice, log entry 2). -/
def Obligations.StepTakesFrontCommand : Prop :=
  (∀ (c : Instr) (rest : List Instr) (s : State), s.pending = c :: rest → step s = exec c { s with pending := rest }) ∧
  (∀ s : State, s.pending = [] → step s = .next s)

/-- What the manual gives every block at power-on, as State.reset has it, and POWER_ON brings any state to it. The input levels, the clock,
`reverseOwed`, `usesPending` and `dwellTaken` at reset are the model's choices (log entries 4, 5 and 23); clock and input pins, which are
outside the part, stand at POWER_ON (log entry 4). -/
def Obligations.PowerOnValues : Prop :=
  (State.reset.tracker =
    { motion := .unreferenced, angle := 0, backlog := 0, stepCount := 0, lastIndexError := 0, reverseOwed := false
      line := { headCount := 96, infeed := 0, gas := 240, fill := 480, closeBy := 4800, sniftBy := 5120, discharge := 5760, commit := 6400
                boostTime := 40, minDwell := 200 } } ∧
  (∀ n, State.reset.slot n = { counter := 0, current := none, pending := none, members := 0, unadopted := 0, adopted := 0 }) ∧
  (∀ h, State.reset.head h =
    { record :=
        { service := .out, slot := none, pendingSlot := none, adoptedRev := none, usesPending := false, k := 2560, stagedK := none, a := 0
          pendingA := none, t := 0, pendingT := none, resetStaged := false, drift := 0, faultCount := 0, presenceReleased := true
          stray := 0, calResult := none }
      seq :=
        { phase := .empty, gasGranted := false, equalized := false, fillReached := false, closeByPassed := false, settle := .none
          timers := { equalize := none, startFlow := none, stall := none, flowStill := none, settleLimit := none, snift := none } }
      lastCounted := none
      pilots :=
        { gas := { state := .off, released := none, dwellTaken := none }, fast := { state := .off, released := none, dwellTaken := none }
          slow := { state := .off, released := none, dwellTaken := none }, snift := { state := .off, released := none, dwellTaken := none } }
      causes := { equipment := none, intervention := none, fillFault := none, trimLimit := false, calDone := none }
      ticket := none, presence := false, pressureEqual := false }) ∧
  State.reset.transit = [] ∧ State.reset.tagCounter = 0 ∧ State.reset.lines = { container := false, reject := false } ∧
  State.reset.learningHold = false ∧ State.reset.divider = none ∧ State.reset.pilotQueue = [] ∧
  (∀ i : BoostId, State.reset.boosts[i.val] = none) ∧
  State.reset.globals = { angleFault := false, reverse := false, verdictLoss := false } ∧ State.reset.masks = 0 ∧
  State.reset.attentionLine = false ∧ State.reset.link.rx = .hunt ∧ State.reset.link.queue = [] ∧ State.reset.link.sending = none) ∧
  (∀ (t : Time) (s : State), ∃ u, exec (.powerOn t) s = .next u ∧
    u.tracker = State.reset.tracker ∧ u.slots = State.reset.slots ∧
    (∀ h, u.head h = { State.reset.head h with presence := (s.head h).presence, pressureEqual := (s.head h).pressureEqual }) ∧
    u.transit = [] ∧ u.tagCounter = 0 ∧ u.lines = State.reset.lines ∧ u.learningHold = false ∧ u.divider = none ∧
    u.pilotQueue = [] ∧ u.boosts = State.reset.boosts ∧ u.globals = State.reset.globals ∧ u.masks = 0 ∧ u.attentionLine = false ∧
    u.link = State.reset.link ∧ u.lastAnswer = none ∧
    u.now = max s.now t ∧ u.encoder = s.encoder ∧ u.freeReads = s.freeReads ∧ u.pending = s.pending)

/-! ## Angle tracker -/

/-- A forward step while TRACKING is a crossing-producing step (R5, R6, R165): angle and step count advance, every installed head takes its
crossing in turn, and the arbiter's grants follow. That the heads take them in ascending number is the model's choice (log entry 6): R6 and
R115 leave their order open. A head takes the crossing of a zone exactly when its head-relative angle equals the zone's angle, and the
crossing goes to the block that owns it. -/
def Obligations.ForwardStepProducesCrossings : Prop :=
  (∀ (t : Time) (s : State), s.tracker.motion = .tracking →
    exec (.forwardStep t) s = .next (arbitrate (forInstalled crossHead
      { s with
        now := max s.now t
        encoder := { a := !s.encoder.b, b := s.encoder.a }
        tracker := { s.tracker with angle := (s.tracker.angle + 1) % 7680, stepCount := s.tracker.stepCount + 1 } }))) ∧
  (∀ (h : HeadId) (s : State), ZonesInOrder s.tracker.line →
    let l := s.tracker.line
    let theta : Int := ((s.tracker.angle : Int) - h.val * (7680 / l.headCount : Nat)) % 7680
    (theta = l.infeed → crossHead h s = infeedCrossing h s) ∧
    (theta = l.gas → crossHead h s = gasCrossing h s) ∧
    (theta = l.fill → crossHead h s = fillCrossing h s) ∧
    (theta = l.closeBy → crossHead h s = closeByCrossing h s) ∧
    (theta = l.sniftBy → crossHead h s = sniftByCrossing h s) ∧
    (theta = l.discharge → crossHead h s = dischargeCrossing h s) ∧
    (theta = l.commit → crossHead h s = commitCrossing h s) ∧
    (theta ∉ [(l.infeed : Int), l.gas, l.fill, l.closeBy, l.sniftBy, l.discharge, l.commit] → crossHead h s = s))

/-- R8: a forward step while BACKING moves the angle forward, lowers the backlog, produces no crossing and leaves the step count; a backlog
that reaches 0 ends BACKING. (R2: the backlog is at least 1 in BACKING.) -/
def Obligations.ForwardStepPaysBacklogBack : Prop :=
  ∀ (t : Time) (s : State), s.tracker.motion = .backing → 1 ≤ s.tracker.backlog →
    exec (.forwardStep t) s = .next
      { s with
        now := max s.now t
        encoder := { a := !s.encoder.b, b := s.encoder.a }
        tracker :=
          if s.tracker.backlog = 1 then
            { s.tracker with angle := (s.tracker.angle + 1) % 7680, backlog := 0, motion := .tracking, reverseOwed := false }
          else { s.tracker with angle := (s.tracker.angle + 1) % 7680, backlog := s.tracker.backlog - 1 } }

/-- Encoder and index events that change no item of the tracker: steps while UNREFERENCED (R10), a change of both channels (R1), an index that
confirms the count (R12), an index while BACKING (R16). -/
def Obligations.EncoderEventsDiscarded : Prop :=
  (∀ (t : Time) (s : State), s.tracker.motion = .unreferenced →
    exec (.forwardStep t) s = .next { s with now := max s.now t, encoder := { a := !s.encoder.b, b := s.encoder.a } } ∧
    exec (.reverseStep t) s = .next { s with now := max s.now t, encoder := { a := s.encoder.b, b := !s.encoder.a } }) ∧
  (∀ (t : Time) (s : State),
    exec (.directionlessChange t) s = .next { s with now := max s.now t, encoder := { a := !s.encoder.a, b := !s.encoder.b } } ∧
    (s.tracker.motion = .tracking → s.tracker.angle = 0 → exec (.indexEvent t) s = .next { s with now := max s.now t }) ∧
    (s.tracker.motion = .backing → exec (.indexEvent t) s = .next { s with now := max s.now t }))

/-- A reverse step while TRACKING: BACKING with a backlog of 1, REVERSE raised, every installed head in SEATED to TOPUP forced straight to
SNIFT with reason REVERSE, every other head going on (R7, R102), then the grants. While BACKING (R9): back one count with no abort; at a
backlog of 7680 the reference is lost; the first one after an index with extra counts raises REVERSE and aborts. A pilot released is no longer
on its grant's boost (log entry 10). -/
def Obligations.ReverseStepsTurnBack : Prop :=
  (∀ (t : Time) (s : State), s.tracker.motion = .tracking →
    let s' : State :=
      { s with
        now := max s.now t
        encoder := { a := s.encoder.b, b := !s.encoder.a }
        tracker := { s.tracker with angle := (s.tracker.angle + 7679) % 7680, backlog := 1, motion := .backing, reverseOwed := false } }
    ∃ v, exec (.reverseStep t) s = .next (arbitrate v) ∧ v.globals = { s.globals with reverse := true } ∧
      AllForcedToSnift .reverse s' v ∧ LineJudged v) ∧
  (∀ (t : Time) (s : State), s.tracker.motion = .backing →
    let s' : State :=
      { s with
        now := max s.now t
        encoder := { a := s.encoder.b, b := !s.encoder.a }
        tracker :=
          if s.tracker.backlog + 1 < 7680 then
            { s.tracker with angle := (s.tracker.angle + 7679) % 7680, backlog := s.tracker.backlog + 1, reverseOwed := false }
          else { s.tracker with angle := 0, backlog := 0, motion := .unreferenced, reverseOwed := false } }
    (s.tracker.reverseOwed = false → exec (.reverseStep t) s = .next s') ∧
    (s.tracker.reverseOwed = true → ∃ v, exec (.reverseStep t) s = .next (arbitrate v) ∧
      v.globals = { s.globals with reverse := true } ∧ AllForcedToSnift .reverse s' v ∧ LineJudged v))

/-- An index while UNREFERENCED references the tracker (R11); first each head in SNIFT or DONE that may have passed its discharge unseen
takes a discharge crossing (R109), then the crossings of angle 0 and the grants follow. R109 orders the two crossings of one head; that
every head's discharge comes before any head's crossing of angle 0, and that heads go in ascending number, is the model's choice (log entry
6). -/
def Obligations.IndexReferencesTracker : Prop :=
  (∀ (t : Time) (s : State), s.tracker.motion = .unreferenced →
    exec (.indexEvent t) s = .next (arbitrate (forInstalled crossHead (forInstalled referencingDischarge
      { s with
        now := max s.now t
        tracker := { s.tracker with
          angle := 0, backlog := 0, motion := .tracking, reverseOwed := false, stepCount := s.tracker.stepCount + 1 } })))) ∧
  ∀ (h : HeadId) (s : State),
    let theta : Int := (-(h.val * (7680 / s.tracker.line.headCount : Nat) : Int)) % 7680
    referencingDischarge h s =
      if (s.phase h = .snift ∨ s.phase h = .done) ∧ (s.tracker.line.discharge : Int) < theta ∧ theta ≤ s.tracker.line.commit then
        dischargeCrossing h s
      else s

/-- An index at a wrong angle (R12 to R15): ANGLE_FAULT is raised and the last index error set; a mismatch above half the pitch first aborts
every head in SEATED to TOPUP with ANGLE; extra counts go to BACKING with the backlog owed; lost counts are made good by crossing-producing
steps one after another. That grants are made between the aborts and the resync, and after each of these steps, is deduced from R165 (log
entry 12); a pilot released is no longer on its grant's boost (log entry 10); heads go in ascending number (log entry 6, the model's
choice). That the whole catch-up is one command, no other event falling between its steps, is the model's choice (log entry 24). -/
def Obligations.IndexMismatchResyncs : Prop :=
  ∀ (t : Time) (s : State), s.tracker.motion = .tracking → s.tracker.angle ≠ 0 → s.tracker.angle < 7680 →
    let a := s.tracker.angle
    let k := if a < 3840 then a else 7680 - a
    let err : Int := if a < 3840 then (k : Int) else -(k : Int)
    let s' : State := judgeLine { s with
      now := max s.now t, tracker := { s.tracker with lastIndexError := err }, globals := { s.globals with angleFault := true } }
    ∃ w, (if 7680 / s.tracker.line.headCount / 2 < k then ∃ v, w = arbitrate v ∧ v.globals = s'.globals ∧ AllForcedToSnift .angle s' v
          else w = s') ∧
      (a < 3840 → exec (.indexEvent t) s =
        .next { w with tracker := { w.tracker with angle := 0, backlog := k, motion := .backing, reverseOwed := true } }) ∧
      (3840 ≤ a → exec (.indexEvent t) s = .next (crossingStep^[k] w) ∧
        (crossingStep^[k] w).tracker = { w.tracker with angle := 0, stepCount := w.tracker.stepCount + BitVec.ofNat 32 k })

/-! ## Dose counter -/

/-- A pulse outside the counting phases is stray (R60); a pulse of a head that is not installed is not taken (R37). A pulse less than 40 µs
after the last counted one is a glitch (R61, R62): it adds 1 to the glitch count and nothing else; the sixteenth raises
EQUIPMENT(METER_NOISE) and forces the head straight to SNIFT (R99). -/
def Obligations.StrayAndGlitchPulses : Prop :=
  (∀ (t : Time) (h : HeadId) (s : State),
    (s.isInstalled h = true → s.phase h ∈ [Phase.empty, .seated, .pressurize, .snift, .done] →
      exec (.meterPulse t h) s =
        .next (modRecord h (fun r => { r with stray := min (r.stray + 1) 255 }) { s with now := max s.now t })) ∧
    (s.isInstalled h = false → exec (.meterPulse t h) s = .next { s with now := max s.now t })) ∧
  (∀ (t : Time) (h : HeadId) (s : State) (tk : Ticket) (last : Time),
    s.isInstalled h = true → s.phase h ∈ [Phase.fast, .slow, .settle, .topup] → (s.head h).ticket = some tk →
    (s.head h).lastCounted = some last → max s.now t - last < 40 →
    let s' : State := { s with now := max s.now t }
    let tk' : Ticket := { tk with glitches := tk.glitches + 1 }
    let s1 := modHead h (fun x => { x with ticket := some tk' }) s'
    (tk.glitches + 1 ≠ 16 → exec (.meterPulse t h) s = .next s1) ∧
    (tk.glitches + 1 = 16 → ∃ v, exec (.meterPulse t h) s = .next (arbitrate v) ∧
      ForcedToSnift .meterNoise h { (s.head h).causes with equipment := some .meterNoise } (leavingIfIn (s.head h).record.service) s1 v))

/-- A pulse that is no glitch is counted (R61, R63): K into D and 1 into P, each saturating, and the timers by phase (R86). Where it meets
no armed threshold, that is all. A head in TOPUP is taken to be after its SLOW grant while its SLOW pilot is energised (log entry 20,
deduced). -/
def Obligations.CountedPulseAccumulates : Prop :=
  ∀ (t : Time) (h : HeadId) (s : State) (tk : Ticket),
    s.isInstalled h = true → (s.head h).ticket = some tk →
    (∀ last, (s.head h).lastCounted = some last → 40 ≤ max s.now t - last) →
    let now := max s.now t
    let x := s.head h
    let d := min (tk.d + tk.snapshot.k) 268435455
    let tk' : Ticket := { tk with p := min (tk.p + 1) 1048575, d := d }
    let flow : Timers := { x.seq.timers with startFlow := none, stall := some (now + 100 * tk.snapshot.recipe.tStall) }
    let still : Timers := { x.seq.timers with flowStill := some (now + 100 * tk.snapshot.recipe.tStill) }
    let counted (q : Timers) : Host.Outcome State Fault Refusal :=
      .next (setHead h { x with lastCounted := some now, ticket := some tk', seq := { x.seq with timers := q } } { s with now := now })
    (s.phase h = .fast → (d : Int) < 256 * tk.snapshot.e → (d : Int) < 256 * tk.snapshot.f → exec (.meterPulse t h) s = counted flow) ∧
    (s.phase h = .slow → (d : Int) < 256 * tk.snapshot.e → exec (.meterPulse t h) s = counted flow) ∧
    (s.phase h = .settle → exec (.meterPulse t h) s = counted still) ∧
    (s.phase h = .topup → (d : Int) < 256 * tk.snapshot.eTop →
      exec (.meterPulse t h) s = counted (if s.energised h .slow then flow else x.seq.timers))

/-- A counted pulse that meets an armed threshold (R65): in FAST the switch crossing releases FAST and enters SLOW (R66, R87) unless the close
test is met; the close crossing records D_close, releases the fill pilots, sets NO_SLOW out of FAST and begins the first settle (R67, R88);
the top-up close crossing begins the second (R94). Then the grants. -/
def Obligations.CountedPulseCrossesThreshold : Prop :=
  ∀ (t : Time) (h : HeadId) (s : State) (tk : Ticket),
    s.isInstalled h = true → (s.head h).ticket = some tk →
    (∀ last, (s.head h).lastCounted = some last → 40 ≤ max s.now t - last) →
    let now := max s.now t
    let x := s.head h
    let d := min (tk.d + tk.snapshot.k) 268435455
    let tk' : Ticket := { tk with p := min (tk.p + 1) 1048575, d := d }
    let s1 := setHead h { x with lastCounted := some now } { s with now := now }
    (s.phase h = .fast → (d : Int) < 256 * tk.snapshot.e → 256 * tk.snapshot.f ≤ (d : Int) →
      ∃ v, exec (.meterPulse t h) s = .next (arbitrate v) ∧
        v.head h = { x with
          lastCounted := some now, ticket := some tk'
          seq := { x.seq with
            phase := .slow, timers := { x.seq.timers with startFlow := none, stall := some (now + 100 * tk.snapshot.recipe.tStall) } }
          pilots := { x.pilots with fast := s1.releasedPilot h .fast } } ∧
        v.entryOf h = s.entryWithout [.fast] h ∧ OthersStand h s1 v ∧ MembersStand h s1 v ∧ v.attentionLine = s.attentionLine) ∧
    (s.phase h = .fast ∨ s.phase h = .slow → 256 * tk.snapshot.e ≤ (d : Int) →
      ∃ v, exec (.meterPulse t h) s = .next (arbitrate v) ∧
        Settled .first [.fast, .slow] h
          { tk' with dClose := some (tk.dClose.getD d), noSlow := tk.noSlow || decide (s.phase h = .fast) } s1 v) ∧
    (s.phase h = .topup → 256 * tk.snapshot.eTop ≤ (d : Int) →
      ∃ v, exec (.meterPulse t h) s = .next (arbitrate v) ∧ Settled .second [.slow] h tk' s1 v)

/-- The figures of dose end (R72, R74, R104): final volume, the tolerance tests where no forced reason stands, disposition and dose-end
record. -/
def Obligations.TicketJudgedAtDoseEnd : Prop :=
  ∀ tk : Ticket,
    let final := (tk.d + 128) / 256
    let r := tk.snapshot.recipe
    let forced := ∃ q : Reason, q ≠ .low ∧ q ≠ .high ∧ tk.has q = true
    let low := (final : Int) - tk.snapshot.t < (r.vt : Int) - r.rLo
    let high := (final : Int) - tk.snapshot.t > (r.vt : Int) + r.rHi
    tk.reasons.toNat < 32768 →
    tk.judge.doseEnd = some { outcome := if tk.forced then .forced else .byVolume, final := final } ∧ (tk.forced = true ↔ forced) ∧
    (∀ q : Reason, tk.judge.has q = true ↔ tk.has q = true ∨ ¬forced ∧ (q = .low ∧ low ∨ q = .high ∧ high)) ∧
    (tk.judge.disposition = .good ↔ ∀ q : Reason, tk.judge.has q = false) ∧
    (tk.judge.disposition = .good ∨ tk.judge.disposition = .reject) ∧
    tk.judge = { tk with reasons := tk.judge.reasons, doseEnd := tk.judge.doseEnd, disposition := tk.judge.disposition }

/-! ## Sequencer: inputs and timers -/

/-- Input edges (R80, R84): the input takes its level; a rising pressure-equal edge in PRESSURIZE with gas granted and equalized not yet set
also sets equalized, stops the equalize timer, and queues the FILL open if the fill crossing is reached, with the grants it allows. That the
input of a head that is not installed follows its edges too is deduced (log entry 14). -/
def Obligations.InputEdgesTaken : Prop :=
  ∀ (t : Time) (h : HeadId) (level : Bool) (s : State),
    let s' : State := { s with now := max s.now t }
    let x := s.head h
    let counts := s.isInstalled h = true ∧ level = true ∧ x.pressureEqual = false ∧ x.seq.phase = .pressurize ∧
      x.seq.gasGranted = true ∧ x.seq.equalized = false
    let u := setHead h { x with
      pressureEqual := true, seq := { x.seq with equalized := true, timers := { x.seq.timers with equalize := none } } } s'
    exec (.presenceEdge t h level) s = .next (setHead h { x with presence := level } s') ∧
    (¬counts → exec (.pressureEqualEdge t h level) s = .next (setHead h { x with pressureEqual := level } s')) ∧
    (counts → x.seq.fillReached = false → exec (.pressureEqualEdge t h level) s = .next u) ∧
    (counts → x.seq.fillReached = true → exec (.pressureEqualEdge t h level) s =
      .next (arbitrate { u with pilotQueue := insertEntry { head := h, kind := .fill, step := s.tracker.stepCount } s.pilotQueue }))

/-- A timer that has run down (R78): equalize forces the head straight to SNIFT with EQUALIZE_TIMEOUT (R84, R98); settle-limit raises
EQUIPMENT(DRIP) and forces it with DRIP (R92, R99). Then the grants. -/
def Obligations.ExpiriesForceToSnift : Prop :=
  (∀ (t due : Time) (h : HeadId) (s : State), s.isInstalled h = true → s.phase h = .pressurize →
    (s.head h).seq.timers.equalize = some due → due ≤ max s.now t →
    let s' : State := { s with now := max s.now t }
    ∃ v, exec (.equalizeExpiry t h) s = .next (arbitrate v) ∧
      ForcedToSnift .equalizeTimeout h (s.head h).causes (s.head h).record.service s' v) ∧
  (∀ (t due : Time) (h : HeadId) (s : State), s.isInstalled h = true → s.phase h = .settle →
    (s.head h).seq.timers.settleLimit = some due → due ≤ max s.now t →
    let s' : State := { s with now := max s.now t }
    ∃ v, exec (.settleLimitExpiry t h) s = .next (arbitrate v) ∧
      ForcedToSnift .drip h { (s.head h).causes with equipment := some .drip } (leavingIfIn (s.head h).record.service) s' v)

/-- A start-flow or stall timer that has run down (R78, R89) forces the head to SETTLE with NO_FLOW or STALL (R97): the first settle out of
FAST or SLOW, where D_close is recorded (R68), the second out of TOPUP (R90). -/
def Obligations.NoFlowAndStallSettle : Prop :=
  ∀ (t due : Time) (h : HeadId) (s : State) (tk : Ticket), s.isInstalled h = true → (s.head h).ticket = some tk → due ≤ max s.now t →
    let s' : State := { s with now := max s.now t }
    let settles (r : Reason) (v : State) : Prop :=
      (s.phase h ∈ [Phase.fast, .slow] → Settled .first [.fast, .slow] h (tk.endedWith r (s.phase h)) s' v) ∧
      (s.phase h = .topup → Settled .second [.fast, .slow] h (tk.endedWith r .topup) s' v)
    (s.phase h ∈ [Phase.fast, .slow, .topup] → (s.head h).seq.timers.startFlow = some due →
      ∃ v, exec (.startFlowExpiry t h) s = .next (arbitrate v) ∧ settles .noFlow v) ∧
    (s.phase h ∈ [Phase.fast, .slow, .topup] → (s.head h).seq.timers.stall = some due →
      ∃ v, exec (.stallExpiry t h) s = .next (arbitrate v) ∧ settles .stall v)

/-- A flow-still timer that has run down in the first settle (R91): the sample and OUTLIER are recorded (R70, R71); TOPUP is entered if the
test counts and is met (R73, R93), otherwise dose end follows (R103). In the second settle dose end follows at once. -/
def Obligations.FlowStillEndsSettle : Prop :=
  ∀ (t due : Time) (h : HeadId) (s : State) (tk : Ticket), s.isInstalled h = true → (s.head h).ticket = some tk → s.phase h = .settle →
    (s.head h).seq.timers.flowStill = some due → due ≤ max s.now t →
    let s' : State := { s with now := max s.now t }
    let x := s.head h
    let sample : Int := ((tk.d : Int) - 256 * tk.snapshot.e + 128) / 256
    let sampled : Ticket := { tk with x := some sample, outlier := decide (sample > 2 * (tk.snapshot.recipe.aMax : Int)) }
    let rested : Timers := { x.seq.timers with flowStill := none, settleLimit := none }
    let topUp := tk.snapshot.recipe.topUp = true ∧ tk.forced = false ∧ tk.toppedUp = false ∧ x.seq.closeByPassed = false ∧
      (((tk.d + 128) / 256 : Nat) : Int) < (tk.snapshot.recipe.vt : Int) + tk.snapshot.t - tk.snapshot.recipe.u
    let ends (tk' : Ticket) : Prop := ∃ v, exec (.flowStillExpiry t h) s = .next (arbitrate v) ∧
      DoseEnded h tk'.judge x.causes x.record.service s' v ∧
      (v.head h).seq = { x.seq with phase := .snift, timers := rested } ∧
      (v.head h).pilots = { x.pilots with gas := s'.releasedPilot h .gas }
    (x.seq.settle = .first → topUp → exec (.flowStillExpiry t h) s = .next (arbitrate
      { setHead h { x with
          ticket := some { sampled with toppedUp := true }, seq := { x.seq with phase := .topup, timers := rested } } s' with
        pilotQueue := insertEntry { head := h, kind := .topUp, step := s.tracker.stepCount } s.pilotQueue })) ∧
    (x.seq.settle = .first → ¬topUp → ends sampled) ∧
    (x.seq.settle = .second → ends tk)


/-- A snift timer that has run down releases SNIFT, records VENTED and enters DONE (R106). -/
def Obligations.SniftExpiryVents : Prop :=
  ∀ (t due : Time) (h : HeadId) (s : State) (tk : Ticket), s.isInstalled h = true → s.phase h = .snift → (s.head h).ticket = some tk →
    (s.head h).seq.timers.snift = some due → due ≤ max s.now t →
    let s' : State := { s with now := max s.now t }
    let x := s.head h
    ∃ v, exec (.sniftExpiry t h) s = .next (arbitrate v) ∧
      v.head h = { x with
        ticket := some { tk with headEnd := some .vented }
        seq := { x.seq with phase := .done, timers := { x.seq.timers with snift := none } }
        pilots := { x.pilots with snift := s'.releasedPilot h .snift } } ∧
      v.entryOf h = s.entryWithout [.snift] h ∧ OthersStand h s' v ∧ MembersStand h s' v ∧ v.attentionLine = s.attentionLine

/-- A timer that is stopped, or has not run down, gives no expiry (R78); nor does a head that is not installed (R37). That the command of an
event that is not due changes nothing but the clock is the model's choice (log entry 2). -/
def Obligations.VoidExpiriesChangeNothing : Prop :=
  ∀ (t : Time) (h : HeadId) (s : State),
    let idle (v : Option Time) : Prop := s.isInstalled h = false ∨ v = none ∨ ∃ due, v = some due ∧ max s.now t < due
    let q := (s.head h).seq.timers
    let s' : State := { s with now := max s.now t }
    (idle q.equalize → exec (.equalizeExpiry t h) s = .next s') ∧ (idle q.startFlow → exec (.startFlowExpiry t h) s = .next s') ∧
    (idle q.stall → exec (.stallExpiry t h) s = .next s') ∧ (idle q.flowStill → exec (.flowStillExpiry t h) s = .next s') ∧
    (idle q.settleLimit → exec (.settleLimitExpiry t h) s = .next s') ∧ (idle q.snift → exec (.sniftExpiry t h) s = .next s')

/-! ## Sequencer: zone crossings -/

/-- The infeed crossing (R80, R81, R64, R115): an IN head in EMPTY with a container present and the latch SET seats it, its ticket carrying
the snapshot of the revision used and the first tag, from the offered one on, that no existing ticket holds; with the latch CLEAR it raises
INTERVENTION(PRESENCE_STUCK); otherwise nothing happens. -/
def Obligations.InfeedCrossingSeats : Prop :=
  ∀ (h : HeadId) (s : State),
    let x := s.head h
    let r := x.record
    let here := r.service = .inn ∧ x.seq.phase = .empty ∧ x.presence = true
    (∀ n rev, here → r.presenceReleased = true → r.slot = some n → s.usedRevision h = some rev →
      ∃ tag, infeedCrossing h s =
        { setHead h { x with
            record := { r with presenceReleased := false }
            seq :=
              { phase := .seated, gasGranted := false, equalized := false, fillReached := false, closeByPassed := false
                settle := .none, timers := x.seq.timers }
            ticket := some
              { tag := tag, head := h, slot := n, revision := rev.number
                snapshot :=
                  { k := r.k, a := r.a, t := r.t, e := rev.recipe.vt + r.t - r.a, f := rev.recipe.vt - rev.recipe.s
                    eTop := rev.recipe.vt + r.t - rev.recipe.aTop, recipe := rev.recipe }
                p := 0, d := 0, dClose := none, x := none, glitches := 0, noSlow := false, toppedUp := false, settleCut := false
                outlier := false, kept := false, reasons := 0, disposition := .pending, doseEnd := none, headEnd := none
                verdict := none } } s with
          tagCounter := tag + 1 } ∧
        (s.transit.length ≤ 64 → tag ∉ s.tags ∧
          ∀ i : Nat, i < (tag - s.tagCounter).toNat → s.tagCounter + BitVec.ofNat 12 i ∈ s.tags)) ∧
    (here → r.presenceReleased = false → infeedCrossing h s =
      judgeLine (setHead h { x with causes := { x.causes with intervention := some .presenceStuck } } s)) ∧
    (¬here → infeedCrossing h s = s)

/-- The gas crossing (R82) and the fill crossing (R84): a seated head enters PRESSURIZE and queues its GAS open; a head in PRESSURIZE sets
fill reached and, once equalized, queues its FILL open; with the step count of the crossing. -/
def Obligations.GasAndFillCrossingsQueueOpens : Prop :=
  ∀ (h : HeadId) (s : State),
    let x := s.head h
    let queued (k : OpenKind) := insertEntry { head := h, kind := k, step := s.tracker.stepCount } s.pilotQueue
    (x.seq.phase = .seated → gasCrossing h s =
      { setHead h { x with seq := { x.seq with phase := .pressurize } } s with pilotQueue := queued .gas }) ∧
    (x.seq.phase ≠ .seated → gasCrossing h s = s) ∧
    (x.seq.phase = .pressurize → x.seq.equalized = true → fillCrossing h s =
      { setHead h { x with seq := { x.seq with fillReached := true } } s with pilotQueue := queued .fill }) ∧
    (x.seq.phase = .pressurize ∧ x.seq.equalized = false ∨ x.seq.phase = .seated →
      fillCrossing h s = setHead h { x with seq := { x.seq with fillReached := true } } s) ∧
    (x.seq.phase ≠ .pressurize → x.seq.phase ≠ .seated → fillCrossing h s = s)

/-- The close-by crossing (R95) and the snift-by crossing (R96), by phase. -/
def Obligations.LateCrossingsForce : Prop :=
  ∀ (h : HeadId) (s : State) (tk : Ticket),
    let x := s.head h
    let passed := setHead h { x with seq := { x.seq with closeByPassed := true } } s
    (s.phase h = .empty → closeByCrossing h s = s ∧ sniftByCrossing h s = s) ∧
    (s.phase h ∈ [Phase.settle, .snift, .done] → closeByCrossing h s = passed) ∧
    (s.phase h ∈ [Phase.snift, .done] → sniftByCrossing h s = s) ∧
    (s.phase h ∈ [Phase.seated, .pressurize] →
      ForcedToSnift .closeBy h x.causes x.record.service passed (closeByCrossing h s)) ∧
    (s.phase h ∈ [Phase.seated, .pressurize, .fast, .slow, .topup] →
      ForcedToSnift .sniftBy h x.causes x.record.service s (sniftByCrossing h s)) ∧
    (x.ticket = some tk → s.phase h ∈ [Phase.fast, .slow] →
      Settled .first [.fast, .slow] h (tk.endedWith .closeBy (s.phase h)) passed (closeByCrossing h s)) ∧
    (x.ticket = some tk → s.phase h = .topup →
      Settled .second [.fast, .slow] h (tk.endedWith .closeBy .topup) passed (closeByCrossing h s)) ∧
    (x.ticket = some tk → s.phase h = .settle →
      DoseEnded h ({ tk with settleCut := true } : Ticket).judge x.causes x.record.service s (sniftByCrossing h s) ∧
      ((sniftByCrossing h s).head h).seq =
        { x.seq with phase := .snift, timers := { x.seq.timers with flowStill := none, settleLimit := none } } ∧
      ((sniftByCrossing h s).head h).pilots = { x.pilots with gas := s.releasedPilot h .gas })

/-- The discharge crossing (R108, R116 to R119). In DONE the ticket joins the tail of the transit list, the oldest ticket that is not KEPT
being displaced from a full list with VERDICT_LOSS, and is reported on the discharge lines. In SEATED to TOPUP a snift-by crossing comes
first. In SNIFT the ticket is first cut short: SNIFT_SHORT, REJECT, FILL_FAULT(SNIFT_SHORT). That the count is taken with the phase already
EMPTY, so that an IN head becomes OUT at a third fault, is deduced from R55 (log entry 8). In EMPTY an empty position is reported. -/
def Obligations.DischargeMovesTicketToTransit : Prop :=
  ∀ (h : HeadId) (s : State) (tk : Ticket),
    let x := s.head h
    let u := dischargeCrossing h s
    let room := if s.transit.length < 64 then s.transit else s.transit.eraseP fun k => !k.kept
    let lossOf (g : Globals) : Globals := if s.transit.length < 64 then g else { g with verdictLoss := true }
    let cut : Ticket := { tk with
      reasons := tk.reasons ||| Reason.sniftShort.bit, headEnd := some .cutShort, disposition := .reject }
    (s.phase h = .empty → u = { s with lines := { container := false, reject := false } }) ∧
    ((s.phase h).filling = true → u = dischargeCrossing h (sniftByCrossing h s)) ∧
    (s.phase h = .done → x.ticket = some tk → (s.transit.length < 64 → s.attentionLine = u.attentionLine) ∧
      u = { setHead h { x with ticket := none, seq := { x.seq with phase := .empty } } s with
        transit := room ++ [{ tk with kept := false, verdict := none }]
        lines := { container := true, reject := decide (tk.disposition = .reject) }
        globals := lossOf s.globals, attentionLine := u.attentionLine }) ∧
    (s.phase h = .snift → x.ticket = some tk →
      u.phase h = .empty ∧ (u.head h).ticket = none ∧ (u.head h).seq.timers = { x.seq.timers with snift := none } ∧
      (u.head h).pilots = { x.pilots with snift := s.releasedPilot h .snift } ∧ u.entryOf h = s.entryWithout [.snift] h ∧
      u.transit = room ++ [{ cut with kept := false, verdict := none }] ∧ u.lines = { container := true, reject := true } ∧
      u.globals = lossOf s.globals ∧ (u.head h).causes.fillFault = some .sniftShort ∧
      (tk.faultReason.isSome = true → (u.head h).record = x.record ∧ u.slots = s.slots) ∧
      (tk.faultReason = none → (u.head h).record.faultCount = if x.record.faultCount + 1 < 3 then x.record.faultCount + 1 else 0) ∧
      (tk.faultReason = none → 3 ≤ x.record.faultCount + 1 → (u.head h).causes.intervention = some .repeatedFaults ∧
        (x.record.service = .inn ∨ x.record.service = .joining → (u.head h).record.service = .out)) ∧
      u.outer = s.outer ∧ u.elsewhere h = s.elsewhere h)

/-! ## Commit-angle processing, members, promotion -/

/-- Commit-angle processing (R48): its seven steps in order, and what each does (R49 to R54): to the head, to the slot a member leaves and
the one it joins (R29), to the slot whose pending revision it adopts (R33), with the promotion that either may bring (R34). -/
def Obligations.CommitStepsInOrder : Prop :=
  ∀ (h : HeadId) (s : State),
    let x := s.head h
    let r := x.record
    commitCrossing h s = commitService h (commitAdopt h (commitSlot h (commitPending h (commitK h (commitStray h (commitPresence h s)))))) ∧
    -- step 1 (R49)
    commitPresence h s =
      (if x.presence then s else setHead h { x with record := { r with presenceReleased := true } } s) ∧
    -- step 2 (R50)
    (r.stray ≤ 7 → commitStray h s = setHead h { x with record := { r with stray := 0 } } s) ∧
    (8 ≤ r.stray → commitStray h s = modRecord h (fun q => { q with stray := 0 })
      (takeOut h (judgeLine (setHead h { x with causes := { x.causes with equipment := some .strayFlow } } s)))) ∧
    -- step 3 (R51)
    (r.stagedK = none → commitK h s = s) ∧
    (∀ k, r.stagedK = some k → commitK h s = judgeLine (setHead h { x with
      record := { r with k := k, stagedK := none, t := 0, pendingT := none, drift := 0 }
      causes := { x.causes with trimLimit := false } } s)) ∧
    -- step 4 (R52)
    (r.resetStaged = false → commitPending h s = setHead h { x with
      record := { r with a := r.pendingA.getD r.a, t := r.pendingT.getD r.t, pendingA := none, pendingT := none } } s) ∧
    (r.resetStaged = true → commitPending h s = setHead h { x with
      record := { r with
        a := ((s.usedRevision h).map (·.recipe.aInit)).getD 0, t := 0, pendingA := none, pendingT := none, drift := 0
        resetStaged := false } } s) ∧
    -- step 5 (R53)
    (r.pendingSlot = none → commitSlot h s = s) ∧
    (∀ n, r.pendingSlot = some n →
      let u := commitSlot h s
      let r' := (u.head h).record
      r' = { r with
        slot := some n, pendingSlot := none, t := 0, drift := 0, resetStaged := false
        usesPending := r'.usesPending, a := ((u.usedRevision h).map (·.recipe.aInit)).getD 0
        adoptedRev := (u.usedRevision h).map (·.number) } ∧
      (r.service ≠ .out → r.slot ≠ some n → (u.slot n).members = (s.slot n).members + 1 ∧
        (u.slot n).unadopted = (s.slot n).unadopted ∧
        (u.slot n).adopted = (s.slot n).adopted + (if (s.slot n).pending.isSome then 1 else 0) ∧
        r'.usesPending = (s.slot n).pending.isSome) ∧
      (r.service = .out ∨ r.slot = some n → u.slots = s.slots ∧ ∀ j, j ≠ h → u.head j = s.head j) ∧
      (r.service ≠ .out → r.slot = none → ∀ j, j ≠ h → u.head j = s.head j) ∧
      (∀ m, m ≠ n → r.slot ≠ some m → u.slot m = s.slot m) ∧
      -- the slot that a member leaves (R29, steps 1 to 3 of R28): its counts, and its promotion
      (∀ o, r.service ≠ .out → r.slot = some o → o ≠ n →
        let sl := s.slot o
        let left := sl.left r.usesPending
        (sl.pending = none ∨ left.unadopted ≠ 0 → u.slot o = left ∧ ∀ j, j ≠ h → u.head j = s.head j) ∧
        (∀ rev, sl.pending = some rev → left.unadopted = 0 →
          u.slot o = { sl with members := sl.members - 1, current := some rev, pending := none, unadopted := 0, adopted := 0 } ∧
          ∀ j, j ≠ h → u.head j = (promote o s).head j)) ∧
      u = { s with slots := u.slots, heads := u.heads }) ∧
    -- step 6 (R33, R54)
    (∀ n rev, r.slot = some n → (s.slot n).pending = some rev → r.service ≠ .out → r.usesPending = false →
      let u := commitAdopt h s
      (u.head h).record = { r with
        usesPending := decide ((s.slot n).unadopted ≠ 1 ∧ (s.slot n).unadopted ≠ 0), adoptedRev := some rev.number
        a := min r.a rev.recipe.aMax, t := max (-(rev.recipe.tMax : Int)) (min rev.recipe.tMax r.t) } ∧
      (1 < (s.slot n).unadopted → (u.slot n) =
        { s.slot n with unadopted := (s.slot n).unadopted - 1, adopted := (s.slot n).adopted + 1 } ∧ ∀ j, j ≠ h → u.head j = s.head j) ∧
      ((s.slot n).unadopted = 1 → (u.slot n) = { s.slot n with current := some rev, pending := none, unadopted := 0, adopted := 0 } ∧
        ∀ j, j ≠ h → u.head j = (promote n s).head j) ∧
      (∀ m, m ≠ n → u.slot m = s.slot m) ∧ u = { s with slots := u.slots, heads := u.heads }) ∧
    (r.service = .out ∨ r.usesPending = true ∨ (∀ n, r.slot = some n → (s.slot n).pending = none) → commitAdopt h s = s) ∧
    -- step 7 (R54)
    (r.service = .joining → commitService h s = setHead h { x with record := { r with service := .inn } } s) ∧
    (r.service = .leaving → commitService h s = becomeOut h s) ∧
    (r.service = .out ∨ r.service = .inn → commitService h s = s)

/-- A pending revision is promoted (R34): it becomes current, the counts return to 0, every member uses the current revision, and every OUT
head assigned to the slot is aligned with it (R24). A member that becomes OUT leaves its slot (R28): the member count falls, the unadopted or
the adopted count with it while a revision is pending, an unadopted count of 0 promotes, and the head is aligned with the current revision
(R24). A head that becomes JOINING is counted in, unadopted while a revision is pending (R27). -/
def Obligations.MembersAndPromotion : Prop :=
  (∀ (n : SlotId) (rev : Revision) (s : State), (s.slot n).pending = some rev →
    let u := promote n s
    u.slot n = { s.slot n with current := some rev, pending := none, unadopted := 0, adopted := 0 } ∧
    (∀ m, m ≠ n → u.slot m = s.slot m) ∧
    (∀ h,
      let x := s.head h
      let r := x.record
      u.head h =
        if r.slot ≠ some n then x
        else if r.service ≠ .out then { x with record := { r with usesPending := false } }
        else { x with record := { r with
          usesPending := false, adoptedRev := some rev.number
          a := min r.a rev.recipe.aMax, pendingA := r.pendingA.map fun a => min a rev.recipe.aMax
          t := max (-(rev.recipe.tMax : Int)) (min rev.recipe.tMax r.t)
          pendingT := r.pendingT.map fun t => max (-(rev.recipe.tMax : Int)) (min rev.recipe.tMax t) } }) ∧
    u = { s with slots := u.slots, heads := u.heads }) ∧
  (∀ (h : HeadId) (n : SlotId) (s : State), (s.head h).record.slot = some n →
    let r := (s.head h).record
    let sl := s.slot n
    let out := becomeOut h s
    let joined := becomeJoining h s
    let left := sl.left r.usesPending
    (sl.pending = none ∨ left.unadopted ≠ 0 → out.slot n = left ∧ ∀ j, j ≠ h → out.head j = s.head j) ∧
    (∀ rev, sl.pending = some rev → left.unadopted = 0 →
      out.slot n = { sl with members := sl.members - 1, current := some rev, pending := none, unadopted := 0, adopted := 0 } ∧
      ∀ j, j ≠ h → out.head j = (promote n s).head j) ∧
    (∀ m, m ≠ n → out.slot m = s.slot m) ∧
    (∀ rev, (out.slot n).current = some rev → out.head h = { s.head h with record := { r with
      service := .out, usesPending := false, adoptedRev := some rev.number
      a := min r.a rev.recipe.aMax, pendingA := r.pendingA.map fun a => min a rev.recipe.aMax
      t := max (-(rev.recipe.tMax : Int)) (min rev.recipe.tMax r.t)
      pendingT := r.pendingT.map fun t => max (-(rev.recipe.tMax : Int)) (min rev.recipe.tMax t) } }) ∧
    ((out.slot n).current = none → out.head h = { s.head h with record := { r with service := .out } }) ∧
    out = { s with slots := out.slots, heads := out.heads } ∧
    joined = { setHead h { s.head h with record := { r with service := .joining, usesPending := false } } s with
      slots := s.slots.set n.val { sl with
        members := sl.members + 1, unadopted := if sl.pending.isSome then sl.unadopted + 1 else sl.unadopted } })

/-! ## Pilot arbiter -/

/-- A grant (R169) of the FREE slot `i` to an entry, as the sequencer then takes it: GAS in PRESSURIZE (R83), FILL in PRESSURIZE (R85), a
top-up open in TOPUP (R93), SNIFT in SNIFT (R106). A GAS grant that finds the pressure-equal input asserted forces the head (R99). -/
def Obligations.GrantEnergisesPilots : Prop :=
  ∀ (i : BoostId) (e : Entry) (s : State) (tk : Ticket), (s.head e.head).ticket = some tk →
    let h := e.head
    let x := s.head h
    let rec_ := tk.snapshot.recipe
    let on (r : PilotRecord) : PilotRecord := { r with state := .boost }
    let held (y : Head) : State :=
      { setHead h y s with
        boosts := s.boosts.set i.val (some { head := h, pilots := e.kind.pilots, completion := s.now + 100 * s.tracker.line.boostTime })
        pilotQueue := s.pilotQueue.filter fun q => decide (q.head ≠ h) }
    let gasOn : Head := { x with
      pilots := { x.pilots with gas := on x.pilots.gas }
      seq := { x.seq with gasGranted := true, timers := { x.seq.timers with equalize := some (s.now + 100 * rec_.tEq) } } }
    (e.kind = .gas → x.seq.phase = .pressurize → x.pressureEqual = false → grant i e s = held gasOn) ∧
    (e.kind = .gas → x.seq.phase = .pressurize → x.pressureEqual = true →
      ForcedToSnift .pressureSwitch h { x.causes with equipment := some .pressureSwitch } (leavingIfIn x.record.service) (held gasOn)
        (grant i e s)) ∧
    (e.kind = .fill → x.seq.phase = .pressurize → grant i e s = held { x with
      pilots := { x.pilots with fast := on x.pilots.fast, slow := on x.pilots.slow }
      seq := { x.seq with
        phase := .fast, timers := { x.seq.timers with equalize := none, startFlow := some (s.now + 100 * rec_.tStart) } } }) ∧
    (e.kind = .topUp → x.seq.phase = .topup → grant i e s = held { x with
      pilots := { x.pilots with slow := on x.pilots.slow }
      seq := { x.seq with timers := { x.seq.timers with startFlow := some (s.now + 100 * rec_.tStart) } } }) ∧
    (e.kind = .snift → x.seq.phase = .snift → grant i e s = held { x with
      pilots := { x.pilots with snift := on x.pilots.snift }
      seq := { x.seq with timers := { x.seq.timers with snift := some (s.now + 100 * rec_.tSnift) } } })

/-- The arbiter (R167, R168): the entry granted next is eligible, each of its pilots OFF and past its dwell, and stands before every other
eligible entry by class, then age of its step, then head number; entries are granted one after another while a boost slot is FREE and an
eligible entry remains, and when the arbiter has finished, either no slot is FREE or no entry is eligible. A dwell that ends at the present
moment is past once its dwell end has been taken (R173; deduced, log entry 23); which FREE slot a grant takes is the model's choice (log
entry 13). -/
def Obligations.ArbiterGrantsInOrder : Prop :=
  (∀ s : State, QueueSorted s →
    let eligible (e : Entry) : Prop := ∀ p ∈ e.kind.pilots, s.energised e.head p = false ∧
      ∀ r, ((s.head e.head).pilots.get p).released = some r → r + 100 * s.tracker.line.minDwell < s.now ∨
        r + 100 * s.tracker.line.minDwell = s.now ∧ ((s.head e.head).pilots.get p).dwellTaken = some s.now
    let age (e : Entry) : Nat := (s.tracker.stepCount.toNat + 4294967296 - e.step.toNat) % 4294967296
    (s.firstEligible = none ↔ ∀ e ∈ s.pilotQueue, ¬eligible e) ∧
    ∀ e, s.firstEligible = some e → e ∈ s.pilotQueue ∧ eligible e ∧ ∀ o ∈ s.pilotQueue, eligible o → o ≠ e →
      e.kind.rank < o.kind.rank ∨ e.kind.rank = o.kind.rank ∧
        (age o < age e ∨ age e = age o ∧ e.head.val < o.head.val)) ∧
  (∀ s : State,
    (s.freeBoost = none ∨ s.firstEligible = none → arbitrate s = s) ∧
    (∀ i e, s.freeBoost = some i → s.firstEligible = some e → s.boosts[i.val] = none ∧ arbitrate s = arbitrate (grant i e s)) ∧
    ((∀ i : BoostId, (arbitrate s).boosts[i.val] ≠ none) ∨ (arbitrate s).firstEligible = none))

/-- A release of one pilot (R171, R172): an energised pilot goes OFF with its release time now, its boost slot staying held; a pilot that is
OFF and named by the head's entry withdraws the entry; otherwise nothing happens. -/
def Obligations.ReleaseFollowsPilotState : Prop :=
  ∀ (p : Pilot) (h : HeadId) (s : State),
    let u := release p h s
    (s.energised h p = true →
      (∀ q, (u.head h).pilots.get q = if q = p then { (s.head h).pilots.get p with state := .off, released := some s.now }
        else (s.head h).pilots.get q) ∧
      u.boosts.map (·.map fun g => (g.head, g.completion)) = s.boosts.map (·.map fun g => (g.head, g.completion)) ∧
      u = { setHead h { s.head h with pilots := (u.head h).pilots } s with boosts := u.boosts } ∧ u.elsewhere h = s.elsewhere h) ∧
    (s.energised h p = false → (∃ e, s.entryOf h = some e ∧ p ∈ e.kind.pilots) →
      u = { s with pilotQueue := s.pilotQueue.filter fun e => decide (e.head ≠ h) }) ∧
    (s.energised h p = false → (∀ e, s.entryOf h = some e → p ∉ e.kind.pilots) → u = s)

/-- A boost completion (R170) frees its slot and brings the grant's pilots still in BOOST to HOLD, those released since its grant being no
longer of it (log entry 10, deduced); a dwell end (R167) has the entries judged again; the grants follow. A dwell that ends at the moment of
another event is over for it only once its own dwell end has been taken (R173; deduced, log entry 23). That the command for a slot that is
FREE, or for a boost or a dwell that has not run, changes nothing but the clock is the model's choice (log entry 2). -/
def Obligations.BoostCompletionsAndDwellEnds : Prop :=
  ∀ (t : Time) (i : BoostId) (h : HeadId) (p : Pilot) (s : State),
    let s' : State := { s with now := max s.now t }
    let released := ((s.head h).pilots.get p).released
    (s.boosts[i.val] = none → exec (.boostCompletion t i) s = .next s') ∧
    (∀ g, s.boosts[i.val] = some g → max s.now t < g.completion → exec (.boostCompletion t i) s = .next s') ∧
    (∀ g, s.boosts[i.val] = some g → g.completion ≤ max s.now t →
      ∃ q : Pilots, exec (.boostCompletion t i) s =
        .next (arbitrate (setHead g.head { s.head g.head with pilots := q } { s' with boosts := s.boosts.set i.val none })) ∧
        ∀ r, q.get r = if r ∈ g.pilots ∧ s.pilot g.head r = .boost then { (s.head g.head).pilots.get r with state := .hold }
          else (s.head g.head).pilots.get r) ∧
    (∀ r, released = some r → r + 100 * s.tracker.line.minDwell ≤ max s.now t →
      ∃ q : Pilots,
        let u := setHead h { s.head h with pilots := q } s'
        exec (.dwellEnd t h p) s = .next (arbitrate u) ∧ u.dwellOver h p = true ∧
        ∀ k, q.get k = if k = p then { (s.head h).pilots.get p with dwellTaken := some (r + 100 * s.tracker.line.minDwell) }
          else (s.head h).pilots.get k) ∧
    (∀ r, released = some r → r + 100 * s.tracker.line.minDwell = max s.now t →
      ((s.head h).pilots.get p).dwellTaken ≠ some (max s.now t) → s'.dwellOver h p = false) ∧
    (released = none ∨ (∃ r, released = some r ∧ max s.now t < r + 100 * s.tracker.line.minDwell) →
      exec (.dwellEnd t h p) s = .next s')

/-! ## Calibration divider -/

/-- A completed division (R155 to R159): K_new is W·256/P to nearest, ties up; the outcome is judged by range, then band; a STAGED one is
applied as a K written by SET HEAD; the outcome is recorded and CAL_DONE raised; the divider becomes IDLE. That the remainder and the
quotient stand at 0 until the completion (log entry 11), and that the command to an IDLE divider changes nothing but the clock (log entry
2), are the model's choices. -/
def Obligations.DivisionCompletionJudges : Prop :=
  ∀ (t : Time) (s : State),
    let s' : State := { s with now := max s.now t }
    (s.divider = none → exec (.divisionCompletion t) s = .next s') ∧
    ∀ c, s.divider = some c → 1 ≤ c.p → c.p ≤ 1048575 → c.w ≤ 250000 → c.dividend = c.w * 256 + c.p / 2 → c.remainder = 0 → c.quotient = 0 →
      let kNew := (c.w * 256 + c.p / 2) / c.p
      let far := (if kNew ≤ c.kSnap then c.kSnap - kNew else kNew - c.kSnap) > c.kSnap / 8
      let o : CalOutcome := if kNew < 256 ∨ 65535 < kNew then .outOfRange else if c.force = false ∧ far then .outOfBand else .staged
      let x := s.head c.head
      let r := x.record
      let direct := o = .staged ∧ r.service = .out
      let r1 : HeadRecord :=
        if direct then { r with k := kNew, stagedK := none, t := 0, pendingT := none, drift := 0 }
        else if o = .staged then { r with stagedK := some kNew } else r
      exec (.divisionCompletion t) s = .next (judgeLine { setHead c.head { x with
          record := { r1 with calResult := some { outcome := o, kNew := some kNew, tag := c.tag } }
          causes := { x.causes with
            trimLimit := x.causes.trimLimit && !decide direct, calDone := some { outcome := o, kNew := some kNew } } } s' with
        divider := none })

/-! ## Carousel link -/

/-- The receiver (R190): HUNT, LENGTH, BODY and CHECK byte by byte; a frame that fails the check (R191) is discarded. A byte that completes
a good frame hands it to the receive queue. The check is the remainder of the bits, most significant first, by x^16 + x^12 + x^5 + 1 from a
register of all ones (R191). An answer's frame is delimiter, length, kind with its top bit set, code, link flags, detail, payload and check
(R190, R194), with the codes of R195. -/
def Obligations.ReceiverTakesBytes : Prop :=
  (∀ bytes : List Byte,
    let bits := bytes.flatMap msbFirst
    ∃ q : Polynomial (ZMod 2), Polynomial.X ^ 16 * bitsPolynomial bits + Polynomial.X ^ bits.length * bitsPolynomial (List.replicate 16 true) =
      q * generator + bitsPolynomial (msbFirst (checkOf bytes))) ∧
  (∀ a : Answer,
    let n := a.payload.length + 4
    let content := BitVec.ofNat 8 (128 + a.kind.toNat % 128) :: a.code.value :: (if a.attention then 1 else 0) :: a.detail :: a.payload
    let c := checkOf (BitVec.ofNat 8 (n / 256) :: BitVec.ofNat 8 n :: content)
    a.frame = 0xC3 :: BitVec.ofNat 8 (n / 256) :: BitVec.ofNat 8 n :: content ++ [BitVec.ofNat 8 (c.toNat / 256), BitVec.ofNat 8 c.toNat]) ∧
  [AnswerCode.done, .accepted, .noSuchHead, .noSuchTag, .badField, .slotEmpty, .slotInUse, .revisionBusy, .notAllowed, .busy, .calNoPulses,
    .malformed].map AnswerCode.value = [0, 1, 2, 3, 4, 5, 6, 7, 8, 9, 10, 11] ∧
  ∀ (t : Time) (b : Byte) (s : State),
    let goesTo (rx : Receiver) : Host.Outcome State Fault Refusal :=
      .next { s with now := max s.now t, link := { s.link with rx := rx, lastByte := max s.now t } }
    (s.link.rx = .hunt → exec (.byteReceived t b) s = goesTo (if b = 0xC3 then .length none else .hunt)) ∧
    (s.link.rx = .length none → exec (.byteReceived t b) s = goesTo (.length (some b))) ∧
    (∀ hi, s.link.rx = .length (some hi) → exec (.byteReceived t b) s =
      goesTo (if 1 ≤ hi.toNat * 256 + b.toNat ∧ hi.toNat * 256 + b.toNat ≤ 64 then .body (hi ++ b) [] else .hunt)) ∧
    (∀ len taken, s.link.rx = .body len taken → exec (.byteReceived t b) s =
      goesTo (if taken.length + 1 < len.toNat then .body len (taken ++ [b]) else .check len (taken ++ [b]) none)) ∧
    (∀ len taken, s.link.rx = .check len taken none → exec (.byteReceived t b) s = goesTo (.check len taken (some b))) ∧
    (∀ len kind body hi, s.link.rx = .check len (kind :: body) (some hi) →
      let good := checkOf ([BitVec.ofNat 8 (len.toNat / 256), BitVec.ofNat 8 len.toNat] ++ kind :: body) = hi ++ b
      (¬good → exec (.byteReceived t b) s = goesTo .hunt) ∧
      (good → exec (.byteReceived t b) s = .next (frameArrives { kind := kind, body := body }
        { s with now := max s.now t, link := { s.link with rx := .hunt, lastByte := max s.now t } })))

/-- The receive queue (R192, R193): a frame arriving at a full queue is discarded, at a non-empty one it joins the tail, at an empty one it
is served at once; the end of an answer takes the served frame out and serves the next; a gap of 2.0 ms discards a partial frame (R190).
That the command of a gap that is not over, or of an answer's end where none is being sent, changes nothing but the clock is the model's
choice (log entry 2). -/
def Obligations.FramesQueueAndAreServed : Prop :=
  (∀ (f : Frame) (s : State),
    (4 ≤ s.link.queue.length → frameArrives f s = s) ∧
    (s.link.queue.length < 4 → s.link.queue ≠ [] → frameArrives f s = { s with link := { s.link with queue := s.link.queue ++ [f] } }) ∧
    (s.link.queue = [] →
      let u := serveFrame f { s with link := { s.link with queue := [f] } }
      frameArrives f s = { u with link := { s.link with queue := [f], sending := u.lastAnswer } } ∧ u.lastAnswer.isSome = true)) ∧
  ∀ (t : Time) (s : State),
    let s' : State := { s with now := max s.now t }
    (s.link.sending = none → exec (.answerEnd t) s = .next s') ∧
    (s.link.sending.isSome = true → s.link.queue.length ≤ 1 →
      exec (.answerEnd t) s = .next { s' with link := { s.link with queue := [], sending := none } }) ∧
    (∀ f g rest, s.link.sending.isSome = true → s.link.queue = f :: g :: rest →
      let u := serveFrame g { s' with link := { s.link with queue := g :: rest, sending := none } }
      exec (.answerEnd t) s = .next { u with link := { s.link with queue := g :: rest, sending := u.lastAnswer } }) ∧
    (s.link.rx = .hunt ∨ max s.now t < s.link.lastByte + 2000 → exec (.interbyteGap t) s = .next s') ∧
    (s.link.rx ≠ .hunt → s.link.lastByte + 2000 ≤ max s.now t →
      exec (.interbyteGap t) s = .next { s' with link := { s.link with rx := .hunt } })

/-- A frame's serving (R193): one that is no well-formed request is answered MALFORMED and changes nothing, as the MALFORMED row has it; any
other is served as its request's own row is (log entry 3), and its answer carries the request's kind byte (R194). That a MALFORMED command
whose frame is a well-formed request changes nothing but the clock is the model's choice (log entry 18). The frames that are well-formed
requests are those of R196's table, field by field, most significant byte first (R197), a revision block as R198 lays it out. -/
def Obligations.FramesServeTheirRows : Prop :=
  (∀ (kind : Byte) (body : List Byte) (r : Request), Request.ofFrame kind body = some r ↔ requestFrame r = (kind, body)) ∧
  (∀ (t : Time) (kind : Byte) (body : List Byte) (s : State),
    (Request.ofFrame kind body = none →
      exec (.malformed t kind body) s = .next (answered kind .malformed 0 [] { s with now := max s.now t }) ∧
      serveFrame { kind := kind, body := body } s = answered kind .malformed 0 [] s) ∧
    (Request.ofFrame kind body ≠ none → exec (.malformed t kind body) s = .next { s with now := max s.now t })) ∧
  ∀ (f : Frame) (r : Request) (s : State), Request.ofFrame f.kind f.body = some r →
    exec (requestCommand s.now r) s = .next (serveFrame f s) ∧
    ∃ a, (serveFrame f s).lastAnswer = some a ∧ a.kind = f.kind ∧ (a.code ≠ .done → a.payload = []) ∧ (a.code ≠ .badField → a.detail = 0)

/-! ## Reading requests -/

/-- READ STATUS, READ RECIPE, READ TICKET and FIND TICKETS change nothing; their images are 149, 93, 96 and 18 bytes long (R201, R198,
R200), and their refusals are those of R22, R127, R128 and R129. FIND TICKETS answers the first eight tags, and whether more follow, of the
tickets that match all five fields of its selector, in search order after the ticket that start-after names (R129, R130). -/
def Obligations.ReadsChangeNothing : Prop :=
  ∀ (t : Time) (s : State),
    let s' : State := { s with now := max s.now t }
    (statusImage s').length = 149 ∧ exec (.readStatus t) s = .next (answered 0x01 .done 0 (statusImage s') s') ∧
    (∀ slot : Byte, 8 ≤ slot.toNat → exec (.readRecipe t slot) s = .next (answered 0x03 .badField 0 [] s')) ∧
    (∀ (slot : Byte) (n : SlotId), slot.toNat = n.val →
      (recipeImage n (s.slot n)).length = 93 ∧
      exec (.readRecipe t slot) s = .next (answered 0x03 .done 0 (recipeImage n (s.slot n)) s')) ∧
    (∀ (sel : Byte) (number : Half), exec (.readTicket t sel number) s = .next (
      if 2 ≤ sel.toNat then answered 0x04 .badField 0 [] s'
      else if sel = 0 then
        (if 4095 < number.toNat then answered 0x04 .badField 1 [] s'
         else match s.searchOrder.find? fun p => decide (p.2.tag.toNat = number.toNat) with
          | none => answered 0x04 .noSuchTag 0 [] s'
          | some p => answered 0x04 .done 0 (ticketImage p.1 p.2) s')
      else match s.installedHead number.toNat with
        | none => answered 0x04 .noSuchHead 0 [] s'
        | some h => match (s.head h).ticket with
          | none => answered 0x04 .noSuchTag 0 [] s'
          | some tk => answered 0x04 .done 0 (ticketImage .live tk) s')) ∧
    (∀ loc tk, (ticketImage loc tk).length = 96) ∧
    ∀ (head slot location disposition verdict : Byte) (start : Half),
      let headOk := head = 0xFF ∨ (s.installedHead head.toNat).isSome = true
      let slotOk := slot = 0xFF ∨ slot.toNat < 8
      let startOk := start = 0xFFFF ∨ start.toNat < 4096
      let refused (c : AnswerCode) (d : Byte) : Prop :=
        exec (.findTickets t head slot location disposition verdict start) s = .next (answered 0x05 c d [] s')
      let matching (p : Location × Ticket) : Bool := decide (
        (head = 0xFF ∨ p.2.head.val = head.toNat) ∧ (slot = 0xFF ∨ p.2.slot.val = slot.toNat) ∧
        (location = 0 ∨ location = 1 ∧ p.1 = .live ∨ location = 2 ∧ p.1 = .transit) ∧
        (disposition = 0 ∨ disposition = 1 ∧ p.2.disposition = .pending ∨ disposition = 2 ∧ p.2.disposition = .good ∨
          disposition = 3 ∧ p.2.disposition = .reject) ∧
        (verdict = 0 ∨ verdict = 1 ∧ p.2.verdict.isSome = true ∨ verdict = 2 ∧ p.2.verdict = none))
      (¬headOk → refused .noSuchHead 0) ∧ (headOk → ¬slotOk → refused .badField 1) ∧
      (headOk → slotOk → 3 ≤ location.toNat → refused .badField 2) ∧
      (headOk → slotOk → location.toNat < 3 → 4 ≤ disposition.toNat → refused .badField 3) ∧
      (headOk → slotOk → location.toNat < 3 → disposition.toNat < 4 → 3 ≤ verdict.toNat → refused .badField 4) ∧
      (headOk → slotOk → location.toNat < 3 → disposition.toNat < 4 → verdict.toNat < 3 → ¬startOk → refused .badField 5) ∧
      (headOk → slotOk → location.toNat < 3 → disposition.toNat < 4 → verdict.toNat < 3 → startOk →
        ∀ rest, (start = 0xFFFF ∨ ∀ p ∈ s.searchOrder, p.2.tag.toNat ≠ start.toNat) ∧ rest = s.searchOrder ∨
            (∃ before x, s.searchOrder = before ++ x :: rest ∧ x.2.tag.toNat = start.toNat ∧
              ∀ p ∈ before, p.2.tag.toNat ≠ start.toNat) →
          ∃ page, exec (.findTickets t head slot location disposition verdict start) s = .next (answered 0x05 .done 0 page s') ∧
            PageOf page ((rest.filter matching).map (·.2.tag)))

/-- Every byte of the status image, the recipe image, the head image and the ticket image stands where the tables of R198 to R201 put it,
with the codes of R197; an absent field's bytes are 0 (R197). The detail byte of a cause that is not pending has no meaning (R199, log entry
7). That the bits of sets and presence bytes which no rule names are 0 is the model's choice (log entry 25). -/
def Obligations.ImagesLaidOut : Prop :=
  (∀ s : State,
    let p := statusImage s
    let k := s.tracker
    let l := k.line
    p.length = 149 ∧ byteAt p 0 = BitVec.ofNat 8 k.motion.code ∧ byteAt p 1 = BitVec.ofNat 8 l.headCount ∧
    halfAt p 2 = BitVec.ofNat 16 k.angle ∧ halfAt p 4 = BitVec.ofNat 16 k.backlog ∧ halfAt p 6 = BitVec.ofInt 16 k.lastIndexError ∧
    halfAt p 8 = BitVec.ofNat 16 l.infeed ∧ halfAt p 10 = BitVec.ofNat 16 l.gas ∧ halfAt p 12 = BitVec.ofNat 16 l.fill ∧
    halfAt p 14 = BitVec.ofNat 16 l.closeBy ∧ halfAt p 16 = BitVec.ofNat 16 l.sniftBy ∧ halfAt p 18 = BitVec.ofNat 16 l.discharge ∧
    halfAt p 20 = BitVec.ofNat 16 l.commit ∧ halfAt p 22 = BitVec.ofNat 16 l.boostTime ∧ halfAt p 24 = BitVec.ofNat 16 l.minDwell ∧
    byteAt p 26 = BitVec.ofNat 8 ((List.finRange 96).filter fun h => (s.head h).ticket.isSome).length ∧
    byteAt p 27 = BitVec.ofNat 8 s.transit.length ∧ byteAt p 28 = BitVec.ofNat 8 (s.transit.filter (·.kept)).length ∧
    SetBits (byteAt p 29) [s.lines.container, s.lines.reject] ∧ halfAt p 30 = BitVec.ofNat 16 s.tagCounter.toNat ∧
    byteAt p 32 = (if s.learningHold then 1 else 0) ∧ byteAt p 33 = (if s.divider.isSome then 1 else 0) ∧
    (s.divider = none → byteAt p 34 = 0 ∧ halfAt p 35 = 0) ∧
    (∀ c, s.divider = some c → byteAt p 34 = BitVec.ofNat 8 c.head.val ∧ halfAt p 35 = BitVec.ofNat 16 c.tag.toNat) ∧
    byteAt p 37 = BitVec.ofNat 8 s.pilotQueue.length ∧
    byteAt p 38 = BitVec.ofNat 8 (s.pilotQueue.filter fun e => decide (e.kind = .fill ∨ e.kind = .topUp)).length ∧
    byteAt p 39 = BitVec.ofNat 8 (s.pilotQueue.filter fun e => decide (e.kind = .snift)).length ∧
    byteAt p 40 = BitVec.ofNat 8 (s.pilotQueue.filter fun e => decide (e.kind = .gas)).length ∧
    byteAt p 41 = BitVec.ofNat 8 ((List.finRange 6).filter fun i : BoostId => (s.boosts[i.val]).isSome).length ∧
    SetBits (byteAt p 42) [false, false, false, false, false, s.globals.angleFault, s.globals.reverse, s.globals.verdictLoss] ∧
    byteAt p 43 = s.masks ∧ byteAt p 44 = (if s.attentionLine then 1 else 0) ∧
    (∀ n : SlotId, byteAt p (45 + n.val) = if (s.slot n).current = none then 0 else if (s.slot n).members = 0 then 1 else 2) ∧
    ∀ h : HeadId,
      let c := (s.head h).causes
      byteAt p (53 + h.val) = if l.headCount ≤ h.val then 0 else if c.equipment.isSome then 1 else if c.intervention.isSome then 2
        else if c.fillFault.isSome then 3 else if c.trimLimit then 4 else if c.calDone.isSome then 5 else 0) ∧
  (∀ (n : SlotId) (sl : Slot),
    let p := recipeImage n sl
    p.length = 93 ∧ byteAt p 0 = BitVec.ofNat 8 n.val ∧ byteAt p 1 = (if sl.current = none then 0 else if sl.members = 0 then 1 else 2) ∧
    byteAt p 2 = sl.counter ∧ byteAt p 3 = BitVec.ofNat 8 sl.members ∧ byteAt p 4 = BitVec.ofNat 8 sl.unadopted ∧
    byteAt p 5 = BitVec.ofNat 8 sl.adopted ∧ SetBits (byteAt p 6) [sl.current.isSome, sl.pending.isSome] ∧
    RevisionAt p 7 sl.current ∧ RevisionAt p 50 sl.pending) ∧
  (∀ (h : HeadId) (x : Head) (n : Nat),
    let p := headImage h x n
    let r := x.record
    let c := x.causes
    let slotByte : Byte := match r.slot with
      | none => 0x80
      | some m => BitVec.ofNat 8 m.val
    let cal := r.calResult
    p.length = 36 ∧ byteAt p 0 = BitVec.ofNat 8 h.val ∧ byteAt p 1 = BitVec.ofNat 8 r.service.code ∧
    byteAt p 2 = BitVec.ofNat 8 x.seq.phase.code ∧ byteAt p 3 = slotByte ∧
    byteAt p 4 = BitVec.ofNat 8 ((r.pendingSlot.map (·.val)).getD 0) ∧ byteAt p 5 = r.adoptedRev.getD 0 ∧
    halfAt p 6 = BitVec.ofNat 16 r.k ∧ halfAt p 8 = BitVec.ofNat 16 (r.stagedK.getD 0) ∧ halfAt p 10 = BitVec.ofNat 16 r.a ∧
    halfAt p 12 = BitVec.ofNat 16 (r.pendingA.getD 0) ∧ halfAt p 14 = BitVec.ofInt 16 r.t ∧
    halfAt p 16 = BitVec.ofInt 16 (r.pendingT.getD 0) ∧ byteAt p 18 = BitVec.ofInt 8 r.drift ∧ byteAt p 19 = BitVec.ofNat 8 r.faultCount ∧
    byteAt p 20 = BitVec.ofNat 8 r.stray ∧ SetBits (byteAt p 21) [r.presenceReleased, r.resetStaged] ∧
    SetBits (byteAt p 22) [r.pendingSlot.isSome, r.adoptedRev.isSome, r.stagedK.isSome, r.pendingA.isSome, r.pendingT.isSome, cal.isSome,
      x.ticket.isSome, (cal.bind (·.kNew)).isSome] ∧
    SetBits (byteAt p 23) [c.equipment.isSome, c.intervention.isSome, c.fillFault.isSome, c.trimLimit, c.calDone.isSome] ∧
    (∀ d, c.equipment = some d → byteAt p 24 = BitVec.ofNat 8 d.code) ∧ (∀ d, c.intervention = some d → byteAt p 25 = BitVec.ofNat 8 d.code) ∧
    (∀ d, c.fillFault = some d → byteAt p 26 = BitVec.ofNat 8 d.code) ∧
    byteAt p 27 = BitVec.ofNat 8 ((cal.map (·.outcome.code)).getD 0) ∧ wideAt p 28 = BitVec.ofNat 32 ((cal.bind (·.kNew)).getD 0) ∧
    halfAt p 32 = BitVec.ofNat 16 ((cal.map (·.tag.toNat)).getD 0) ∧ halfAt p 34 = BitVec.ofNat 16 ((x.ticket.map (·.tag.toNat)).getD 0)) ∧
  (∀ (loc : Location) (tk : Ticket),
    let p := ticketImage loc tk
    let q := tk.snapshot
    let verdict : Half := match tk.verdict with
      | none => 0
      | some (.level e) => BitVec.ofInt 16 e
      | some .noReading => BitVec.ofInt 16 (-32768)
    p.length = 96 ∧ halfAt p 0 = BitVec.ofNat 16 tk.tag.toNat ∧ byteAt p 2 = BitVec.ofNat 8 tk.head.val ∧
    byteAt p 3 = BitVec.ofNat 8 tk.slot.val ∧ byteAt p 4 = tk.revision ∧ byteAt p 5 = BitVec.ofNat 8 loc.code ∧
    byteAt p 6 = BitVec.ofNat 8 tk.disposition.code ∧
    SetBits (byteAt p 7) [tk.noSlow, tk.toppedUp, tk.settleCut, tk.outlier, tk.kept] ∧ halfAt p 8 = tk.reasons ∧
    SetBits (byteAt p 10) [tk.dClose.isSome, tk.x.isSome, tk.doseEnd.isSome, tk.headEnd.isSome, tk.verdict.isSome] ∧
    byteAt p 11 = BitVec.ofNat 8 tk.glitches ∧ wideAt p 12 = BitVec.ofNat 32 tk.p ∧ wideAt p 16 = BitVec.ofNat 32 tk.d ∧
    wideAt p 20 = BitVec.ofNat 32 (tk.dClose.getD 0) ∧ wideAt p 24 = BitVec.ofInt 32 (tk.x.getD 0) ∧
    byteAt p 28 = BitVec.ofNat 8 ((tk.doseEnd.map (·.outcome.code)).getD 0) ∧ byteAt p 29 = BitVec.ofNat 8 ((tk.headEnd.map (·.code)).getD 0) ∧
    halfAt p 30 = verdict ∧ wideAt p 32 = BitVec.ofNat 32 ((tk.doseEnd.map (·.final)).getD 0) ∧
    halfAt p 36 = BitVec.ofNat 16 q.k ∧ halfAt p 38 = BitVec.ofNat 16 q.a ∧ halfAt p 40 = BitVec.ofInt 16 q.t ∧
    wideAt p 42 = BitVec.ofInt 32 q.e ∧ wideAt p 46 = BitVec.ofInt 32 q.f ∧ wideAt p 50 = BitVec.ofInt 32 q.eTop ∧ BlockAt p 54 q.recipe) ∧
  -- the codes of R197
  [Motion.unreferenced, .tracking, .backing].map Motion.code = List.range 3 ∧
  [Service.out, .joining, .inn, .leaving].map Service.code = List.range 4 ∧
  [Phase.empty, .seated, .pressurize, .fast, .slow, .settle, .topup, .snift, .done].map Phase.code = List.range 9 ∧
  [Reason.noFlow, .stall, .closeBy, .sniftBy, .equalizeTimeout, .aborted, .reverse, .angle, .meterNoise, .drip, .pressureSwitch, .low, .high,
    .sniftShort, .reset].map Reason.code = List.range 15 ∧
  (∀ (tk : Ticket) (q : Reason), tk.has q = tk.reasons.getLsbD q.code) ∧
  [EquipmentDetail.meterNoise, .drip, .strayFlow, .pressureSwitch].map EquipmentDetail.code = List.range 4 ∧
  [InterventionDetail.presenceStuck, .repeatedFaults].map InterventionDetail.code = List.range 2 ∧
  [CalOutcome.staged, .outOfRange, .outOfBand, .cancelled].map CalOutcome.code = List.range 4 ∧
  [Location.live, .transit].map Location.code = List.range 2 ∧ [Disposition.pending, .good, .reject].map Disposition.code = List.range 3 ∧
  [DoseOutcome.byVolume, .forced].map DoseOutcome.code = List.range 2 ∧ [HeadEnd.vented, .cutShort].map HeadEnd.code = List.range 2

/-- READ HEAD of an installed head is answered with the head image as the head stood, and then clears CAL_DONE, the line of the answer being
judged after that (R58, R186); the image's free detail bytes are drawn anew (log entry 7). -/
def Obligations.ReadHeadClearsCalDone : Prop :=
  ∀ (t : Time) (head : Byte) (s : State),
    (s.installedHead head.toNat = none → exec (.readHead t head) s = .next (answered 0x02 .noSuchHead 0 [] { s with now := max s.now t })) ∧
    ∀ h, s.installedHead head.toNat = some h → exec (.readHead t head) s =
      .next (answered 0x02 .done 0 (headImage h (s.head h) s.freeReads)
        (judgeLine { setHead h { s.head h with causes := { (s.head h).causes with calDone := none } } s with
          now := max s.now t, freeReads := s.freeReads + 1 }))

/-! ## Writing requests -/

/-- SET LINE (R3, R4): refused NOT_ALLOWED unless every installed head is OUT, then BAD_FIELD at the first failing field; accepted, it
replaces the line setup alone of the tracker's items, returns the records of removed heads to their power-on values with their causes clear,
cancels a calibration of a removed head without a result, and the grants follow (R167). -/
def Obligations.SetLineReplacesSetup : Prop :=
  ∀ (t : Time) (f : LineFields) (s : State),
    let s' : State := { s with now := max s.now t }
    let allOut := ∀ h, s.isInstalled h = true → (s.head h).record.service = .out
    let removed (h : HeadId) : Prop := s.isInstalled h = true ∧ f.headCount.toNat ≤ h.val
    (¬allOut → exec (.setLine t f) s = .next (answered 0x06 .notAllowed 0 [] s')) ∧
    (∀ i, allOut → 1 ≤ i → i ≤ 10 → ¬lineFieldOk f i → (∀ j, 1 ≤ j → j < i → lineFieldOk f j) →
      exec (.setLine t f) s = .next (answered 0x06 .badField (BitVec.ofNat 8 i) [] s')) ∧
    (allOut → (∀ i, lineFieldOk f i) → ∃ v, exec (.setLine t f) s = .next (answered 0x06 .done 0 [] (arbitrate v)) ∧
      v.tracker = { s.tracker with line :=
        { headCount := f.headCount.toNat, infeed := f.infeed.toNat, gas := f.gas.toNat, fill := f.fill.toNat
          closeBy := f.closeBy.toNat, sniftBy := f.sniftBy.toNat, discharge := f.discharge.toNat, commit := f.commit.toNat
          boostTime := f.boostTime.toNat, minDwell := f.minDwell.toNat } } ∧
      (∀ h, removed h → v.head h = { s.head h with record := HeadRecord.powerOn, causes := Causes.clear }) ∧
      (∀ h, ¬removed h → v.head h = s.head h) ∧
      (∀ c, s.divider = some c → removed c.head → v.divider = none) ∧
      ((∀ c, s.divider = some c → ¬removed c.head) → v.divider = s.divider) ∧
      v = judgeLine { s' with tracker := v.tracker, heads := v.heads, divider := v.divider })

/-- WRITE RECIPE (R22, R23, R20): fields 0 to 21 are checked in order, the first that fails answering BAD_FIELD; an EMPTY or READY slot
takes the revision as current at once with its OUT heads aligned (R25, R26), an ACTIVE one as pending with every member unadopted (R30,
R31), and REVISION_BUSY answers once a member has adopted a pending revision (R32). ERASE RECIPE (R22, R35): a slot that is the slot or the
pending slot of an installed head is in use; any other loses its current revision and keeps its counter. The revision written holds the
block's fields under their own names. -/
def Obligations.RecipeRequestsServed : Prop :=
  (∀ (t : Time) (slot : Byte) (b : RevisionBlock) (s : State),
    let s' : State := { s with now := max s.now t }
    (8 ≤ slot.toNat → exec (.writeRecipe t slot b) s = .next (answered 0x07 .badField 0 [] s')) ∧
    ∀ n : SlotId, slot.toNat = n.val →
      let sl := s.slot n
      let rev : Revision :=
        { number := sl.counter + 1
          recipe :=
            { vt := b.vt.toNat, s := b.s.toNat, aMax := b.aMax.toNat, aInit := b.aInit.toNat, aStepMax := b.aStepMax.toNat, g := b.g.toNat
              tMax := b.tMax.toNat, gt := b.gt.toNat, n := b.n.toNat, rLo := b.rLo.toNat, rHi := b.rHi.toNat
              learning := decide (b.learning = 1), topUp := decide (b.topUp = 1), u := b.u.toNat, aTop := b.aTop.toNat
              tEq := b.tEq.toNat, tStart := b.tStart.toNat, tStall := b.tStall.toNat, tStill := b.tStill.toNat
              tSettleMax := b.tSettleMax.toNat, tSnift := b.tSnift.toNat } }
      (∀ i, 1 ≤ i → i ≤ 21 → ¬blockFieldOk b i → (∀ j, 1 ≤ j → j < i → blockFieldOk b j) →
        exec (.writeRecipe t slot b) s = .next (answered 0x07 .badField (BitVec.ofNat 8 i) [] s')) ∧
      ((∀ i, blockFieldOk b i) → sl.current = none ∨ sl.members = 0 →
        ∃ v, exec (.writeRecipe t slot b) s = .next (answered 0x07 .done 0 [] v) ∧
          v.slots = s.slots.set n.val { sl with counter := sl.counter + 1, current := some rev } ∧
          (∀ h, v.head h = if (s.head h).record.slot = some n ∧ (s.head h).record.service = .out then
            let r := (s.head h).record
            { s.head h with record := { r with
              usesPending := false, adoptedRev := some rev.number
              a := min r.a rev.recipe.aMax, pendingA := r.pendingA.map fun a => min a rev.recipe.aMax
              t := max (-(rev.recipe.tMax : Int)) (min rev.recipe.tMax r.t)
              pendingT := r.pendingT.map fun t => max (-(rev.recipe.tMax : Int)) (min rev.recipe.tMax t) } } else s.head h) ∧
          v = { s' with slots := v.slots, heads := v.heads }) ∧
      ((∀ i, blockFieldOk b i) → sl.current.isSome = true → sl.members ≠ 0 → sl.pending = none ∨ sl.adopted = 0 →
        exec (.writeRecipe t slot b) s = .next (answered 0x07 .done 0 [] { s' with
          slots := s.slots.set n.val
            { sl with counter := sl.counter + 1, pending := some rev, unadopted := sl.members, adopted := 0 } })) ∧
      ((∀ i, blockFieldOk b i) → sl.current.isSome = true → sl.members ≠ 0 → sl.pending.isSome = true → sl.adopted ≠ 0 →
        exec (.writeRecipe t slot b) s = .next (answered 0x07 .revisionBusy 0 [] s'))) ∧
  (∀ (t : Time) (slot : Byte) (s : State),
    let s' : State := { s with now := max s.now t }
    (8 ≤ slot.toNat → exec (.eraseRecipe t slot) s = .next (answered 0x08 .badField 0 [] s')) ∧
    ∀ n : SlotId, slot.toNat = n.val →
      let used := ∃ h, s.isInstalled h = true ∧ ((s.head h).record.slot = some n ∨ (s.head h).record.pendingSlot = some n)
      (used → exec (.eraseRecipe t slot) s = .next (answered 0x08 .slotInUse 0 [] s')) ∧
      (¬used → exec (.eraseRecipe t slot) s = .next (answered 0x08 .done 0 [] { s' with
        slots := s.slots.set n.val { s.slot n with current := none } })))

/-- SET HEAD is judged as a whole, the first refusal of R44's five checks answering it and changing nothing; a request that passes is
answered DONE with K, slot, learning reset and service applied in that order. Service 0, 1, 2 is no change, in, out; slot 0 to 7 a slot,
0x80 none, 0xFF no change; K 0 no change (R197). -/
def Obligations.SetHeadJudgedAsWhole : Prop :=
  ∀ (t : Time) (head service : Byte) (k : Half) (slot reset : Byte) (s : State),
    let s' : State := { s with now := max s.now t }
    let refused (c : AnswerCode) (detail : Byte) : Prop :=
      exec (.setHead t head service k slot reset) s = .next (answered 0x09 c detail [] s')
    (s.tracker.line.headCount ≤ head.toNat → refused .noSuchHead 0) ∧
    ∀ h : HeadId, head.toNat = h.val → s.isInstalled h = true →
      let r := (s.head h).record
      let out := r.service = .out
      let kOk := k.toNat = 0 ∨ 256 ≤ k.toNat
      let slotOk := slot.toNat < 8 ∨ slot = 0x80 ∨ slot = 0xFF
      let fieldsOk := service.toNat ≤ 2 ∧ kOk ∧ slotOk ∧ reset.toNat ≤ 1
      let emptySlot (n : SlotId) : Prop := (s.slot n).current = none
      let badSlot (c : AnswerCode) : Prop :=
        ¬out ∧ (slot = 0x80 ∧ c = .notAllowed ∨ ∃ n : SlotId, slot.toNat = n.val ∧ emptySlot n ∧ c = .slotEmpty)
      let equipment := service = 1 ∧ (out ∨ r.service = .leaving) ∧ (s.head h).causes.equipment.isSome = true
      let held (n : SlotId) : Prop := slot = 0xFF ∧ r.slot = some n ∨ slot.toNat = n.val
      let badJoin (c : AnswerCode) : Prop := service = 1 ∧ out ∧
        ((∀ n, ¬held n) ∧ c = .notAllowed ∨ ∃ n, held n ∧ emptySlot n ∧ c = .slotEmpty)
      (2 < service.toNat → refused .badField 1) ∧
      (service.toNat ≤ 2 → ¬kOk → refused .badField 2) ∧
      (service.toNat ≤ 2 → kOk → ¬slotOk → refused .badField 3) ∧
      (service.toNat ≤ 2 → kOk → slotOk → 1 < reset.toNat → refused .badField 4) ∧
      (∀ c, fieldsOk → badSlot c → refused c 0) ∧
      (fieldsOk → (∀ c, ¬badSlot c) → equipment → refused .notAllowed 0) ∧
      (∀ c, fieldsOk → (∀ c, ¬badSlot c) → ¬equipment → badJoin c → refused c 0) ∧
      (fieldsOk → (∀ c, ¬badSlot c) → ¬equipment → (∀ c, ¬badJoin c) →
        ∃ sv sl, (service = 0 ∧ sv = .noChange ∨ service = 1 ∧ sv = .goIn ∨ service = 2 ∧ sv = .goOut) ∧
          (slot = 0xFF ∧ sl = .noChange ∨ slot = 0x80 ∧ sl = .noSlot ∨ ∃ n : SlotId, slot.toNat = n.val ∧ sl = .slot n) ∧
          exec (.setHead t head service k slot reset) s = .next (answered 0x09 .done 0 []
            (applyService sv h (applyReset (decide (reset = 1)) h
              (applySlot sl h (applyK (if k = 0 then none else some k.toNat) h s'))))))

/-- The fields of SET HEAD: direct on an OUT head, staged otherwise (R45 to R47), and the service change (R41, R42). -/
def Obligations.SetHeadFieldsApplied : Prop :=
  ∀ (h : HeadId) (s : State),
    let x := s.head h
    let r := x.record
    let put (r' : HeadRecord) : State := setHead h { x with record := r' } s
    let start (a : Nat) : HeadRecord := { r with a := a, t := 0, pendingA := none, pendingT := none, drift := 0 }
    (∀ k, r.service = .out → applyK (some k) h s = judgeLine (setHead h { x with
      record := { r with k := k, stagedK := none, t := 0, pendingT := none, drift := 0 }
      causes := { x.causes with trimLimit := false } } s)) ∧
    (∀ k, r.service ≠ .out → applyK (some k) h s = put { r with stagedK := some k }) ∧
    (∀ n, r.service = .out → applySlot (.slot n) h s = put { start (((s.slot n).current.map (·.recipe.aInit)).getD 0) with
      slot := some n, pendingSlot := none, usesPending := false, adoptedRev := (s.slot n).current.map (·.number), resetStaged := false }) ∧
    (r.service = .out → applySlot .noSlot h s = put { start 0 with
      slot := none, pendingSlot := none, usesPending := false, adoptedRev := none, resetStaged := false }) ∧
    (∀ n, r.service ≠ .out → applySlot (.slot n) h s = put { r with pendingSlot := some n }) ∧
    (r.service = .out → applyReset true h s = put (start (((s.usedRevision h).map (·.recipe.aInit)).getD 0))) ∧
    (r.service ≠ .out → applyReset true h s = put { r with resetStaged := true }) ∧
    (applyK none h s = s ∧ applySlot .noChange h s = s ∧ applyReset false h s = s ∧ applyService .noChange h s = s) ∧
    (r.service = .out → applyService .goIn h s = becomeJoining h s) ∧
    (r.service = .joining ∨ r.service = .inn → applyService .goIn h s = s) ∧
    (r.service = .leaving → applyService .goIn h s = put { r with service := .inn }) ∧
    (r.service = .joining ∨ r.service = .inn ∧ x.seq.phase = .empty → applyService .goOut h s = becomeOut h s) ∧
    (r.service = .inn → x.seq.phase ≠ .empty → applyService .goOut h s = put { r with service := .leaving }) ∧
    (r.service = .out ∨ r.service = .leaving → applyService .goOut h s = s)

/-! ## Resets and aborts -/

/-- HEAD RESET of an installed head (R56, R101, R160, R174, R187): its opens withdrawn, a fill forced to SNIFT with RESET, a venting head
without its pilot queued again; staged and pending values dropped, drift and fault count 0, the head taken out; its causes cleared; its
calibration cancelled with CAL_DONE standing. Then the grants. Slots, other heads' records and the head's own record stand but for what is
dropped, or are those of the head become OUT (R28, R24), where it is JOINING or IN in EMPTY. -/
def Obligations.HeadResetAborts : Prop :=
  ∀ (t : Time) (head : Byte) (s : State),
    let s' : State := { s with now := max s.now t }
    (s.installedHead head.toNat = none → exec (.headReset t head) s = .next (answered 0x0A .noSuchHead 0 [] s')) ∧
    ∀ h, s.installedHead head.toNat = some h →
      let x := s.head h
      let r := x.record
      let mine := ∃ c, s.divider = some c ∧ c.head = h
      ∃ v, exec (.headReset t head) s = .next (answered 0x0A .done 0 [] (arbitrate v)) ∧
        (∀ tk, (s.phase h).filling = true → x.ticket = some tk →
          (v.head h).ticket = some (tk.endedWith .reset (s.phase h)).judge ∧
          (v.head h).seq = { x.seq with phase := .snift, timers := .stopped } ∧
          (∀ p, (v.head h).pilots.get p = s'.releasedPilot h p) ∧
          v.entryOf h = some { head := h, kind := .snift, step := s.tracker.stepCount }) ∧
        ((s.phase h).filling = false → (v.head h).works = x.works ∧
          v.entryOf h = if s.phase h = .snift ∧ s.energised h .snift = false then
            some { head := h, kind := .snift, step := s.tracker.stepCount } else none) ∧
        (let y := (v.head h).record
         y.stagedK = none ∧ y.pendingA = none ∧ y.pendingT = none ∧ y.pendingSlot = none ∧ y.resetStaged = false ∧ y.drift = 0 ∧
         y.faultCount = 0 ∧ y.k = r.k ∧ y.slot = r.slot ∧ y.presenceReleased = r.presenceReleased ∧ y.stray = r.stray ∧
         (r.service = .inn → s.phase h ≠ .empty → y.service = .leaving ∧ y.a = r.a ∧ y.t = r.t ∧ y.adoptedRev = r.adoptedRev) ∧
         (r.service = .joining ∨ r.service = .inn ∧ s.phase h = .empty → y.service = .out) ∧
         (r.service = .out ∨ r.service = .leaving → y.service = r.service ∧ y.a = r.a ∧ y.t = r.t ∧ y.adoptedRev = r.adoptedRev)) ∧
        (v.head h).causes = { Causes.clear with
          calDone := if s.divider.any (fun c => decide (c.head = h)) then some { outcome := .cancelled, kNew := none } else none } ∧
        (∀ c, s.divider = some c → c.head = h →
          (v.head h).record.calResult = some { outcome := .cancelled, kNew := none, tag := c.tag }) ∧
        (¬mine → (v.head h).record.calResult = r.calResult) ∧
        -- members, slots and the whole record: as the head stands, or as it stands once it has become OUT (R28, R24)
        (let members (u : State) : Prop :=
           v.slots = u.slots ∧ (∀ j, j ≠ h → (v.head j).record = (u.head j).record) ∧
           (v.head h).record = { (u.head h).record.reset (s.leavingAtReset h) with
             drift := 0, calResult := (v.head h).record.calResult }
         (s.outAtReset h = true → members (becomeOut h s)) ∧ (s.outAtReset h = false → members s)) ∧
        v.outer = { s'.outer with divider := if s.divider.any (fun c => decide (c.head = h)) then none else s.divider } ∧
        v.papers = s.papers ∧ v.globals = s.globals ∧ v.elsewhere h = s.elsewhere h ∧ LineJudged v

/-- LINE RESET (R57, R101, R134, R160, R175, R187): every open withdrawn and every boost slot FREE; GAS, FAST and SLOW off everywhere; every
fill forced to SNIFT with RESET; venting heads without their pilot queued again; values dropped and every head taken out; the transit list
emptied; every cause cleared but the CAL_DONE of a cancelled calibration. Then the grants. The cancelled calibration's result is recorded; A
and T stand where they lie within the revisions of the head's slot (alignment clamps them otherwise), the adopted revision is kept while a
head leaves, and the record of a head that is not installed stands. Heads becoming OUT leave their slots in ascending number (log entry 6,
the model's choice). -/
def Obligations.LineResetAborts : Prop :=
  ∀ (t : Time) (s : State),
    let s' : State := { s with now := max s.now t }
    ∃ v, exec (.lineReset t) s = .next (answered 0x0B .done 0 [] (arbitrate v)) ∧
      v.outer = { s'.outer with divider := none } ∧ v.transit = [] ∧ v.tagCounter = s.tagCounter ∧ v.lines = s.lines ∧
      v.globals = { angleFault := false, reverse := false, verdictLoss := false } ∧
      (∀ i : BoostId, v.boosts[i.val] = none) ∧ LineJudged v ∧
      (∀ e, e ∈ v.pilotQueue ↔ s.isInstalled e.head = true ∧ v.phase e.head = .snift ∧ v.energised e.head .snift = false ∧
        e.kind = .snift ∧ e.step = s.tracker.stepCount) ∧
      (∀ h,
        let x := s.head h
        let y := v.head h
        let off (q : PilotRecord) : PilotRecord := if q.state = .off then q else { q with state := .off, released := some s'.now }
        y.pilots.gas = off x.pilots.gas ∧ y.pilots.fast = off x.pilots.fast ∧ y.pilots.slow = off x.pilots.slow ∧
        ((s.isInstalled h && (s.phase h).filling) = false → y.seq = x.seq ∧ y.ticket = x.ticket ∧
          y.pilots.snift = if x.pilots.snift.state = .boost then { x.pilots.snift with state := .hold } else x.pilots.snift)) ∧
      (∀ h,
        let x := s.head h
        let y := v.head h
        y.record.calResult = (match s.divider with
          | none => x.record.calResult
          | some c => if c.head = h then some { outcome := .cancelled, kNew := none, tag := c.tag } else x.record.calResult) ∧
        -- a head that leaves, or has left
        (s.leavingAtReset h = true ∨ x.record.service = .leaving →
          y.record.a = x.record.a ∧ y.record.t = x.record.t ∧ y.record.adoptedRev = x.record.adoptedRev ∧ y.record.slot = x.record.slot) ∧
        -- a head that is OUT, its A and T within the revisions that its slot holds
        ((∀ n rev, x.record.slot = some n → (s.slot n).current = some rev ∨ (s.slot n).pending = some rev →
            x.record.a ≤ rev.recipe.aMax ∧ -(rev.recipe.tMax : Int) ≤ x.record.t ∧ x.record.t ≤ rev.recipe.tMax) →
          y.record.a = x.record.a ∧ y.record.t = x.record.t) ∧
        (s.isInstalled h = false → x.record.slot = none → y.record = { x.record with calResult := y.record.calResult })) ∧
      ((∀ h, (s.phase h).filling = true → (s.head h).record.service ≠ .joining) → v.slots = s.afterLeaving.slots ∧
        ∀ h,
          let r := (s.afterLeaving.head h).record
          let y := (v.head h).record
          (s.isInstalled h = true → y = { r.reset (s.leavingAtReset h) with calResult := y.calResult }) ∧
          (s.isInstalled h = false → y = { r with calResult := y.calResult })) ∧
      ∀ h, s.isInstalled h = true →
        let x := s.head h
        let y := v.head h
        (∀ tk, (s.phase h).filling = true → x.ticket = some tk →
          y.ticket = some (tk.endedWith .reset (s.phase h)).judge ∧
          y.seq = { x.seq with phase := .snift, timers := .stopped }) ∧
        y.record.stagedK = none ∧ y.record.pendingA = none ∧ y.record.pendingT = none ∧ y.record.pendingSlot = none ∧
        y.record.resetStaged = false ∧ y.record.faultCount = 0 ∧ y.record.drift = x.record.drift ∧ y.record.k = x.record.k ∧
        y.record.slot = x.record.slot ∧ y.record.stray = x.record.stray ∧ y.record.presenceReleased = x.record.presenceReleased ∧
        y.lastCounted = x.lastCounted ∧ y.presence = x.presence ∧ y.pressureEqual = x.pressureEqual ∧
        (x.record.service = .inn → s.phase h ≠ .empty → y.record.service = .leaving) ∧
        (x.record.service = .joining ∨ x.record.service = .inn ∧ s.phase h = .empty → y.record.service = .out) ∧
        (x.record.service = .out ∨ x.record.service = .leaving → y.record.service = x.record.service) ∧
        y.causes = { Causes.clear with
          calDone := if s.divider.any (fun c => decide (c.head = h)) then some { outcome := .cancelled, kNew := none } else none }

/-- ABORT FILL (R100): ALL forces every installed head in SEATED to TOPUP straight to SNIFT with ABORTED, a head number that head alone;
heads in EMPTY, SNIFT and DONE are not touched. A pilot released is no longer on its grant's boost (log entry 10). -/
def Obligations.AbortFillForces : Prop :=
  ∀ (t : Time) (head : Byte) (s : State),
    let s' : State := { s with now := max s.now t }
    (head = 0xFF → ∃ v, exec (.abortFill t head) s = .next (answered 0x0C .done 0 [] (arbitrate v)) ∧
      v.globals = s.globals ∧ AllForcedToSnift .aborted s' v) ∧
    (head ≠ 0xFF → s.installedHead head.toNat = none → exec (.abortFill t head) s = .next (answered 0x0C .noSuchHead 0 [] s')) ∧
    ∀ h, s.installedHead head.toNat = some h →
      ((s.phase h).filling = true → ∃ v, exec (.abortFill t head) s = .next (answered 0x0C .done 0 [] (arbitrate v)) ∧
        ForcedToSnift .aborted h (s.head h).causes (s.head h).record.service s' v) ∧
      ((s.phase h).filling = false → exec (.abortFill t head) s = .next (answered 0x0C .done 0 [] (arbitrate s')))

/-! ## Ticket requests, learning and trim -/

/-- VERDICT (R122, R123): refused for a bad tag, a live ticket or no ticket; otherwise every older ticket neither KEPT nor verdicted is
retired as missed, with VERDICT_LOSS if there was one, the clamped verdict is recorded and handed to the correction unit, the ticket retired
unless KEPT, and the number of missed tickets answered. -/
def Obligations.VerdictServed : Prop :=
  ∀ (t : Time) (tag level : Half) (s : State),
    let s' : State := { s with now := max s.now t }
    (4095 < tag.toNat → exec (.verdict t tag level) s = .next (answered 0x0D .badField 0 [] s')) ∧
    ∀ n : Tag, tag.toNat = n.toNat →
      (s.liveTag n → exec (.verdict t tag level) s = .next (answered 0x0D .notAllowed 0 [] s')) ∧
      (n ∉ s.tags → exec (.verdict t tag level) s = .next (answered 0x0D .noSuchTag 0 [] s')) ∧
      ∀ older tk newer, ¬s.liveTag n → s.transit = older ++ tk :: newer → tk.tag = n → (∀ o ∈ older, o.tag ≠ n) →
        let missed := older.filter fun o => !o.kept && o.verdict.isNone
        let stay := older.filter fun o => !(!o.kept && o.verdict.isNone)
        let e : Int := max (-2000) (min 2000 level.toInt)
        let tk' : Ticket := { tk with verdict := some (if level.toInt = -32768 then .noReading else .level e) }
        let w : State := if missed.isEmpty then s' else judgeLine { s' with globals := { s.globals with verdictLoss := true } }
        exec (.verdict t tag level) s = .next (answered 0x0D .done 0 [BitVec.ofNat 8 missed.length]
          { trimFrom tk' w with transit := if tk.kept then stay ++ tk' :: newer else stay ++ newer })

/-- Trim from a ticket with a verdict (R142 to R146): only where every condition of R142 holds (and the head uses a revision, log entry 9);
the trim step of R143 and R144 is taken from the pending T, or T, the result limited to T_max; a step beyond the limit moves the drift
counter, saturating at 7, and a counter moved to 4 or more raises TRIM_LIMIT. -/
def Obligations.TrimStepTaken : Prop :=
  ∀ (tk : Ticket) (s : State),
    let h := tk.head
    let x := s.head h
    let r := x.record
    let conditions := s.learningHold = false ∧ tk.disposition = .good ∧ tk.toppedUp = false ∧ h.val < s.tracker.line.headCount ∧
      r.slot = some tk.slot ∧ r.pendingSlot = none
    let half (m : Nat) (g : Nat) : Nat := if g = 0 then m else (m + 2 ^ (g - 1)) / 2 ^ g
    (¬conditions ∨ s.usedRevision h = none ∨ (∀ e, tk.verdict ≠ some (.level e)) → trimFrom tk s = s) ∧
    ∀ e rev, conditions → tk.verdict = some (.level e) → s.usedRevision h = some rev →
      let ev := (e.natAbs * tk.snapshot.recipe.n + 32) / 64
      let step : Int := if e < 0 then -(half ev tk.snapshot.recipe.gt : Int) else (half ev tk.snapshot.recipe.gt : Int)
      let v : Int := r.pendingT.getD r.t - step
      let m : Int := rev.recipe.tMax
      let drift : Int := if v > m then min 7 (r.drift + 1) else if v < -m then max (-7) (r.drift - 1) else r.drift
      let t' : Int := if v > m then m else if v < -m then -m else v
      let y : Head := { x with record := { r with pendingT := some t', drift := drift } }
      trimFrom tk s = if drift ≠ r.drift ∧ 4 ≤ drift.natAbs then
          judgeLine (setHead h { y with causes := { x.causes with trimLimit := true } } s)
        else setHead h y s

/-- R139 and R143: a difference scaled by the learning shift and a level error times N over 64 are rounded half away from zero, and the
learning step is limited to A_step_max. -/
def Obligations.StepsRoundHalfAwayFromZero : Prop :=
  (∀ (r : Recipe) (d : Int),
    let m := if r.g = 0 then d.natAbs else (d.natAbs + 2 ^ (r.g - 1)) / 2 ^ r.g
    let step : Int := if d < 0 then -(m : Int) else (m : Int)
    learningStep r d = if step > r.aStepMax then (r.aStepMax : Int) else if step < -(r.aStepMax : Int) then -(r.aStepMax : Int) else step) ∧
  ∀ (n : Nat) (e : Int),
    volumeError n e = if e < 0 then -(((e.natAbs * n + 32) / 64 : Nat) : Int) else (((e.natAbs * n + 32) / 64 : Nat) : Int)

/-- KEEP (R124) and RETIRE (R125): refused for a bad tag, a live ticket or no ticket; KEEP marks the ticket in its place while fewer than 8
are KEPT, RETIRE removes it, the order of the others standing. -/
def Obligations.KeepAndRetireServed : Prop :=
  ∀ (t : Time) (tag : Half) (s : State),
    let s' : State := { s with now := max s.now t }
    (4095 < tag.toNat → exec (.keep t tag) s = .next (answered 0x0E .badField 0 [] s') ∧
      exec (.retire t tag) s = .next (answered 0x0F .badField 0 [] s')) ∧
    ∀ n : Tag, tag.toNat = n.toNat →
      (s.liveTag n → exec (.keep t tag) s = .next (answered 0x0E .notAllowed 0 [] s') ∧
        exec (.retire t tag) s = .next (answered 0x0F .notAllowed 0 [] s')) ∧
      (n ∉ s.tags → exec (.keep t tag) s = .next (answered 0x0E .noSuchTag 0 [] s') ∧
        exec (.retire t tag) s = .next (answered 0x0F .noSuchTag 0 [] s')) ∧
      ∀ older tk newer, ¬s.liveTag n → s.transit = older ++ tk :: newer → tk.tag = n → (∀ o ∈ older, o.tag ≠ n) →
        (tk.kept = true → exec (.keep t tag) s = .next (answered 0x0E .done 0 [] s')) ∧
        (tk.kept = false → 8 ≤ s.keptCount → exec (.keep t tag) s = .next (answered 0x0E .notAllowed 0 [] s')) ∧
        (tk.kept = false → s.keptCount < 8 → exec (.keep t tag) s = .next (answered 0x0E .done 0 []
          { s' with transit := older ++ { tk with kept := true } :: newer })) ∧
        exec (.retire t tag) s = .next (answered 0x0F .done 0 [] { s' with transit := older ++ newer })

/-- CALIBRATE (R153 to R155): the refusals in order; accepted, the divider becomes BUSY with the ticket's head, K and P, the dividend formed,
and the ticket is retired. -/
def Obligations.CalibrateServed : Prop :=
  ∀ (t : Time) (tag : Half) (w : Wide) (force : Byte) (s : State),
    let s' : State := { s with now := max s.now t }
    let refused (c : AnswerCode) (d : Byte) : Prop := exec (.calibrate t tag w force) s = .next (answered 0x10 c d [] s')
    let wOk := 100 ≤ w.toNat ∧ w.toNat ≤ 250000
    (4095 < tag.toNat → refused .badField 0) ∧ (tag.toNat ≤ 4095 → ¬wOk → refused .badField 1) ∧
    (tag.toNat ≤ 4095 → wOk → 1 < force.toNat → refused .badField 2) ∧
    ∀ n : Tag, tag.toNat = n.toNat → wOk → force.toNat ≤ 1 →
      (s.divider.isSome = true → refused .busy 0) ∧
      (s.divider = none → n ∉ s.tags → refused .noSuchTag 0) ∧
      (s.divider = none → s.liveTag n → refused .notAllowed 0) ∧
      ∀ older tk newer, s.divider = none → ¬s.liveTag n → s.transit = older ++ tk :: newer → tk.tag = n → (∀ o ∈ older, o.tag ≠ n) →
        (s.tracker.line.headCount ≤ tk.head.val → refused .noSuchHead 0) ∧
        (tk.head.val < s.tracker.line.headCount → tk.p = 0 → refused .calNoPulses 0) ∧
        (tk.head.val < s.tracker.line.headCount → tk.p ≠ 0 →
          exec (.calibrate t tag w force) s = .next (answered 0x10 .accepted 0 [] { s' with
            transit := older ++ newer
            divider := some
              { head := tk.head, tag := n, kSnap := tk.snapshot.k, p := tk.p, w := w.toNat, force := decide (force = 1)
                dividend := w.toNat * 256 + tk.p / 2, remainder := 0, quotient := 0 } }))

/-- R148: HOLD LEARNING ON drops every pending A and pending T, OFF writes the hold alone, any other value is BAD_FIELD. -/
def Obligations.HoldLearningDropsPending : Prop :=
  ∀ (t : Time) (hold : Byte) (s : State),
    let s' : State := { s with now := max s.now t }
    (hold = 0 → exec (.holdLearning t hold) s = .next (answered 0x11 .done 0 [] { s' with learningHold := false })) ∧
    (2 ≤ hold.toNat → exec (.holdLearning t hold) s = .next (answered 0x11 .badField 0 [] s')) ∧
    (hold = 1 → ∃ v, exec (.holdLearning t hold) s = .next (answered 0x11 .done 0 [] v) ∧
      (∀ h, v.head h = { s.head h with record := { (s.head h).record with pendingA := none, pendingT := none } }) ∧
      v = { s' with learningHold := true, heads := v.heads })

/-- CLEAR ATTENTION (R184, R185): the refusals in order; a head's named causes are cleared, TRIM_LIMIT with the drift counter, or the named
global flags; the line is judged once. -/
def Obligations.ClearAttentionClearsNamedKinds : Prop :=
  ∀ (t : Time) (target kinds : Byte) (s : State),
    let s' : State := { s with now := max s.now t }
    let bit (i : Nat) : Bool := kinds.getLsbD i
    let refused (c : AnswerCode) (d : Byte) : Prop := exec (.clearAttention t target kinds) s = .next (answered 0x12 c d [] s')
    let perHead := bit 0 = true ∨ bit 1 = true ∨ bit 2 = true ∨ bit 3 = true ∨ bit 4 = true
    let global := bit 5 = true ∨ bit 6 = true ∨ bit 7 = true
    (target = 0xFF → perHead → refused .badField 1) ∧
    (target = 0xFF → ¬perHead → exec (.clearAttention t target kinds) s = .next (answered 0x12 .done 0 [] (judgeLine { s' with
      globals :=
        { angleFault := s.globals.angleFault && !bit 5, reverse := s.globals.reverse && !bit 6
          verdictLoss := s.globals.verdictLoss && !bit 7 } }))) ∧
    (target ≠ 0xFF → s.tracker.line.headCount ≤ target.toNat → refused .noSuchHead 0) ∧
    ∀ h : HeadId, target.toNat = h.val → h.val < s.tracker.line.headCount →
      let x := s.head h
      (global → refused .badField 1) ∧
      (¬global → bit 0 = true → x.record.service ≠ .out → refused .notAllowed 0) ∧
      (¬global → (bit 0 = true → x.record.service = .out) →
        exec (.clearAttention t target kinds) s = .next (answered 0x12 .done 0 [] (judgeLine (setHead h { x with
          record := { x.record with drift := if bit 3 then 0 else x.record.drift }
          causes :=
            { equipment := if bit 0 then none else x.causes.equipment, intervention := if bit 1 then none else x.causes.intervention
              fillFault := if bit 2 then none else x.causes.fillFault, trimLimit := x.causes.trimLimit && !bit 3
              calDone := if bit 4 then none else x.causes.calDone } } s'))))

/-- R183 and R182: SET MASK replaces the mask bits, changes no cause, and the line is asserted exactly while a pending cause's kind is
open. -/
def Obligations.SetMaskJudgesLine : Prop :=
  ∀ (t : Time) (kinds : Byte) (s : State), ∃ line : Bool,
    exec (.setMask t kinds) s =
      .next (answered 0x13 .done 0 [] { s with now := max s.now t, masks := kinds, attentionLine := line }) ∧
    (line = true ↔
      (s.globals.angleFault = true ∧ kinds.getLsbD 5 = true) ∨ (s.globals.reverse = true ∧ kinds.getLsbD 6 = true) ∨
      (s.globals.verdictLoss = true ∧ kinds.getLsbD 7 = true) ∨
      ∃ h, ((s.head h).causes.equipment.isSome = true ∧ kinds.getLsbD 0 = true) ∨
        ((s.head h).causes.intervention.isSome = true ∧ kinds.getLsbD 1 = true) ∨
        ((s.head h).causes.fillFault.isSome = true ∧ kinds.getLsbD 2 = true) ∨
        ((s.head h).causes.trimLimit = true ∧ kinds.getLsbD 3 = true) ∨
        ((s.head h).causes.calDone.isSome = true ∧ kinds.getLsbD 4 = true))

/-! ## Invariants that every step keeps -/

/-- The invariants below hold right after reset. -/
def Obligations.InvariantsHoldAtReset : Prop :=
  TrackerLegal State.reset ∧ LineJudged State.reset ∧ TicketFollowsPhase State.reset ∧ PortLegal State.reset ∧
  QueueSorted State.reset ∧ TransitLegal State.reset ∧ PilotsFollowPhases State.reset ∧ TagsDistinct State.reset ∧
  RecordsInRange State.reset ∧ ValuesFollowRevision State.reset ∧ HoldDropsPending State.reset ∧ MembersCounted State.reset ∧
  CommitFindsEmpty State.reset

/-- R2: the tracker's items fit its motion state after every step. -/
def Obligations.TrackerStaysLegal : Prop := KeptByStep TrackerLegal

/-- R182: the attention line is asserted exactly while a pending cause's mask bit is open, after every step. -/
def Obligations.LineStaysJudged : Prop := KeptByStep LineJudged

/-- R81: a head has a live ticket exactly when its phase is not EMPTY, after every step. -/
def Obligations.TicketsFollowPhases : Prop := KeptByStep TicketFollowsPhase

/-- R192, R193: at most 4 frames are queued, and an answer is being sent exactly while one is, after every step. -/
def Obligations.PortStaysLegal : Prop := KeptByStep PortLegal

/-- R165, R79: at most one queued open per head; pilots are energised, and opens queued, only in the phases that allow them; after every
step. -/
def Obligations.PilotsStayWithPhases : Prop :=
  (KeptByStep QueueSorted) ∧
  (KeptByStep PilotsFollowPhases)

/-- R120, R115: at most 64 tickets in transit, at most 8 of them KEPT; the tags of all existing tickets are pairwise distinct; after every
step. -/
def Obligations.TicketsStayLegal : Prop :=
  (KeptByStep TransitLegal) ∧
  (KeptByStep TagsDistinct)

/-- R38, R50, R55, R62: K, staged K, drift, fault count, stray count and glitch count stay in their ranges, and working and pending A and T in
the bounds of the revision the head uses, 0 and absent where it uses none; R148: no head holds pending A or pending T while the learning hold
is ON; after every step. -/
def Obligations.RecordsStayInRange : Prop :=
  (KeptByStep RecordsInRange) ∧
  (KeptByStep ValuesFollowRevision) ∧
  (KeptByStep HoldDropsPending)

/-- R18, R19, R20: a slot's counts are the numbers of its members, adopters and others, after every step. -/
def Obligations.SlotsCountTheirMembers : Prop := KeptByStep MembersCounted

/-- R40, R48: OUT and JOINING heads are in phase EMPTY, and every commit crossing finds its head in EMPTY, after every step. -/
def Obligations.CommitCrossingsFindEmpty : Prop := KeptByStep CommitFindsEmpty
end

