-- ==== Sys2Proof/Laws/State.lean ====
section
/-! SUPPORT. The small lemmas of the updates: one lemma per field per update, so that no later proof unfolds a record update. -/

namespace Sys2Proof.Machine

/-! ## Fields after an update -/

@[simp] theorem setHead_now (h : HeadId) (x : Head) (s : State) : (setHead h x s).now = s.now := rfl
@[simp] theorem setHead_encoder (h : HeadId) (x : Head) (s : State) : (setHead h x s).encoder = s.encoder := rfl
@[simp] theorem setHead_tracker (h : HeadId) (x : Head) (s : State) : (setHead h x s).tracker = s.tracker := rfl
@[simp] theorem setHead_slots (h : HeadId) (x : Head) (s : State) : (setHead h x s).slots = s.slots := rfl
@[simp] theorem setHead_transit (h : HeadId) (x : Head) (s : State) : (setHead h x s).transit = s.transit := rfl
@[simp] theorem setHead_tagCounter (h : HeadId) (x : Head) (s : State) : (setHead h x s).tagCounter = s.tagCounter := rfl
@[simp] theorem setHead_lines (h : HeadId) (x : Head) (s : State) : (setHead h x s).lines = s.lines := rfl
@[simp] theorem setHead_learningHold (h : HeadId) (x : Head) (s : State) : (setHead h x s).learningHold = s.learningHold := rfl
@[simp] theorem setHead_divider (h : HeadId) (x : Head) (s : State) : (setHead h x s).divider = s.divider := rfl
@[simp] theorem setHead_pilotQueue (h : HeadId) (x : Head) (s : State) : (setHead h x s).pilotQueue = s.pilotQueue := rfl
@[simp] theorem setHead_boosts (h : HeadId) (x : Head) (s : State) : (setHead h x s).boosts = s.boosts := rfl
@[simp] theorem setHead_globals (h : HeadId) (x : Head) (s : State) : (setHead h x s).globals = s.globals := rfl
@[simp] theorem setHead_masks (h : HeadId) (x : Head) (s : State) : (setHead h x s).masks = s.masks := rfl
@[simp] theorem setHead_attentionLine (h : HeadId) (x : Head) (s : State) : (setHead h x s).attentionLine = s.attentionLine := rfl
@[simp] theorem setHead_link (h : HeadId) (x : Head) (s : State) : (setHead h x s).link = s.link := rfl
@[simp] theorem setHead_lastAnswer (h : HeadId) (x : Head) (s : State) : (setHead h x s).lastAnswer = s.lastAnswer := rfl
@[simp] theorem setHead_freeReads (h : HeadId) (x : Head) (s : State) : (setHead h x s).freeReads = s.freeReads := rfl
@[simp] theorem setHead_pending (h : HeadId) (x : Head) (s : State) : (setHead h x s).pending = s.pending := rfl

@[simp] theorem modHead_now (h : HeadId) (f : Head → Head) (s : State) : (modHead h f s).now = s.now := rfl
@[simp] theorem modHead_encoder (h : HeadId) (f : Head → Head) (s : State) : (modHead h f s).encoder = s.encoder := rfl
@[simp] theorem modHead_tracker (h : HeadId) (f : Head → Head) (s : State) : (modHead h f s).tracker = s.tracker := rfl
@[simp] theorem modHead_slots (h : HeadId) (f : Head → Head) (s : State) : (modHead h f s).slots = s.slots := rfl
@[simp] theorem modHead_transit (h : HeadId) (f : Head → Head) (s : State) : (modHead h f s).transit = s.transit := rfl
@[simp] theorem modHead_tagCounter (h : HeadId) (f : Head → Head) (s : State) : (modHead h f s).tagCounter = s.tagCounter := rfl
@[simp] theorem modHead_lines (h : HeadId) (f : Head → Head) (s : State) : (modHead h f s).lines = s.lines := rfl
@[simp] theorem modHead_learningHold (h : HeadId) (f : Head → Head) (s : State) : (modHead h f s).learningHold = s.learningHold := rfl
@[simp] theorem modHead_divider (h : HeadId) (f : Head → Head) (s : State) : (modHead h f s).divider = s.divider := rfl
@[simp] theorem modHead_pilotQueue (h : HeadId) (f : Head → Head) (s : State) : (modHead h f s).pilotQueue = s.pilotQueue := rfl
@[simp] theorem modHead_boosts (h : HeadId) (f : Head → Head) (s : State) : (modHead h f s).boosts = s.boosts := rfl
@[simp] theorem modHead_globals (h : HeadId) (f : Head → Head) (s : State) : (modHead h f s).globals = s.globals := rfl
@[simp] theorem modHead_masks (h : HeadId) (f : Head → Head) (s : State) : (modHead h f s).masks = s.masks := rfl
@[simp] theorem modHead_attentionLine (h : HeadId) (f : Head → Head) (s : State) : (modHead h f s).attentionLine = s.attentionLine := rfl
@[simp] theorem modHead_link (h : HeadId) (f : Head → Head) (s : State) : (modHead h f s).link = s.link := rfl
@[simp] theorem modHead_lastAnswer (h : HeadId) (f : Head → Head) (s : State) : (modHead h f s).lastAnswer = s.lastAnswer := rfl
@[simp] theorem modHead_freeReads (h : HeadId) (f : Head → Head) (s : State) : (modHead h f s).freeReads = s.freeReads := rfl
@[simp] theorem modHead_pending (h : HeadId) (f : Head → Head) (s : State) : (modHead h f s).pending = s.pending := rfl

@[simp] theorem mapHeads_now (f : Head → Head) (s : State) : (mapHeads f s).now = s.now := rfl
@[simp] theorem mapHeads_encoder (f : Head → Head) (s : State) : (mapHeads f s).encoder = s.encoder := rfl
@[simp] theorem mapHeads_tracker (f : Head → Head) (s : State) : (mapHeads f s).tracker = s.tracker := rfl
@[simp] theorem mapHeads_slots (f : Head → Head) (s : State) : (mapHeads f s).slots = s.slots := rfl
@[simp] theorem mapHeads_transit (f : Head → Head) (s : State) : (mapHeads f s).transit = s.transit := rfl
@[simp] theorem mapHeads_tagCounter (f : Head → Head) (s : State) : (mapHeads f s).tagCounter = s.tagCounter := rfl
@[simp] theorem mapHeads_lines (f : Head → Head) (s : State) : (mapHeads f s).lines = s.lines := rfl
@[simp] theorem mapHeads_learningHold (f : Head → Head) (s : State) : (mapHeads f s).learningHold = s.learningHold := rfl
@[simp] theorem mapHeads_divider (f : Head → Head) (s : State) : (mapHeads f s).divider = s.divider := rfl
@[simp] theorem mapHeads_pilotQueue (f : Head → Head) (s : State) : (mapHeads f s).pilotQueue = s.pilotQueue := rfl
@[simp] theorem mapHeads_boosts (f : Head → Head) (s : State) : (mapHeads f s).boosts = s.boosts := rfl
@[simp] theorem mapHeads_globals (f : Head → Head) (s : State) : (mapHeads f s).globals = s.globals := rfl
@[simp] theorem mapHeads_masks (f : Head → Head) (s : State) : (mapHeads f s).masks = s.masks := rfl
@[simp] theorem mapHeads_attentionLine (f : Head → Head) (s : State) : (mapHeads f s).attentionLine = s.attentionLine := rfl
@[simp] theorem mapHeads_link (f : Head → Head) (s : State) : (mapHeads f s).link = s.link := rfl
@[simp] theorem mapHeads_lastAnswer (f : Head → Head) (s : State) : (mapHeads f s).lastAnswer = s.lastAnswer := rfl
@[simp] theorem mapHeads_freeReads (f : Head → Head) (s : State) : (mapHeads f s).freeReads = s.freeReads := rfl
@[simp] theorem mapHeads_pending (f : Head → Head) (s : State) : (mapHeads f s).pending = s.pending := rfl

@[simp] theorem modSlot_now (n : SlotId) (f : Slot → Slot) (s : State) : (modSlot n f s).now = s.now := rfl
@[simp] theorem modSlot_encoder (n : SlotId) (f : Slot → Slot) (s : State) : (modSlot n f s).encoder = s.encoder := rfl
@[simp] theorem modSlot_tracker (n : SlotId) (f : Slot → Slot) (s : State) : (modSlot n f s).tracker = s.tracker := rfl
@[simp] theorem modSlot_heads (n : SlotId) (f : Slot → Slot) (s : State) : (modSlot n f s).heads = s.heads := rfl
@[simp] theorem modSlot_transit (n : SlotId) (f : Slot → Slot) (s : State) : (modSlot n f s).transit = s.transit := rfl
@[simp] theorem modSlot_tagCounter (n : SlotId) (f : Slot → Slot) (s : State) : (modSlot n f s).tagCounter = s.tagCounter := rfl
@[simp] theorem modSlot_lines (n : SlotId) (f : Slot → Slot) (s : State) : (modSlot n f s).lines = s.lines := rfl
@[simp] theorem modSlot_learningHold (n : SlotId) (f : Slot → Slot) (s : State) : (modSlot n f s).learningHold = s.learningHold := rfl
@[simp] theorem modSlot_divider (n : SlotId) (f : Slot → Slot) (s : State) : (modSlot n f s).divider = s.divider := rfl
@[simp] theorem modSlot_pilotQueue (n : SlotId) (f : Slot → Slot) (s : State) : (modSlot n f s).pilotQueue = s.pilotQueue := rfl
@[simp] theorem modSlot_boosts (n : SlotId) (f : Slot → Slot) (s : State) : (modSlot n f s).boosts = s.boosts := rfl
@[simp] theorem modSlot_globals (n : SlotId) (f : Slot → Slot) (s : State) : (modSlot n f s).globals = s.globals := rfl
@[simp] theorem modSlot_masks (n : SlotId) (f : Slot → Slot) (s : State) : (modSlot n f s).masks = s.masks := rfl
@[simp] theorem modSlot_attentionLine (n : SlotId) (f : Slot → Slot) (s : State) : (modSlot n f s).attentionLine = s.attentionLine := rfl
@[simp] theorem modSlot_link (n : SlotId) (f : Slot → Slot) (s : State) : (modSlot n f s).link = s.link := rfl
@[simp] theorem modSlot_lastAnswer (n : SlotId) (f : Slot → Slot) (s : State) : (modSlot n f s).lastAnswer = s.lastAnswer := rfl
@[simp] theorem modSlot_freeReads (n : SlotId) (f : Slot → Slot) (s : State) : (modSlot n f s).freeReads = s.freeReads := rfl
@[simp] theorem modSlot_pending (n : SlotId) (f : Slot → Slot) (s : State) : (modSlot n f s).pending = s.pending := rfl

@[simp] theorem judgeLine_now (s : State) : (judgeLine s).now = s.now := rfl
@[simp] theorem judgeLine_encoder (s : State) : (judgeLine s).encoder = s.encoder := rfl
@[simp] theorem judgeLine_tracker (s : State) : (judgeLine s).tracker = s.tracker := rfl
@[simp] theorem judgeLine_slots (s : State) : (judgeLine s).slots = s.slots := rfl
@[simp] theorem judgeLine_heads (s : State) : (judgeLine s).heads = s.heads := rfl
@[simp] theorem judgeLine_transit (s : State) : (judgeLine s).transit = s.transit := rfl
@[simp] theorem judgeLine_tagCounter (s : State) : (judgeLine s).tagCounter = s.tagCounter := rfl
@[simp] theorem judgeLine_lines (s : State) : (judgeLine s).lines = s.lines := rfl
@[simp] theorem judgeLine_learningHold (s : State) : (judgeLine s).learningHold = s.learningHold := rfl
@[simp] theorem judgeLine_divider (s : State) : (judgeLine s).divider = s.divider := rfl
@[simp] theorem judgeLine_pilotQueue (s : State) : (judgeLine s).pilotQueue = s.pilotQueue := rfl
@[simp] theorem judgeLine_boosts (s : State) : (judgeLine s).boosts = s.boosts := rfl
@[simp] theorem judgeLine_globals (s : State) : (judgeLine s).globals = s.globals := rfl
@[simp] theorem judgeLine_masks (s : State) : (judgeLine s).masks = s.masks := rfl
@[simp] theorem judgeLine_link (s : State) : (judgeLine s).link = s.link := rfl
@[simp] theorem judgeLine_lastAnswer (s : State) : (judgeLine s).lastAnswer = s.lastAnswer := rfl
@[simp] theorem judgeLine_freeReads (s : State) : (judgeLine s).freeReads = s.freeReads := rfl
@[simp] theorem judgeLine_pending (s : State) : (judgeLine s).pending = s.pending := rfl

@[simp] theorem advance_encoder (s : State) (t : Time) : (s.advance t).encoder = s.encoder := rfl
@[simp] theorem advance_tracker (s : State) (t : Time) : (s.advance t).tracker = s.tracker := rfl
@[simp] theorem advance_slots (s : State) (t : Time) : (s.advance t).slots = s.slots := rfl
@[simp] theorem advance_heads (s : State) (t : Time) : (s.advance t).heads = s.heads := rfl
@[simp] theorem advance_transit (s : State) (t : Time) : (s.advance t).transit = s.transit := rfl
@[simp] theorem advance_tagCounter (s : State) (t : Time) : (s.advance t).tagCounter = s.tagCounter := rfl
@[simp] theorem advance_lines (s : State) (t : Time) : (s.advance t).lines = s.lines := rfl
@[simp] theorem advance_learningHold (s : State) (t : Time) : (s.advance t).learningHold = s.learningHold := rfl
@[simp] theorem advance_divider (s : State) (t : Time) : (s.advance t).divider = s.divider := rfl
@[simp] theorem advance_pilotQueue (s : State) (t : Time) : (s.advance t).pilotQueue = s.pilotQueue := rfl
@[simp] theorem advance_boosts (s : State) (t : Time) : (s.advance t).boosts = s.boosts := rfl
@[simp] theorem advance_globals (s : State) (t : Time) : (s.advance t).globals = s.globals := rfl
@[simp] theorem advance_masks (s : State) (t : Time) : (s.advance t).masks = s.masks := rfl
@[simp] theorem advance_attentionLine (s : State) (t : Time) : (s.advance t).attentionLine = s.attentionLine := rfl
@[simp] theorem advance_link (s : State) (t : Time) : (s.advance t).link = s.link := rfl
@[simp] theorem advance_lastAnswer (s : State) (t : Time) : (s.advance t).lastAnswer = s.lastAnswer := rfl
@[simp] theorem advance_freeReads (s : State) (t : Time) : (s.advance t).freeReads = s.freeReads := rfl
@[simp] theorem advance_pending (s : State) (t : Time) : (s.advance t).pending = s.pending := rfl

@[simp] theorem putTransit_now (l : List Ticket) (s : State) : (putTransit l s).now = s.now := rfl
@[simp] theorem putTransit_encoder (l : List Ticket) (s : State) : (putTransit l s).encoder = s.encoder := rfl
@[simp] theorem putTransit_tracker (l : List Ticket) (s : State) : (putTransit l s).tracker = s.tracker := rfl
@[simp] theorem putTransit_slots (l : List Ticket) (s : State) : (putTransit l s).slots = s.slots := rfl
@[simp] theorem putTransit_heads (l : List Ticket) (s : State) : (putTransit l s).heads = s.heads := rfl
@[simp] theorem putTransit_transit (l : List Ticket) (s : State) : (putTransit l s).transit = l := rfl
@[simp] theorem putTransit_tagCounter (l : List Ticket) (s : State) : (putTransit l s).tagCounter = s.tagCounter := rfl
@[simp] theorem putTransit_lines (l : List Ticket) (s : State) : (putTransit l s).lines = s.lines := rfl
@[simp] theorem putTransit_learningHold (l : List Ticket) (s : State) : (putTransit l s).learningHold = s.learningHold := rfl
@[simp] theorem putTransit_divider (l : List Ticket) (s : State) : (putTransit l s).divider = s.divider := rfl
@[simp] theorem putTransit_pilotQueue (l : List Ticket) (s : State) : (putTransit l s).pilotQueue = s.pilotQueue := rfl
@[simp] theorem putTransit_boosts (l : List Ticket) (s : State) : (putTransit l s).boosts = s.boosts := rfl
@[simp] theorem putTransit_globals (l : List Ticket) (s : State) : (putTransit l s).globals = s.globals := rfl
@[simp] theorem putTransit_masks (l : List Ticket) (s : State) : (putTransit l s).masks = s.masks := rfl
@[simp] theorem putTransit_attentionLine (l : List Ticket) (s : State) : (putTransit l s).attentionLine = s.attentionLine := rfl
@[simp] theorem putTransit_link (l : List Ticket) (s : State) : (putTransit l s).link = s.link := rfl
@[simp] theorem putTransit_lastAnswer (l : List Ticket) (s : State) : (putTransit l s).lastAnswer = s.lastAnswer := rfl
@[simp] theorem putTransit_freeReads (l : List Ticket) (s : State) : (putTransit l s).freeReads = s.freeReads := rfl
@[simp] theorem putTransit_pending (l : List Ticket) (s : State) : (putTransit l s).pending = s.pending := rfl
@[simp] theorem head_putTransit (j : HeadId) (l : List Ticket) (s : State) : (putTransit l s).head j = s.head j := rfl

@[simp] theorem putTagCounter_now (tag : Tag) (s : State) : (putTagCounter tag s).now = s.now := rfl
@[simp] theorem putTagCounter_encoder (tag : Tag) (s : State) : (putTagCounter tag s).encoder = s.encoder := rfl
@[simp] theorem putTagCounter_tracker (tag : Tag) (s : State) : (putTagCounter tag s).tracker = s.tracker := rfl
@[simp] theorem putTagCounter_slots (tag : Tag) (s : State) : (putTagCounter tag s).slots = s.slots := rfl
@[simp] theorem putTagCounter_heads (tag : Tag) (s : State) : (putTagCounter tag s).heads = s.heads := rfl
@[simp] theorem putTagCounter_transit (tag : Tag) (s : State) : (putTagCounter tag s).transit = s.transit := rfl
@[simp] theorem putTagCounter_tagCounter (tag : Tag) (s : State) : (putTagCounter tag s).tagCounter = tag := rfl
@[simp] theorem putTagCounter_lines (tag : Tag) (s : State) : (putTagCounter tag s).lines = s.lines := rfl
@[simp] theorem putTagCounter_learningHold (tag : Tag) (s : State) : (putTagCounter tag s).learningHold = s.learningHold := rfl
@[simp] theorem putTagCounter_divider (tag : Tag) (s : State) : (putTagCounter tag s).divider = s.divider := rfl
@[simp] theorem putTagCounter_pilotQueue (tag : Tag) (s : State) : (putTagCounter tag s).pilotQueue = s.pilotQueue := rfl
@[simp] theorem putTagCounter_boosts (tag : Tag) (s : State) : (putTagCounter tag s).boosts = s.boosts := rfl
@[simp] theorem putTagCounter_globals (tag : Tag) (s : State) : (putTagCounter tag s).globals = s.globals := rfl
@[simp] theorem putTagCounter_masks (tag : Tag) (s : State) : (putTagCounter tag s).masks = s.masks := rfl
@[simp] theorem putTagCounter_attentionLine (tag : Tag) (s : State) : (putTagCounter tag s).attentionLine = s.attentionLine := rfl
@[simp] theorem putTagCounter_link (tag : Tag) (s : State) : (putTagCounter tag s).link = s.link := rfl
@[simp] theorem putTagCounter_lastAnswer (tag : Tag) (s : State) : (putTagCounter tag s).lastAnswer = s.lastAnswer := rfl
@[simp] theorem putTagCounter_freeReads (tag : Tag) (s : State) : (putTagCounter tag s).freeReads = s.freeReads := rfl
@[simp] theorem putTagCounter_pending (tag : Tag) (s : State) : (putTagCounter tag s).pending = s.pending := rfl
@[simp] theorem head_putTagCounter (j : HeadId) (tag : Tag) (s : State) : (putTagCounter tag s).head j = s.head j := rfl

@[simp] theorem putLines_now (l : DischargeLines) (s : State) : (putLines l s).now = s.now := rfl
@[simp] theorem putLines_encoder (l : DischargeLines) (s : State) : (putLines l s).encoder = s.encoder := rfl
@[simp] theorem putLines_tracker (l : DischargeLines) (s : State) : (putLines l s).tracker = s.tracker := rfl
@[simp] theorem putLines_slots (l : DischargeLines) (s : State) : (putLines l s).slots = s.slots := rfl
@[simp] theorem putLines_heads (l : DischargeLines) (s : State) : (putLines l s).heads = s.heads := rfl
@[simp] theorem putLines_transit (l : DischargeLines) (s : State) : (putLines l s).transit = s.transit := rfl
@[simp] theorem putLines_tagCounter (l : DischargeLines) (s : State) : (putLines l s).tagCounter = s.tagCounter := rfl
@[simp] theorem putLines_lines (l : DischargeLines) (s : State) : (putLines l s).lines = l := rfl
@[simp] theorem putLines_learningHold (l : DischargeLines) (s : State) : (putLines l s).learningHold = s.learningHold := rfl
@[simp] theorem putLines_divider (l : DischargeLines) (s : State) : (putLines l s).divider = s.divider := rfl
@[simp] theorem putLines_pilotQueue (l : DischargeLines) (s : State) : (putLines l s).pilotQueue = s.pilotQueue := rfl
@[simp] theorem putLines_boosts (l : DischargeLines) (s : State) : (putLines l s).boosts = s.boosts := rfl
@[simp] theorem putLines_globals (l : DischargeLines) (s : State) : (putLines l s).globals = s.globals := rfl
@[simp] theorem putLines_masks (l : DischargeLines) (s : State) : (putLines l s).masks = s.masks := rfl
@[simp] theorem putLines_attentionLine (l : DischargeLines) (s : State) : (putLines l s).attentionLine = s.attentionLine := rfl
@[simp] theorem putLines_link (l : DischargeLines) (s : State) : (putLines l s).link = s.link := rfl
@[simp] theorem putLines_lastAnswer (l : DischargeLines) (s : State) : (putLines l s).lastAnswer = s.lastAnswer := rfl
@[simp] theorem putLines_freeReads (l : DischargeLines) (s : State) : (putLines l s).freeReads = s.freeReads := rfl
@[simp] theorem putLines_pending (l : DischargeLines) (s : State) : (putLines l s).pending = s.pending := rfl
@[simp] theorem head_putLines (j : HeadId) (l : DischargeLines) (s : State) : (putLines l s).head j = s.head j := rfl

@[simp] theorem putQueue_now (q : List Entry) (s : State) : (putQueue q s).now = s.now := rfl
@[simp] theorem putQueue_encoder (q : List Entry) (s : State) : (putQueue q s).encoder = s.encoder := rfl
@[simp] theorem putQueue_tracker (q : List Entry) (s : State) : (putQueue q s).tracker = s.tracker := rfl
@[simp] theorem putQueue_slots (q : List Entry) (s : State) : (putQueue q s).slots = s.slots := rfl
@[simp] theorem putQueue_heads (q : List Entry) (s : State) : (putQueue q s).heads = s.heads := rfl
@[simp] theorem putQueue_transit (q : List Entry) (s : State) : (putQueue q s).transit = s.transit := rfl
@[simp] theorem putQueue_tagCounter (q : List Entry) (s : State) : (putQueue q s).tagCounter = s.tagCounter := rfl
@[simp] theorem putQueue_lines (q : List Entry) (s : State) : (putQueue q s).lines = s.lines := rfl
@[simp] theorem putQueue_learningHold (q : List Entry) (s : State) : (putQueue q s).learningHold = s.learningHold := rfl
@[simp] theorem putQueue_divider (q : List Entry) (s : State) : (putQueue q s).divider = s.divider := rfl
@[simp] theorem putQueue_pilotQueue (q : List Entry) (s : State) : (putQueue q s).pilotQueue = q := rfl
@[simp] theorem putQueue_boosts (q : List Entry) (s : State) : (putQueue q s).boosts = s.boosts := rfl
@[simp] theorem putQueue_globals (q : List Entry) (s : State) : (putQueue q s).globals = s.globals := rfl
@[simp] theorem putQueue_masks (q : List Entry) (s : State) : (putQueue q s).masks = s.masks := rfl
@[simp] theorem putQueue_attentionLine (q : List Entry) (s : State) : (putQueue q s).attentionLine = s.attentionLine := rfl
@[simp] theorem putQueue_link (q : List Entry) (s : State) : (putQueue q s).link = s.link := rfl
@[simp] theorem putQueue_lastAnswer (q : List Entry) (s : State) : (putQueue q s).lastAnswer = s.lastAnswer := rfl
@[simp] theorem putQueue_freeReads (q : List Entry) (s : State) : (putQueue q s).freeReads = s.freeReads := rfl
@[simp] theorem putQueue_pending (q : List Entry) (s : State) : (putQueue q s).pending = s.pending := rfl
@[simp] theorem head_putQueue (j : HeadId) (q : List Entry) (s : State) : (putQueue q s).head j = s.head j := rfl

@[simp] theorem putBoosts_now (b : Vector (Option Grant) 6) (s : State) : (putBoosts b s).now = s.now := rfl
@[simp] theorem putBoosts_encoder (b : Vector (Option Grant) 6) (s : State) : (putBoosts b s).encoder = s.encoder := rfl
@[simp] theorem putBoosts_tracker (b : Vector (Option Grant) 6) (s : State) : (putBoosts b s).tracker = s.tracker := rfl
@[simp] theorem putBoosts_slots (b : Vector (Option Grant) 6) (s : State) : (putBoosts b s).slots = s.slots := rfl
@[simp] theorem putBoosts_heads (b : Vector (Option Grant) 6) (s : State) : (putBoosts b s).heads = s.heads := rfl
@[simp] theorem putBoosts_transit (b : Vector (Option Grant) 6) (s : State) : (putBoosts b s).transit = s.transit := rfl
@[simp] theorem putBoosts_tagCounter (b : Vector (Option Grant) 6) (s : State) : (putBoosts b s).tagCounter = s.tagCounter := rfl
@[simp] theorem putBoosts_lines (b : Vector (Option Grant) 6) (s : State) : (putBoosts b s).lines = s.lines := rfl
@[simp] theorem putBoosts_learningHold (b : Vector (Option Grant) 6) (s : State) : (putBoosts b s).learningHold = s.learningHold := rfl
@[simp] theorem putBoosts_divider (b : Vector (Option Grant) 6) (s : State) : (putBoosts b s).divider = s.divider := rfl
@[simp] theorem putBoosts_pilotQueue (b : Vector (Option Grant) 6) (s : State) : (putBoosts b s).pilotQueue = s.pilotQueue := rfl
@[simp] theorem putBoosts_boosts (b : Vector (Option Grant) 6) (s : State) : (putBoosts b s).boosts = b := rfl
@[simp] theorem putBoosts_globals (b : Vector (Option Grant) 6) (s : State) : (putBoosts b s).globals = s.globals := rfl
@[simp] theorem putBoosts_masks (b : Vector (Option Grant) 6) (s : State) : (putBoosts b s).masks = s.masks := rfl
@[simp] theorem putBoosts_attentionLine (b : Vector (Option Grant) 6) (s : State) : (putBoosts b s).attentionLine = s.attentionLine := rfl
@[simp] theorem putBoosts_link (b : Vector (Option Grant) 6) (s : State) : (putBoosts b s).link = s.link := rfl
@[simp] theorem putBoosts_lastAnswer (b : Vector (Option Grant) 6) (s : State) : (putBoosts b s).lastAnswer = s.lastAnswer := rfl
@[simp] theorem putBoosts_freeReads (b : Vector (Option Grant) 6) (s : State) : (putBoosts b s).freeReads = s.freeReads := rfl
@[simp] theorem putBoosts_pending (b : Vector (Option Grant) 6) (s : State) : (putBoosts b s).pending = s.pending := rfl
@[simp] theorem head_putBoosts (j : HeadId) (b : Vector (Option Grant) 6) (s : State) : (putBoosts b s).head j = s.head j := rfl

@[simp] theorem advance_now (s : State) (t : Time) : (s.advance t).now = max s.now t := rfl

@[simp] theorem judgeLine_attentionLine (s : State) : (judgeLine s).attentionLine = s.lineDue := rfl

/-! ## A head after an update -/

theorem head_setHead (h j : HeadId) (x : Head) (s : State) : (setHead h x s).head j = if j = h then x else s.head j := by
  by_cases e : j = h
  · subst e; simp [setHead, State.head]
  · have : h.val ≠ j.val := fun c => e (Fin.ext c.symm)
    simp [setHead, State.head, e, this]

theorem head_modHead (h j : HeadId) (f : Head → Head) (s : State) :
    (modHead h f s).head j = if j = h then f (s.head h) else s.head j := head_setHead h j _ s

@[simp] theorem head_modHead_self (h : HeadId) (f : Head → Head) (s : State) : (modHead h f s).head h = f (s.head h) := by
  simp [head_modHead]

theorem head_modHead_ne {h j : HeadId} (e : j ≠ h) (f : Head → Head) (s : State) : (modHead h f s).head j = s.head j := by
  simp [head_modHead, e]

@[simp] theorem head_mapHeads (j : HeadId) (f : Head → Head) (s : State) : (mapHeads f s).head j = f (s.head j) := by
  simp [mapHeads, State.head]

@[simp] theorem head_modSlot (j : HeadId) (n : SlotId) (f : Slot → Slot) (s : State) : (modSlot n f s).head j = s.head j := rfl

@[simp] theorem head_judgeLine (j : HeadId) (s : State) : (judgeLine s).head j = s.head j := rfl

@[simp] theorem head_advance (j : HeadId) (s : State) (t : Time) : (s.advance t).head j = s.head j := rfl

/-- Two states with the same heads under every number have the same heads. -/
theorem heads_ext {s t : State} (e : ∀ j, s.head j = t.head j) : s.heads = t.heads := by
  apply Vector.ext
  intro i hi
  exact e ⟨i, hi⟩

/-! ## A slot after an update -/

theorem slot_modSlot (n m : SlotId) (f : Slot → Slot) (s : State) :
    (modSlot n f s).slot m = if m = n then f (s.slot n) else s.slot m := by
  by_cases e : m = n
  · subst e; simp [modSlot, State.slot]
  · have : n.val ≠ m.val := fun c => e (Fin.ext c.symm)
    simp [modSlot, State.slot, e, this]

@[simp] theorem slot_modSlot_self (n : SlotId) (f : Slot → Slot) (s : State) : (modSlot n f s).slot n = f (s.slot n) := by
  simp [slot_modSlot]

@[simp] theorem slot_modHead (m : SlotId) (h : HeadId) (f : Head → Head) (s : State) : (modHead h f s).slot m = s.slot m := rfl

@[simp] theorem slot_mapHeads (m : SlotId) (f : Head → Head) (s : State) : (mapHeads f s).slot m = s.slot m := rfl

/-! ## A pilot record that goes to OFF -/

@[simp] theorem turnOff_state (now : Time) (r : PilotRecord) : (r.turnOff now).state = .off := rfl
@[simp] theorem turnOff_released (now : Time) (r : PilotRecord) : (r.turnOff now).released = some now := rfl
@[simp] theorem turnOff_dwellTaken (now : Time) (r : PilotRecord) : (r.turnOff now).dwellTaken = r.dwellTaken := rfl

/-! ## Heads at reset -/

theorem head_reset (h : HeadId) : State.reset.head h = Head.powerOn false false := by
  simp [State.reset, State.head]

theorem slot_reset (n : SlotId) : State.reset.slot n = Slot.powerOn := by
  simp [State.reset, State.slot]

end Sys2Proof.Machine
end

