-- ==== Sys2Proof/Laws/Elsewhere.lean ====
section
/-! SUPPORT. What an event at one head leaves alone: the works, causes and queued opens of every other head, and who holds the boost
slots. -/

namespace Sys2Proof.Machine

theorem insertEntry_filter (e : Entry) : ∀ q : List Entry,
    (insertEntry e q).filter (fun x => decide (x.head ≠ e.head)) = q.filter (fun x => decide (x.head ≠ e.head))
  | [] => by simp [insertEntry]
  | x :: rest => by
    unfold insertEntry; split
    · simp
    · split
      · rename_i h1 h2
        have : x.head = e.head := Fin.ext h2.symm
        simp [this]
      · simp only [List.filter_cons, insertEntry_filter e rest]

theorem elsewhere_of {h : HeadId} {s t : State} (h1 : ∀ j, j ≠ h → (t.head j).works = (s.head j).works)
    (h2 : ∀ j, j ≠ h → (t.head j).causes = (s.head j).causes)
    (h3 : t.pilotQueue.filter (fun e => decide (e.head ≠ h)) = s.pilotQueue.filter (fun e => decide (e.head ≠ h)))
    (h4 : t.boostHolds h = s.boostHolds h) : t.elsewhere h = s.elsewhere h := by
  unfold State.elsewhere
  rw [h3, h4]
  congr 1
  funext j
  by_cases e : j = h
  · simp [e]
  · simp [e, h1 j e, h2 j e]

@[simp] theorem modHead_elsewhere (h : HeadId) (f : Head → Head) (s : State) : (modHead h f s).elsewhere h = s.elsewhere h :=
  elsewhere_of (fun j e => by rw [head_modHead_ne e]) (fun j e => by rw [head_modHead_ne e]) rfl rfl
@[simp] theorem queueOpen_elsewhere (k : OpenKind) (h : HeadId) (s : State) : (queueOpen k h s).elsewhere h = s.elsewhere h :=
  elsewhere_of (fun _ _ => rfl) (fun _ _ => rfl) (insertEntry_filter { head := h, kind := k, step := s.tracker.stepCount } s.pilotQueue) rfl
@[simp] theorem withdraw_elsewhere (h : HeadId) (s : State) : (withdraw h s).elsewhere h = s.elsewhere h :=
  elsewhere_of (fun _ _ => rfl) (fun _ _ => rfl) (by simp [withdraw]) rfl
@[simp] theorem dropFromBoosts_elsewhere (h : HeadId) (p : Pilot) (s : State) : (dropFromBoosts h p s).elsewhere h = s.elsewhere h :=
  elsewhere_of (fun _ _ => rfl) (fun _ _ => rfl) rfl (by
    simp only [State.boostHolds, dropFromBoosts, putBoosts_boosts]
    apply Vector.ext; intro i hi
    simp only [Vector.getElem_map, Option.map_map]
    congr 1; funext g; simp only [Function.comp]; split <;> simp_all)
@[simp] theorem modRecord_elsewhere (h : HeadId) (f : HeadRecord → HeadRecord) (s : State) :
    (modRecord h f s).elsewhere h = s.elsewhere h := by simp [modRecord]
@[simp] theorem modSeq_elsewhere (h : HeadId) (f : Sequencer → Sequencer) (s : State) :
    (modSeq h f s).elsewhere h = s.elsewhere h := by simp [modSeq]
@[simp] theorem modCauses_elsewhere (h : HeadId) (f : Causes → Causes) (s : State) :
    (modCauses h f s).elsewhere h = s.elsewhere h := by simp [modCauses]
@[simp] theorem modPilots_elsewhere (h : HeadId) (f : Pilots → Pilots) (s : State) :
    (modPilots h f s).elsewhere h = s.elsewhere h := by simp [modPilots]
@[simp] theorem modTicket_elsewhere (h : HeadId) (f : Ticket → Ticket) (s : State) :
    (modTicket h f s).elsewhere h = s.elsewhere h := by simp [modTicket]
@[simp] theorem modSlot_elsewhere (h : HeadId) (n : SlotId) (f : Slot → Slot) (s : State) :
    (modSlot n f s).elsewhere h = s.elsewhere h := rfl
@[simp] theorem putTransit_elsewhere (h : HeadId) (l : List Ticket) (s : State) : (putTransit l s).elsewhere h = s.elsewhere h := rfl
@[simp] theorem putTagCounter_elsewhere (h : HeadId) (tag : Tag) (s : State) : (putTagCounter tag s).elsewhere h = s.elsewhere h := rfl
@[simp] theorem putLines_elsewhere (h : HeadId) (l : DischargeLines) (s : State) : (putLines l s).elsewhere h = s.elsewhere h := rfl
@[simp] theorem judgeLine_elsewhere (h : HeadId) (s : State) : (judgeLine s).elsewhere h = s.elsewhere h := rfl
theorem mapHeads_elsewhere (h : HeadId) (f : Head → Head) (hw : ∀ x, (f x).works = x.works) (hc : ∀ x, (f x).causes = x.causes)
    (s : State) : (mapHeads f s).elsewhere h = s.elsewhere h :=
  elsewhere_of (fun j _ => by rw [head_mapHeads, hw]) (fun j _ => by rw [head_mapHeads, hc]) rfl rfl

/-- A change to neither heads nor queue nor boost slots. -/
theorem elsewhere_congr {s t : State} (h : HeadId) (h1 : t.heads = s.heads) (h2 : t.pilotQueue = s.pilotQueue)
    (h3 : t.boosts = s.boosts) : t.elsewhere h = s.elsewhere h := by
  simp [State.elsewhere, State.head, State.boostHolds, h1, h2, h3]

/-- What `elsewhere` says about one other head. -/
theorem works_of_elsewhere {h j : HeadId} {s t : State} (e : t.elsewhere h = s.elsewhere h) (ne : j ≠ h) :
    (t.head j).works = (s.head j).works := by
  have := congrFun (congrArg (·.1) e) j
  simp only [State.elsewhere, ne, if_false] at this
  exact congrArg Prod.fst (Option.some.inj this)
theorem causes_of_elsewhere {h j : HeadId} {s t : State} (e : t.elsewhere h = s.elsewhere h) (ne : j ≠ h) :
    (t.head j).causes = (s.head j).causes := by
  have := congrFun (congrArg (·.1) e) j
  simp only [State.elsewhere, ne, if_false] at this
  exact congrArg Prod.snd (Option.some.inj this)
theorem queue_of_elsewhere {h : HeadId} {s t : State} (e : t.elsewhere h = s.elsewhere h) :
    t.pilotQueue.filter (fun x => decide (x.head ≠ h)) = s.pilotQueue.filter (fun x => decide (x.head ≠ h)) :=
  congrArg (·.2.1) e
theorem holds_of_elsewhere {h : HeadId} {s t : State} (e : t.elsewhere h = s.elsewhere h) : t.boostHolds h = s.boostHolds h :=
  congrArg (·.2.2) e

/-! ## Ops -/

@[simp] theorem startTimer_elsewhere (n : TimerName) (h : HeadId) (s : State) : (startTimer n h s).elsewhere h = s.elsewhere h := by
  unfold startTimer; split <;> simp
@[simp] theorem stopTimer_elsewhere (n : TimerName) (h : HeadId) (s : State) : (stopTimer n h s).elsewhere h = s.elsewhere h := by simp [stopTimer]
@[simp] theorem stopTimers_elsewhere (h : HeadId) (s : State) : (stopTimers h s).elsewhere h = s.elsewhere h := by simp [stopTimers]
@[simp] theorem enterPhase_elsewhere (p : Phase) (h : HeadId) (s : State) : (enterPhase p h s).elsewhere h = s.elsewhere h := by simp [enterPhase]
@[simp] theorem alignHead_elsewhere (h : HeadId) (s : State) : (alignHead h s).elsewhere h = s.elsewhere h := by
  unfold alignHead; split
  · rfl
  · split <;> simp
@[simp] theorem alignOut_elsewhere (h : HeadId) (n : SlotId) (rev : Revision) (s : State) : (alignOut n rev s).elsewhere h = s.elsewhere h :=
  mapHeads_elsewhere h _ (fun x => by split <;> rfl) (fun x => by split <;> rfl) s
@[simp] theorem membersUseCurrent_elsewhere (h : HeadId) (n : SlotId) (s : State) : (membersUseCurrent n s).elsewhere h = s.elsewhere h :=
  mapHeads_elsewhere h _ (fun x => by split <;> rfl) (fun x => by split <;> rfl) s
@[simp] theorem promote_elsewhere (h : HeadId) (n : SlotId) (s : State) : (promote n s).elsewhere h = s.elsewhere h := by unfold promote; split <;> simp
@[simp] theorem promoteIfDone_elsewhere (h : HeadId) (n : SlotId) (s : State) : (promoteIfDone n s).elsewhere h = s.elsewhere h := by
  unfold promoteIfDone; split <;> simp
@[simp] theorem leaveCounts_elsewhere (h : HeadId) (n : SlotId) (b : Bool) (s : State) : (leaveCounts n b s).elsewhere h = s.elsewhere h := by simp [leaveCounts]
@[simp] theorem becomeOut_elsewhere (h : HeadId) (s : State) : (becomeOut h s).elsewhere h = s.elsewhere h := by
  unfold becomeOut; simp only; split <;> simp
@[simp] theorem becomeJoining_elsewhere (h : HeadId) (s : State) : (becomeJoining h s).elsewhere h = s.elsewhere h := by
  unfold becomeJoining; simp only; split <;> simp
@[simp] theorem takeOut_elsewhere (h : HeadId) (s : State) : (takeOut h s).elsewhere h = s.elsewhere h := by
  unfold takeOut; split <;> first | rfl | simp | (split <;> simp)
@[simp] theorem bringIn_elsewhere (h : HeadId) (s : State) : (bringIn h s).elsewhere h = s.elsewhere h := by unfold bringIn; split <;> simp
@[simp] theorem changeCauses_elsewhere (h : HeadId) (f : Causes → Causes) (s : State) : (changeCauses h f s).elsewhere h = s.elsewhere h := by simp [changeCauses]
@[simp] theorem changeGlobals_elsewhere (h : HeadId) (f : Globals → Globals) (s : State) : (changeGlobals f s).elsewhere h = s.elsewhere h := rfl
@[simp] theorem raiseEquipment_elsewhere (d : EquipmentDetail) (h : HeadId) (s : State) : (raiseEquipment d h s).elsewhere h = s.elsewhere h := by
  simp [raiseEquipment]
@[simp] theorem raisePresenceStuck_elsewhere (h : HeadId) (s : State) : (raisePresenceStuck h s).elsewhere h = s.elsewhere h := by simp [raisePresenceStuck]
@[simp] theorem raiseRepeatedFaults_elsewhere (h : HeadId) (s : State) : (raiseRepeatedFaults h s).elsewhere h = s.elsewhere h := by
  simp [raiseRepeatedFaults]
@[simp] theorem raiseFillFault_elsewhere (r : Reason) (h : HeadId) (s : State) : (raiseFillFault r h s).elsewhere h = s.elsewhere h := by simp [raiseFillFault]
@[simp] theorem raiseTrimLimit_elsewhere (h : HeadId) (s : State) : (raiseTrimLimit h s).elsewhere h = s.elsewhere h := by simp [raiseTrimLimit]
@[simp] theorem clearTrimLimit_elsewhere (h : HeadId) (s : State) : (clearTrimLimit h s).elsewhere h = s.elsewhere h := by simp [clearTrimLimit]
@[simp] theorem raiseCalDone_elsewhere (o : CalOutcome) (k : Option Nat) (h : HeadId) (s : State) :
    (raiseCalDone o k h s).elsewhere h = s.elsewhere h := by simp [raiseCalDone]
@[simp] theorem raiseAngleFault_elsewhere (h : HeadId) (s : State) : (raiseAngleFault s).elsewhere h = s.elsewhere h := by simp [raiseAngleFault]
@[simp] theorem raiseReverse_elsewhere (h : HeadId) (s : State) : (raiseReverse s).elsewhere h = s.elsewhere h := by simp [raiseReverse]
@[simp] theorem raiseVerdictLoss_elsewhere (h : HeadId) (s : State) : (raiseVerdictLoss s).elsewhere h = s.elsewhere h := by simp [raiseVerdictLoss]
@[simp] theorem countFault_elsewhere (h : HeadId) (s : State) : (countFault h s).elsewhere h = s.elsewhere h := by
  unfold countFault; split <;> simp
@[simp] theorem takeK_elsewhere (k : Nat) (h : HeadId) (s : State) : (takeK k h s).elsewhere h = s.elsewhere h := by simp [takeK]
@[simp] theorem writeK_elsewhere (k : Nat) (h : HeadId) (s : State) : (writeK k h s).elsewhere h = s.elsewhere h := by
  unfold writeK; split <;> simp
@[simp] theorem switchOff_elsewhere (p : Pilot) (h : HeadId) (s : State) : (switchOff p h s).elsewhere h = s.elsewhere h := by simp [switchOff]
@[simp] theorem release_elsewhere (p : Pilot) (h : HeadId) (s : State) : (release p h s).elsewhere h = s.elsewhere h := by
  unfold release; split
  · simp
  · split
    · rfl
    · split <;> simp

/-! ## Fill sequence -/

@[simp] theorem learn_elsewhere (h : HeadId) (s : State) : (learn h s).elsewhere h = s.elsewhere h := by
  unfold learn; split
  · split
    · split <;> simp
    · rfl
  · rfl
@[simp] theorem reportDoseEnd_elsewhere (h : HeadId) (s : State) : (reportDoseEnd h s).elsewhere h = s.elsewhere h := by
  unfold reportDoseEnd; split
  · rfl
  · split
    · simp
    · split <;> simp
@[simp] theorem doseEnd_elsewhere (h : HeadId) (s : State) : (doseEnd h s).elsewhere h = s.elsewhere h := by simp [doseEnd]
@[simp] theorem closeIfMetered_elsewhere (h : HeadId) (s : State) : (closeIfMetered h s).elsewhere h = s.elsewhere h := by
  unfold closeIfMetered; split <;> simp
@[simp] theorem enterSettle_elsewhere (w : Settle) (h : HeadId) (s : State) : (enterSettle w h s).elsewhere h = s.elsewhere h := by simp [enterSettle]
@[simp] theorem releaseFill_elsewhere (h : HeadId) (s : State) : (releaseFill h s).elsewhere h = s.elsewhere h := by simp [releaseFill]
@[simp] theorem forceToSettle_elsewhere (r : Reason) (h : HeadId) (s : State) : (forceToSettle r h s).elsewhere h = s.elsewhere h := by
  unfold forceToSettle; split <;> simp
@[simp] theorem forceToSnift_elsewhere (r : Reason) (h : HeadId) (s : State) : (forceToSnift r h s).elsewhere h = s.elsewhere h := by
  unfold forceToSnift; split <;> simp
@[simp] theorem equipmentEnding_elsewhere (d : EquipmentDetail) (r : Reason) (h : HeadId) (s : State) :
    (equipmentEnding d r h s).elsewhere h = s.elsewhere h := by simp [equipmentEnding]
@[simp] theorem pulseTimers_elsewhere (h : HeadId) (s : State) : (pulseTimers h s).elsewhere h = s.elsewhere h := by
  unfold pulseTimers; split <;> first | rfl | simp | (split <;> simp)
@[simp] theorem closeCrossing_elsewhere (h : HeadId) (s : State) : (closeCrossing h s).elsewhere h = s.elsewhere h := by simp [closeCrossing]
@[simp] theorem takeDoseCrossing_elsewhere (c : DoseCrossing) (h : HeadId) (s : State) : (takeDoseCrossing c h s).elsewhere h = s.elsewhere h := by
  unfold takeDoseCrossing; split <;> simp
@[simp] theorem countPulse_elsewhere (tk : Ticket) (h : HeadId) (s : State) : (countPulse tk h s).elsewhere h = s.elsewhere h := by simp [countPulse]
@[simp] theorem countGlitch_elsewhere (h : HeadId) (s : State) : (countGlitch h s).elsewhere h = s.elsewhere h := by simp [countGlitch]
@[simp] theorem strayPulse_elsewhere (h : HeadId) (s : State) : (strayPulse h s).elsewhere h = s.elsewhere h := by simp [strayPulse]
@[simp] theorem enterTopUp_elsewhere (h : HeadId) (s : State) : (enterTopUp h s).elsewhere h = s.elsewhere h := by simp [enterTopUp]
@[simp] theorem flowStill_elsewhere (h : HeadId) (s : State) : (flowStill h s).elsewhere h = s.elsewhere h := by
  unfold flowStill; split
  · simp only; split <;> simp
  · simp
  · rfl
@[simp] theorem sniftDone_elsewhere (h : HeadId) (s : State) : (sniftDone h s).elsewhere h = s.elsewhere h := by
  unfold sniftDone; split <;> simp
@[simp] theorem gasGrant_elsewhere (h : HeadId) (s : State) : (gasGrant h s).elsewhere h = s.elsewhere h := by
  unfold gasGrant; simp only; split <;> simp
@[simp] theorem takeGrant_elsewhere (k : OpenKind) (h : HeadId) (s : State) : (takeGrant k h s).elsewhere h = s.elsewhere h := by
  unfold takeGrant; split <;> simp
@[simp] theorem equalize_elsewhere (h : HeadId) (s : State) : (equalize h s).elsewhere h = s.elsewhere h := by
  unfold equalize; simp only; split <;> simp
@[simp] theorem seat_elsewhere (h : HeadId) (s : State) : (seat h s).elsewhere h = s.elsewhere h := by
  unfold seat; split
  · simp
  · rfl
@[simp] theorem infeedCrossing_elsewhere (h : HeadId) (s : State) : (infeedCrossing h s).elsewhere h = s.elsewhere h := by
  unfold infeedCrossing; simp only; split
  · split <;> simp
  · rfl
@[simp] theorem gasCrossing_elsewhere (h : HeadId) (s : State) : (gasCrossing h s).elsewhere h = s.elsewhere h := by
  unfold gasCrossing; split <;> simp
@[simp] theorem fillCrossing_elsewhere (h : HeadId) (s : State) : (fillCrossing h s).elsewhere h = s.elsewhere h := by
  unfold fillCrossing; split <;> first | rfl | (simp; done) | (simp only; split <;> simp)
@[simp] theorem closeByCrossing_elsewhere (h : HeadId) (s : State) : (closeByCrossing h s).elsewhere h = s.elsewhere h := by
  unfold closeByCrossing; simp only; split <;> simp
@[simp] theorem sniftByCrossing_elsewhere (h : HeadId) (s : State) : (sniftByCrossing h s).elsewhere h = s.elsewhere h := by
  unfold sniftByCrossing; split <;> simp
@[simp] theorem reportPosition_elsewhere (h : HeadId) (c r : Bool) (s : State) : (reportPosition c r s).elsewhere h = s.elsewhere h := rfl
@[simp] theorem displaceIfFull_elsewhere (h : HeadId) (s : State) : (displaceIfFull s).elsewhere h = s.elsewhere h := by
  unfold displaceIfFull; split <;> simp
@[simp] theorem moveToTransit_elsewhere (tk : Ticket) (h : HeadId) (s : State) : (moveToTransit tk h s).elsewhere h = s.elsewhere h := by
  simp [moveToTransit]
@[simp] theorem handOver_elsewhere (h : HeadId) (s : State) : (handOver h s).elsewhere h = s.elsewhere h := by
  unfold handOver; split <;> simp
@[simp] theorem dischargeSnift_elsewhere (h : HeadId) (s : State) : (dischargeSnift h s).elsewhere h = s.elsewhere h := by
  unfold dischargeSnift; simp only; split <;> split <;> simp
@[simp] theorem dischargeCrossing_elsewhere (h : HeadId) (s : State) : (dischargeCrossing h s).elsewhere h = s.elsewhere h := by
  unfold dischargeCrossing; split <;> simp
@[simp] theorem commitPresence_elsewhere (h : HeadId) (s : State) : (commitPresence h s).elsewhere h = s.elsewhere h := by
  unfold commitPresence; split <;> simp
@[simp] theorem commitStray_elsewhere (h : HeadId) (s : State) : (commitStray h s).elsewhere h = s.elsewhere h := by
  unfold commitStray; simp only [modRecord_elsewhere]; split <;> simp
@[simp] theorem commitK_elsewhere (h : HeadId) (s : State) : (commitK h s).elsewhere h = s.elsewhere h := by unfold commitK; split <;> simp
@[simp] theorem commitPending_elsewhere (h : HeadId) (s : State) : (commitPending h s).elsewhere h = s.elsewhere h := by simp [commitPending]
@[simp] theorem moveCounts_elsewhere (h : HeadId) (n : SlotId) (s : State) : (moveCounts h n s).elsewhere h = s.elsewhere h := by
  unfold moveCounts; simp only; split
  · rfl
  · simp only [modRecord_elsewhere, modSlot_elsewhere]; split <;> simp
@[simp] theorem commitSlot_elsewhere (h : HeadId) (s : State) : (commitSlot h s).elsewhere h = s.elsewhere h := by
  unfold commitSlot; split <;> simp
@[simp] theorem commitAdopt_elsewhere (h : HeadId) (s : State) : (commitAdopt h s).elsewhere h = s.elsewhere h := by
  unfold commitAdopt; simp only; split
  · rfl
  · split
    · rfl
    · split <;> simp
@[simp] theorem commitService_elsewhere (h : HeadId) (s : State) : (commitService h s).elsewhere h = s.elsewhere h := by
  unfold commitService; split <;> simp
@[simp] theorem commitCrossing_elsewhere (h : HeadId) (s : State) : (commitCrossing h s).elsewhere h = s.elsewhere h := by simp [commitCrossing]
@[simp] theorem deliver_elsewhere (z : Zone) (h : HeadId) (s : State) : (deliver z h s).elsewhere h = s.elsewhere h := by
  unfold deliver; split <;> simp
@[simp] theorem crossHead_elsewhere (h : HeadId) (s : State) : (crossHead h s).elsewhere h = s.elsewhere h := by
  unfold crossHead; split <;> simp

end Sys2Proof.Machine
end

