-- ==== Sys2Proof/Laws/Heads.lean ====
section
/-! SUPPORT. A head replaced twice, replaced by itself, or read back; a head's queued open and its pilots after a withdrawal, an open, a release;
when a pilot's dwell is over. -/

namespace Sys2Proof.Machine

/-! ## Replacing a head -/

theorem head_setHead_self (h : HeadId) (x : Head) (s : State) : (setHead h x s).head h = x := by simp [head_setHead]

theorem head_setHead_ne {h j : HeadId} (e : j ≠ h) (x : Head) (s : State) : (setHead h x s).head j = s.head j := by
  simp [head_setHead, e]

theorem setHead_setHead (h : HeadId) (x y : Head) (s : State) : setHead h x (setHead h y s) = setHead h x s := by simp [setHead]

theorem modHead_setHead (h : HeadId) (f : Head → Head) (y : Head) (s : State) :
    modHead h f (setHead h y s) = setHead h (f y) s := by
  simp only [modHead, head_setHead_self, setHead_setHead]

theorem setHead_same (h : HeadId) (s : State) : setHead h (s.head h) s = s := by simp [setHead, State.head]

/-- Two states that agree in everything but the heads, and in every head, are equal. -/
theorem eq_of_heads {s t : State} (h1 : ∀ j, s.head j = t.head j) (h2 : { s with heads := t.heads } = t) : s = t := by
  rw [← h2, ← heads_ext h1]

/-! ## The queued open of a head -/

theorem find_insertEntry_self (e : Entry) : ∀ q : List Entry, (insertEntry e q).find? (fun x => decide (x.head = e.head)) = some e
  | [] => by simp [insertEntry]
  | x :: rest => by
    unfold insertEntry
    split
    · simp
    · split
      · simp
      · rename_i h1 h2
        have : x.head ≠ e.head := fun c => h2 (by rw [c])
        simp [this, find_insertEntry_self e rest]

theorem find_insertEntry_ne {e : Entry} {j : HeadId} (ne : j ≠ e.head) :
    ∀ q : List Entry, (insertEntry e q).find? (fun x => decide (x.head = j)) = q.find? (fun x => decide (x.head = j))
  | [] => by simp [insertEntry, Ne.symm ne]
  | x :: rest => by
    unfold insertEntry
    split
    · simp [Ne.symm ne]
    · split
      · rename_i h1 h2
        have : x.head = e.head := Fin.ext h2.symm
        simp [this, Ne.symm ne]
      · simp [List.find?_cons, find_insertEntry_ne ne rest]

theorem entryOf_queueOpen (k : OpenKind) (h j : HeadId) (s : State) :
    (queueOpen k h s).entryOf j = if j = h then some { head := h, kind := k, step := s.tracker.stepCount } else s.entryOf j := by
  by_cases e : j = h
  · subst e; simpa [queueOpen, State.entryOf] using find_insertEntry_self { head := j, kind := k, step := s.tracker.stepCount } s.pilotQueue
  · simpa [queueOpen, State.entryOf, e] using
      find_insertEntry_ne (e := { head := h, kind := k, step := s.tracker.stepCount }) e s.pilotQueue

theorem entryOf_withdraw (h j : HeadId) (s : State) :
    (withdraw h s).entryOf j = if j = h then none else s.entryOf j := by
  by_cases e : j = h
  · subst e; simp [withdraw, State.entryOf, List.find?_eq_none]
  · simp only [withdraw, State.entryOf, putQueue_pilotQueue, e, if_false]
    rw [List.find?_filter]
    congr 1
    funext x
    by_cases c : x.head = j <;> simp [c, e]

/-! ## A release -/

/-- A release of an energised pilot turns it off now and leaves the head's other pilots. -/
theorem get_release_on {p : Pilot} {h : HeadId} {s : State} (on : s.energised h p = true) (q : Pilot) :
    ((release p h s).head h).pilots.get q = if q = p then ((s.head h).pilots.get p).turnOff s.now else (s.head h).pilots.get q := by
  simp only [release, on, if_true, switchOff, dropFromBoosts, head_putBoosts, modPilots, head_modHead_self]
  cases p <;> cases q <;> rfl

/-- A release of a pilot that is off leaves every head. -/
theorem head_release_off {p : Pilot} {h : HeadId} {s : State} (off : s.energised h p = false) (j : HeadId) :
    (release p h s).head j = s.head j := by
  simp only [release, off]
  split
  · rename_i c; cases c
  · split
    · rfl
    · split <;> rfl

/-- A release leaves the heads it does not name. -/
theorem head_release_ne {p : Pilot} {h j : HeadId} (ne : j ≠ h) (s : State) : (release p h s).head j = s.head j := by
  cases on : s.energised h p
  · exact head_release_off on j
  · simp only [release, on, if_true, switchOff, dropFromBoosts, head_putBoosts, modPilots, head_modHead_ne ne]

/-! ## The end of a dwell -/

theorem dwellOver_never {s : State} {h : HeadId} {p : Pilot} (e : ((s.head h).pilots.get p).released = none) : s.dwellOver h p = true := by
  simp [State.dwellOver, e]

/-- Before its end a dwell is not over, after it it is, and at its end it is once the dwell end has been taken. -/
theorem dwellOver_iff {s : State} {h : HeadId} {p : Pilot} {r : Time} (e : ((s.head h).pilots.get p).released = some r) :
    s.dwellOver h p = true ↔ s.tracker.line.dwellEnd r < s.now ∨
      s.tracker.line.dwellEnd r = s.now ∧ ((s.head h).pilots.get p).dwellTaken = some (s.tracker.line.dwellEnd r) := by
  simp [State.dwellOver, e]

end Sys2Proof.Machine
end

