-- ==== Sys2Proof/Laws/Judged.lean ====
section
/-! SUPPORT. The attention line under every operation: either nothing it depends on changes, or it is judged again (R182). -/

namespace Sys2Proof.Machine

/-- What the attention line depends on, and the line. -/
def State.attn (s : State) : Globals × Byte × Bool × (HeadId → Causes) :=
  (s.globals, s.masks, s.attentionLine, fun j => (s.head j).causes)

theorem attn_of {s t : State} (h1 : t.globals = s.globals) (h2 : t.masks = s.masks) (h3 : t.attentionLine = s.attentionLine)
    (h4 : ∀ j, (t.head j).causes = (s.head j).causes) : t.attn = s.attn := by
  have : (fun j => (t.head j).causes) = fun j => (s.head j).causes := funext h4
  simp [State.attn, h1, h2, h3, this]

/-- The line is due exactly when a pending global or per-head kind has its mask bit open (R182). -/
theorem lineDue_iff (s : State) : s.lineDue = true ↔
    s.globals.kindSet &&& s.masks ≠ 0#8 ∨ ∃ j : HeadId, (s.head j).causes.kindSet &&& s.masks ≠ 0#8 := by
  simp only [State.lineDue, Bool.or_eq_true, decide_eq_true_eq, List.any_eq_true]
  apply or_congr Iff.rfl
  constructor
  · rintro ⟨x, hx, hk⟩
    rw [Vector.mem_toList_iff] at hx
    obtain ⟨i, hi, rfl⟩ := Vector.mem_iff_getElem.mp hx
    exact ⟨⟨i, hi⟩, hk⟩
  · rintro ⟨j, hk⟩
    exact ⟨s.head j, by rw [Vector.mem_toList_iff]; exact Vector.getElem_mem _, hk⟩

theorem lineDue_congr {s t : State} (e : t.attn = s.attn) : t.lineDue = s.lineDue := by
  have h1 : t.globals = s.globals := congrArg (·.1) e
  have h2 : t.masks = s.masks := congrArg (·.2.1) e
  have h4 : ∀ j, (t.head j).causes = (s.head j).causes := fun j => congrFun (congrArg (·.2.2.2) e) j
  rw [Bool.eq_iff_iff, lineDue_iff, lineDue_iff]
  simp only [h1, h2, h4]

theorem judged_congr {s t : State} (e : t.attn = s.attn) : LineJudged t ↔ LineJudged s := by
  have h3 : t.attentionLine = s.attentionLine := congrArg (·.2.2.1) e
  simp [LineJudged, h3, lineDue_congr e]

theorem judged_of_attn {s t : State} (e : t.attn = s.attn) (hs : LineJudged s) : LineJudged t := (judged_congr e).mpr hs

/-- Judging the line makes it judged. -/
theorem judgeLine_judged (s : State) : LineJudged (judgeLine s) := by
  show s.lineDue = (judgeLine s).lineDue
  rw [Bool.eq_iff_iff, lineDue_iff, lineDue_iff]; rfl

@[simp] theorem modHead_attn (h : HeadId) (f : Head → Head) (hf : ∀ x, (f x).causes = x.causes) (s : State) :
    (modHead h f s).attn = s.attn :=
  attn_of rfl rfl rfl fun j => by
    rw [head_modHead]; split
    · rename_i e; rw [hf, e]
    · rfl
@[simp] theorem mapHeads_attn (f : Head → Head) (hf : ∀ x, (f x).causes = x.causes) (s : State) : (mapHeads f s).attn = s.attn :=
  attn_of rfl rfl rfl fun j => by rw [head_mapHeads, hf]
@[simp] theorem modRecord_attn (h : HeadId) (f : HeadRecord → HeadRecord) (s : State) : (modRecord h f s).attn = s.attn := by
  simp [modRecord]
@[simp] theorem modSeq_attn (h : HeadId) (f : Sequencer → Sequencer) (s : State) : (modSeq h f s).attn = s.attn := by
  simp [modSeq]
@[simp] theorem modPilots_attn (h : HeadId) (f : Pilots → Pilots) (s : State) : (modPilots h f s).attn = s.attn := by
  simp [modPilots]
@[simp] theorem modTicket_attn (h : HeadId) (f : Ticket → Ticket) (s : State) : (modTicket h f s).attn = s.attn := by
  simp [modTicket]
@[simp] theorem modSlot_attn (n : SlotId) (f : Slot → Slot) (s : State) : (modSlot n f s).attn = s.attn := rfl
@[simp] theorem putTransit_attn (l : List Ticket) (s : State) : (putTransit l s).attn = s.attn := rfl
@[simp] theorem putTagCounter_attn (tag : Tag) (s : State) : (putTagCounter tag s).attn = s.attn := rfl
@[simp] theorem putLines_attn (l : DischargeLines) (s : State) : (putLines l s).attn = s.attn := rfl
@[simp] theorem putQueue_attn (q : List Entry) (s : State) : (putQueue q s).attn = s.attn := rfl
@[simp] theorem putBoosts_attn (b : Vector (Option Grant) 6) (s : State) : (putBoosts b s).attn = s.attn := rfl

/-! ## Operations that touch no cause -/

@[simp] theorem startTimer_attn (n : TimerName) (h : HeadId) (s : State) : (startTimer n h s).attn = s.attn := by
  unfold startTimer; split <;> simp
@[simp] theorem stopTimer_attn (n : TimerName) (h : HeadId) (s : State) : (stopTimer n h s).attn = s.attn := by simp [stopTimer]
@[simp] theorem stopTimers_attn (h : HeadId) (s : State) : (stopTimers h s).attn = s.attn := by simp [stopTimers]
@[simp] theorem enterPhase_attn (p : Phase) (h : HeadId) (s : State) : (enterPhase p h s).attn = s.attn := by simp [enterPhase]
@[simp] theorem alignHead_attn (h : HeadId) (s : State) : (alignHead h s).attn = s.attn := by
  unfold alignHead; split <;> [rfl; (split <;> simp)]
@[simp] theorem alignOut_attn (n : SlotId) (rev : Revision) (s : State) : (alignOut n rev s).attn = s.attn :=
  mapHeads_attn _ (fun x => by split <;> rfl) s
@[simp] theorem membersUseCurrent_attn (n : SlotId) (s : State) : (membersUseCurrent n s).attn = s.attn :=
  mapHeads_attn _ (fun x => by split <;> rfl) s
@[simp] theorem promote_attn (n : SlotId) (s : State) : (promote n s).attn = s.attn := by unfold promote; split <;> simp
@[simp] theorem promoteIfDone_attn (n : SlotId) (s : State) : (promoteIfDone n s).attn = s.attn := by
  unfold promoteIfDone; split <;> simp
@[simp] theorem leaveCounts_attn (n : SlotId) (b : Bool) (s : State) : (leaveCounts n b s).attn = s.attn := by simp [leaveCounts]
@[simp] theorem becomeOut_attn (h : HeadId) (s : State) : (becomeOut h s).attn = s.attn := by
  unfold becomeOut; simp only; split <;> simp
@[simp] theorem becomeJoining_attn (h : HeadId) (s : State) : (becomeJoining h s).attn = s.attn := by
  unfold becomeJoining; simp only; split <;> simp
@[simp] theorem takeOut_attn (h : HeadId) (s : State) : (takeOut h s).attn = s.attn := by
  unfold takeOut; split <;> first | rfl | simp | (split <;> simp)
@[simp] theorem bringIn_attn (h : HeadId) (s : State) : (bringIn h s).attn = s.attn := by unfold bringIn; split <;> simp
@[simp] theorem withdraw_attn (h : HeadId) (s : State) : (withdraw h s).attn = s.attn := by simp [withdraw]
@[simp] theorem queueOpen_attn (k : OpenKind) (h : HeadId) (s : State) : (queueOpen k h s).attn = s.attn := by simp [queueOpen]
@[simp] theorem dropFromBoosts_attn (h : HeadId) (p : Pilot) (s : State) : (dropFromBoosts h p s).attn = s.attn := by simp [dropFromBoosts]
@[simp] theorem switchOff_attn (p : Pilot) (h : HeadId) (s : State) : (switchOff p h s).attn = s.attn := by simp [switchOff]
@[simp] theorem release_attn (p : Pilot) (h : HeadId) (s : State) : (release p h s).attn = s.attn := by
  unfold release; split
  · simp
  · split
    · rfl
    · split <;> simp
@[simp] theorem learn_attn (h : HeadId) (s : State) : (learn h s).attn = s.attn := by
  unfold learn; split
  · split
    · split <;> simp
    · rfl
  · rfl
@[simp] theorem closeIfMetered_attn (h : HeadId) (s : State) : (closeIfMetered h s).attn = s.attn := by
  unfold closeIfMetered; split <;> simp
@[simp] theorem enterSettle_attn (w : Settle) (h : HeadId) (s : State) : (enterSettle w h s).attn = s.attn := by simp [enterSettle]
@[simp] theorem releaseFill_attn (h : HeadId) (s : State) : (releaseFill h s).attn = s.attn := by simp [releaseFill]
@[simp] theorem forceToSettle_attn (r : Reason) (h : HeadId) (s : State) : (forceToSettle r h s).attn = s.attn := by
  unfold forceToSettle; split <;> simp
@[simp] theorem pulseTimers_attn (h : HeadId) (s : State) : (pulseTimers h s).attn = s.attn := by
  unfold pulseTimers; split <;> first | rfl | simp | (split <;> simp)
@[simp] theorem closeCrossing_attn (h : HeadId) (s : State) : (closeCrossing h s).attn = s.attn := by simp [closeCrossing]
@[simp] theorem takeDoseCrossing_attn (c : DoseCrossing) (h : HeadId) (s : State) : (takeDoseCrossing c h s).attn = s.attn := by
  unfold takeDoseCrossing; split <;> simp
@[simp] theorem countPulse_attn (tk : Ticket) (h : HeadId) (s : State) : (countPulse tk h s).attn = s.attn := by simp [countPulse]
@[simp] theorem countGlitch_attn (h : HeadId) (s : State) : (countGlitch h s).attn = s.attn := by simp [countGlitch]
@[simp] theorem strayPulse_attn (h : HeadId) (s : State) : (strayPulse h s).attn = s.attn := by simp [strayPulse]
@[simp] theorem enterTopUp_attn (h : HeadId) (s : State) : (enterTopUp h s).attn = s.attn := by simp [enterTopUp]
@[simp] theorem sniftDone_attn (h : HeadId) (s : State) : (sniftDone h s).attn = s.attn := by
  unfold sniftDone; split <;> simp
@[simp] theorem equalize_attn (h : HeadId) (s : State) : (equalize h s).attn = s.attn := by
  unfold equalize; simp only; split <;> simp
@[simp] theorem seat_attn (h : HeadId) (s : State) : (seat h s).attn = s.attn := by unfold seat; split <;> simp
@[simp] theorem gasCrossing_attn (h : HeadId) (s : State) : (gasCrossing h s).attn = s.attn := by
  unfold gasCrossing; split <;> simp
@[simp] theorem fillCrossing_attn (h : HeadId) (s : State) : (fillCrossing h s).attn = s.attn := by
  unfold fillCrossing; split <;> first | rfl | (simp; done) | (simp only; split <;> simp)
@[simp] theorem reportPosition_attn (c r : Bool) (s : State) : (reportPosition c r s).attn = s.attn := by simp [reportPosition]
@[simp] theorem commitPresence_attn (h : HeadId) (s : State) : (commitPresence h s).attn = s.attn := by
  unfold commitPresence; split <;> simp
@[simp] theorem commitPending_attn (h : HeadId) (s : State) : (commitPending h s).attn = s.attn := by simp [commitPending]
@[simp] theorem moveCounts_attn (h : HeadId) (n : SlotId) (s : State) : (moveCounts h n s).attn = s.attn := by
  unfold moveCounts; simp only; split
  · rfl
  · simp only [modRecord_attn, modSlot_attn]; split <;> simp
@[simp] theorem commitSlot_attn (h : HeadId) (s : State) : (commitSlot h s).attn = s.attn := by
  unfold commitSlot; split <;> simp
@[simp] theorem commitAdopt_attn (h : HeadId) (s : State) : (commitAdopt h s).attn = s.attn := by
  unfold commitAdopt; simp only; split
  · rfl
  · split
    · rfl
    · split <;> simp
@[simp] theorem commitService_attn (h : HeadId) (s : State) : (commitService h s).attn = s.attn := by
  unfold commitService; split <;> simp
@[simp] theorem energise_attn (ps : List Pilot) (h : HeadId) (s : State) : (energise ps h s).attn = s.attn := by simp [energise]
@[simp] theorem completeBoost_attn (i : BoostId) (g : Grant) (s : State) : (completeBoost i g s).attn = s.attn := by simp [completeBoost]
@[simp] theorem resetArbiter_attn (s : State) : (resetArbiter s).attn = s.attn := by simp [resetArbiter]
@[simp] theorem requeueSnift_attn (h : HeadId) (s : State) : (requeueSnift h s).attn = s.attn := by
  unfold requeueSnift; split <;> simp

/-! ## Operations that raise or clear causes -/

theorem changeCauses_judged (h : HeadId) (f : Causes → Causes) (s : State) : LineJudged (changeCauses h f s) := judgeLine_judged _
theorem changeGlobals_judged (f : Globals → Globals) (s : State) : LineJudged (changeGlobals f s) := judgeLine_judged _
theorem raiseEquipment_judged (d : EquipmentDetail) (h : HeadId) (s : State) : LineJudged (raiseEquipment d h s) :=
  judged_of_attn (takeOut_attn h _) (changeCauses_judged h (fun c => { c with equipment := some d }) s)
theorem raiseRepeatedFaults_judged (h : HeadId) (s : State) : LineJudged (raiseRepeatedFaults h s) :=
  judged_of_attn (takeOut_attn h _) (changeCauses_judged h (fun c => { c with intervention := some .repeatedFaults }) s)
theorem countFault_judged {h : HeadId} {s : State} (hs : LineJudged s) : LineJudged (countFault h s) := by
  unfold countFault; split
  · exact judged_of_attn (by simp) hs
  · exact raiseRepeatedFaults_judged _ _
theorem takeK_judged (k : Nat) (h : HeadId) (s : State) : LineJudged (takeK k h s) := changeCauses_judged _ _ _
theorem writeK_judged {k : Nat} {h : HeadId} {s : State} (hs : LineJudged s) : LineJudged (writeK k h s) := by
  unfold writeK; split
  · exact takeK_judged _ _ _
  · exact judged_of_attn (by simp) hs
theorem reportDoseEnd_judged {h : HeadId} {s : State} (hs : LineJudged s) : LineJudged (reportDoseEnd h s) := by
  unfold reportDoseEnd; split
  · exact hs
  · split
    · exact countFault_judged (changeCauses_judged _ _ _)
    · split
      · exact judged_of_attn (by simp) (changeCauses_judged h (fun c => { c with fillFault := none }) s)
      · exact hs
theorem doseEnd_judged {h : HeadId} {s : State} (hs : LineJudged s) : LineJudged (doseEnd h s) :=
  reportDoseEnd_judged (judged_of_attn (by simp) hs)
theorem forceToSnift_judged {r : Reason} {h : HeadId} {s : State} (hs : LineJudged s) : LineJudged (forceToSnift r h s) := by
  unfold forceToSnift; split
  · exact doseEnd_judged (judged_of_attn (by simp) hs)
  · exact hs
theorem equipmentEnding_judged (d : EquipmentDetail) (r : Reason) (h : HeadId) (s : State) : LineJudged (equipmentEnding d r h s) :=
  forceToSnift_judged (raiseEquipment_judged d h s)
theorem flowStill_judged {h : HeadId} {s : State} (hs : LineJudged s) : LineJudged (flowStill h s) := by
  unfold flowStill; split
  · simp only; split
    · exact judged_of_attn (by simp) hs
    · exact doseEnd_judged (judged_of_attn (by simp) hs)
  · exact doseEnd_judged hs
  · exact hs
theorem gasGrant_judged {h : HeadId} {s : State} (hs : LineJudged s) : LineJudged (gasGrant h s) := by
  unfold gasGrant; simp only; split
  · exact equipmentEnding_judged _ _ _ _
  · exact judged_of_attn (by simp) hs
theorem takeGrant_judged {k : OpenKind} {h : HeadId} {s : State} (hs : LineJudged s) : LineJudged (takeGrant k h s) := by
  unfold takeGrant; split
  · exact gasGrant_judged hs
  all_goals first | exact hs | exact judged_of_attn (by simp) hs
theorem infeedCrossing_judged {h : HeadId} {s : State} (hs : LineJudged s) : LineJudged (infeedCrossing h s) := by
  unfold infeedCrossing; simp only; split
  · split
    · exact judged_of_attn (by simp) hs
    · exact changeCauses_judged _ _ _
  · exact hs
theorem closeByCrossing_judged {h : HeadId} {s : State} (hs : LineJudged s) : LineJudged (closeByCrossing h s) := by
  unfold closeByCrossing; simp only; split
  all_goals first | exact hs | exact forceToSnift_judged (judged_of_attn (by simp) hs) | exact judged_of_attn (by simp) hs
theorem sniftByCrossing_judged {h : HeadId} {s : State} (hs : LineJudged s) : LineJudged (sniftByCrossing h s) := by
  unfold sniftByCrossing; split
  all_goals first | exact hs | exact forceToSnift_judged hs | exact doseEnd_judged (judged_of_attn (by simp) hs)
theorem displaceIfFull_judged {s : State} (hs : LineJudged s) : LineJudged (displaceIfFull s) := by
  unfold displaceIfFull; split
  · exact hs
  · exact changeGlobals_judged _ _
theorem moveToTransit_judged {tk : Ticket} {h : HeadId} {s : State} (hs : LineJudged s) : LineJudged (moveToTransit tk h s) :=
  judged_of_attn (by simp [moveToTransit]) (displaceIfFull_judged hs)
theorem handOver_judged {h : HeadId} {s : State} (hs : LineJudged s) : LineJudged (handOver h s) := by
  unfold handOver; split
  · exact judged_of_attn (by simp) hs
  · exact judged_of_attn (reportPosition_attn _ _ _) (moveToTransit_judged hs)
theorem dischargeSnift_judged (h : HeadId) (s : State) : LineJudged (dischargeSnift h s) := by
  have := handOver_judged (h := h) (changeCauses_judged h (fun c => { c with fillFault := some .sniftShort })
    (modTicket h Ticket.cutShort (stopTimer .snift h (release .snift h s))))
  have key : ∀ b : Bool, ∀ t : State, LineJudged t → LineJudged (if b = true then t else countFault h t) := by
    intro b t ht; cases b
    · exact countFault_judged ht
    · exact ht
  exact key _ _ this
theorem dischargeCrossing_judged {h : HeadId} {s : State} (hs : LineJudged s) : LineJudged (dischargeCrossing h s) := by
  unfold dischargeCrossing; split
  all_goals first | exact dischargeSnift_judged _ _ | exact handOver_judged hs | exact judged_of_attn (by simp) hs
theorem commitStray_judged {h : HeadId} {s : State} (hs : LineJudged s) : LineJudged (commitStray h s) := by
  unfold commitStray; simp only; split
  · exact judged_of_attn (by simp) (raiseEquipment_judged .strayFlow h s)
  · exact judged_of_attn (by simp) hs
theorem commitK_judged {h : HeadId} {s : State} (hs : LineJudged s) : LineJudged (commitK h s) := by
  unfold commitK; split
  · exact hs
  · exact takeK_judged _ _ _
theorem commitCrossing_judged {h : HeadId} {s : State} (hs : LineJudged s) : LineJudged (commitCrossing h s) :=
  judged_of_attn ((commitService_attn h _).trans ((commitAdopt_attn h _).trans ((commitSlot_attn h _).trans (commitPending_attn h _))))
    (commitK_judged (commitStray_judged (judged_of_attn (commitPresence_attn h s) hs)))
theorem deliver_judged {z : Zone} {h : HeadId} {s : State} (hs : LineJudged s) : LineJudged (deliver z h s) := by
  unfold deliver; split
  · exact infeedCrossing_judged hs
  · exact judged_of_attn (by simp) hs
  · exact judged_of_attn (by simp) hs
  · exact closeByCrossing_judged hs
  · exact sniftByCrossing_judged hs
  · exact dischargeCrossing_judged hs
  · exact commitCrossing_judged hs
theorem crossHead_judged {h : HeadId} {s : State} (hs : LineJudged s) : LineJudged (crossHead h s) := by
  unfold crossHead; split
  · exact hs
  · exact deliver_judged hs

/-! ## Events of many heads, grants -/

/-- What each head's part of an event keeps, the event keeps. -/
theorem forInstalled_keeps {P : State → Prop} {f : HeadId → State → State} (hf : ∀ h s, P s → P (f h s)) {s : State} (hs : P s) :
    P (forInstalled f s) := by
  unfold forInstalled
  generalize s.installed = l
  induction l generalizing s with
  | nil => exact hs
  | cons a l ih => exact ih (hf a s hs)

/-- What each grant keeps, the arbiter's round of grants keeps. -/
theorem grants_keeps {P : State → Prop}
    (hg : ∀ i e s, s.freeBoost = some i → s.firstEligible = some e → P s → P (grant i e s)) :
    ∀ (n : Nat) {s : State}, P s → P (grants n s)
  | 0, _, hs => hs
  | n + 1, s, hs => by
    unfold grants; split
    · rename_i i e hi he
      exact grants_keeps hg n (hg i e s hi he hs)
    · exact hs
theorem arbitrate_keeps {P : State → Prop}
    (hg : ∀ i e s, s.freeBoost = some i → s.firstEligible = some e → P s → P (grant i e s)) {s : State} (hs : P s) :
    P (arbitrate s) := grants_keeps hg 6 hs

theorem grant_judged {i : BoostId} {e : Entry} {s : State} (hs : LineJudged s) : LineJudged (grant i e s) :=
  takeGrant_judged (judged_of_attn (by simp) hs)
theorem arbitrate_judged {s : State} (hs : LineJudged s) : LineJudged (arbitrate s) :=
  arbitrate_keeps (P := LineJudged) (fun _ _ _ _ _ h => grant_judged h) hs
theorem takeDwellEnd_judged {due : Time} {h : HeadId} {p : Pilot} {s : State} (hs : LineJudged s) : LineJudged (takeDwellEnd due h p s) :=
  arbitrate_judged (judged_of_attn (by simp) hs)

end Sys2Proof.Machine
end

