-- ==== Sys2Proof/Laws/Outer.lean ====
section
/-! SUPPORT. The outer part of the state (clock, encoder, tracker, hold, divider, masks, link, answers, waiting commands) under every
operation of the heads' work: none writes it. -/

namespace Sys2Proof.Machine

@[simp] theorem setHead_outer (h : HeadId) (x : Head) (s : State) : (setHead h x s).outer = s.outer := rfl
@[simp] theorem modHead_outer (h : HeadId) (f : Head → Head) (s : State) : (modHead h f s).outer = s.outer := rfl
@[simp] theorem modRecord_outer (h : HeadId) (f : HeadRecord → HeadRecord) (s : State) : (modRecord h f s).outer = s.outer := rfl
@[simp] theorem modSeq_outer (h : HeadId) (f : Sequencer → Sequencer) (s : State) : (modSeq h f s).outer = s.outer := rfl
@[simp] theorem modCauses_outer (h : HeadId) (f : Causes → Causes) (s : State) : (modCauses h f s).outer = s.outer := rfl
@[simp] theorem modPilots_outer (h : HeadId) (f : Pilots → Pilots) (s : State) : (modPilots h f s).outer = s.outer := rfl
@[simp] theorem modTicket_outer (h : HeadId) (f : Ticket → Ticket) (s : State) : (modTicket h f s).outer = s.outer := rfl
@[simp] theorem mapHeads_outer (f : Head → Head) (s : State) : (mapHeads f s).outer = s.outer := rfl
@[simp] theorem modSlot_outer (n : SlotId) (f : Slot → Slot) (s : State) : (modSlot n f s).outer = s.outer := rfl
@[simp] theorem putTransit_outer (l : List Ticket) (s : State) : (putTransit l s).outer = s.outer := rfl
@[simp] theorem putTagCounter_outer (tag : Tag) (s : State) : (putTagCounter tag s).outer = s.outer := rfl
@[simp] theorem putLines_outer (l : DischargeLines) (s : State) : (putLines l s).outer = s.outer := rfl
@[simp] theorem putQueue_outer (q : List Entry) (s : State) : (putQueue q s).outer = s.outer := rfl
@[simp] theorem putBoosts_outer (b : Vector (Option Grant) 6) (s : State) : (putBoosts b s).outer = s.outer := rfl
@[simp] theorem judgeLine_outer (s : State) : (judgeLine s).outer = s.outer := rfl

/-- A record update of inner fields alone leaves the outer part. -/
theorem outer_of {s t : State} (h1 : t.now = s.now) (h2 : t.encoder = s.encoder) (h3 : t.tracker = s.tracker)
    (h4 : t.learningHold = s.learningHold) (h5 : t.divider = s.divider) (h6 : t.masks = s.masks) (h7 : t.link = s.link)
    (h8 : t.lastAnswer = s.lastAnswer) (h9 : t.freeReads = s.freeReads) (h10 : t.pending = s.pending) : t.outer = s.outer := by
  simp [State.outer, *]

theorem outer_now {s t : State} (h : t.outer = s.outer) : t.now = s.now := congrArg Outer.now h
theorem outer_encoder {s t : State} (h : t.outer = s.outer) : t.encoder = s.encoder := congrArg Outer.encoder h
theorem outer_tracker {s t : State} (h : t.outer = s.outer) : t.tracker = s.tracker := congrArg Outer.tracker h
theorem outer_hold {s t : State} (h : t.outer = s.outer) : t.learningHold = s.learningHold := congrArg Outer.learningHold h
theorem outer_divider {s t : State} (h : t.outer = s.outer) : t.divider = s.divider := congrArg Outer.divider h
theorem outer_masks {s t : State} (h : t.outer = s.outer) : t.masks = s.masks := congrArg Outer.masks h
theorem outer_link {s t : State} (h : t.outer = s.outer) : t.link = s.link := congrArg Outer.link h
theorem outer_pending {s t : State} (h : t.outer = s.outer) : t.pending = s.pending := congrArg Outer.pending h

/-- A fold keeps the outer part when each of its steps does. -/
theorem foldl_outer {α : Type} (f : α → State → State) (hf : ∀ a s, (f a s).outer = s.outer) :
    ∀ (l : List α) (s : State), (l.foldl (fun acc a => f a acc) s).outer = s.outer
  | [], _ => rfl
  | a :: l, s => (foldl_outer f hf l (f a s)).trans (hf a s)

theorem forInstalled_outer (f : HeadId → State → State) (hf : ∀ h s, (f h s).outer = s.outer) (s : State) :
    (forInstalled f s).outer = s.outer := foldl_outer f hf s.installed s

/-! ## Ops -/

@[simp] theorem startTimer_outer (n : TimerName) (h : HeadId) (s : State) : (startTimer n h s).outer = s.outer := by
  unfold startTimer; split <;> rfl
@[simp] theorem stopTimer_outer (n : TimerName) (h : HeadId) (s : State) : (stopTimer n h s).outer = s.outer := rfl
@[simp] theorem stopTimers_outer (h : HeadId) (s : State) : (stopTimers h s).outer = s.outer := rfl
@[simp] theorem enterPhase_outer (p : Phase) (h : HeadId) (s : State) : (enterPhase p h s).outer = s.outer := rfl
@[simp] theorem alignHead_outer (h : HeadId) (s : State) : (alignHead h s).outer = s.outer := by
  unfold alignHead; split <;> [rfl; (split <;> rfl)]
@[simp] theorem alignOut_outer (n : SlotId) (rev : Revision) (s : State) : (alignOut n rev s).outer = s.outer := rfl
@[simp] theorem membersUseCurrent_outer (n : SlotId) (s : State) : (membersUseCurrent n s).outer = s.outer := rfl
@[simp] theorem promote_outer (n : SlotId) (s : State) : (promote n s).outer = s.outer := by unfold promote; split <;> rfl
@[simp] theorem promoteIfDone_outer (n : SlotId) (s : State) : (promoteIfDone n s).outer = s.outer := by
  unfold promoteIfDone; split <;> simp
@[simp] theorem leaveCounts_outer (n : SlotId) (b : Bool) (s : State) : (leaveCounts n b s).outer = s.outer := by simp [leaveCounts]
@[simp] theorem becomeOut_outer (h : HeadId) (s : State) : (becomeOut h s).outer = s.outer := by
  unfold becomeOut; simp only; split <;> simp
@[simp] theorem becomeJoining_outer (h : HeadId) (s : State) : (becomeJoining h s).outer = s.outer := by
  unfold becomeJoining; simp only; split <;> simp
@[simp] theorem takeOut_outer (h : HeadId) (s : State) : (takeOut h s).outer = s.outer := by
  unfold takeOut; split <;> first | rfl | simp | (split <;> simp)
@[simp] theorem bringIn_outer (h : HeadId) (s : State) : (bringIn h s).outer = s.outer := by unfold bringIn; split <;> simp
@[simp] theorem changeCauses_outer (h : HeadId) (f : Causes → Causes) (s : State) : (changeCauses h f s).outer = s.outer := rfl
@[simp] theorem changeGlobals_outer (f : Globals → Globals) (s : State) : (changeGlobals f s).outer = s.outer := rfl
@[simp] theorem raiseEquipment_outer (d : EquipmentDetail) (h : HeadId) (s : State) : (raiseEquipment d h s).outer = s.outer := by
  simp [raiseEquipment]
@[simp] theorem raisePresenceStuck_outer (h : HeadId) (s : State) : (raisePresenceStuck h s).outer = s.outer := rfl
@[simp] theorem raiseRepeatedFaults_outer (h : HeadId) (s : State) : (raiseRepeatedFaults h s).outer = s.outer := by
  simp [raiseRepeatedFaults]
@[simp] theorem raiseFillFault_outer (r : Reason) (h : HeadId) (s : State) : (raiseFillFault r h s).outer = s.outer := rfl
@[simp] theorem raiseTrimLimit_outer (h : HeadId) (s : State) : (raiseTrimLimit h s).outer = s.outer := rfl
@[simp] theorem clearTrimLimit_outer (h : HeadId) (s : State) : (clearTrimLimit h s).outer = s.outer := rfl
@[simp] theorem raiseCalDone_outer (o : CalOutcome) (k : Option Nat) (h : HeadId) (s : State) :
    (raiseCalDone o k h s).outer = s.outer := rfl
@[simp] theorem raiseAngleFault_outer (s : State) : (raiseAngleFault s).outer = s.outer := rfl
@[simp] theorem raiseReverse_outer (s : State) : (raiseReverse s).outer = s.outer := rfl
@[simp] theorem raiseVerdictLoss_outer (s : State) : (raiseVerdictLoss s).outer = s.outer := rfl
@[simp] theorem countFault_outer (h : HeadId) (s : State) : (countFault h s).outer = s.outer := by
  unfold countFault; split <;> simp
@[simp] theorem takeK_outer (k : Nat) (h : HeadId) (s : State) : (takeK k h s).outer = s.outer := rfl
@[simp] theorem writeK_outer (k : Nat) (h : HeadId) (s : State) : (writeK k h s).outer = s.outer := by
  unfold writeK; split <;> simp
@[simp] theorem withdraw_outer (h : HeadId) (s : State) : (withdraw h s).outer = s.outer := rfl
@[simp] theorem queueOpen_outer (k : OpenKind) (h : HeadId) (s : State) : (queueOpen k h s).outer = s.outer := rfl
@[simp] theorem dropFromBoosts_outer (h : HeadId) (p : Pilot) (s : State) : (dropFromBoosts h p s).outer = s.outer := rfl
@[simp] theorem switchOff_outer (p : Pilot) (h : HeadId) (s : State) : (switchOff p h s).outer = s.outer := rfl
@[simp] theorem release_outer (p : Pilot) (h : HeadId) (s : State) : (release p h s).outer = s.outer := by
  unfold release; split
  · simp
  · split
    · rfl
    · split <;> simp

/-! ## Fill sequence -/

@[simp] theorem learn_outer (h : HeadId) (s : State) : (learn h s).outer = s.outer := by
  unfold learn; split
  · split
    · split <;> simp
    · rfl
  · rfl
@[simp] theorem reportDoseEnd_outer (h : HeadId) (s : State) : (reportDoseEnd h s).outer = s.outer := by
  unfold reportDoseEnd; split
  · rfl
  · split
    · simp
    · split <;> simp
@[simp] theorem doseEnd_outer (h : HeadId) (s : State) : (doseEnd h s).outer = s.outer := by simp [doseEnd]
@[simp] theorem closeIfMetered_outer (h : HeadId) (s : State) : (closeIfMetered h s).outer = s.outer := by
  unfold closeIfMetered; split <;> simp
@[simp] theorem enterSettle_outer (w : Settle) (h : HeadId) (s : State) : (enterSettle w h s).outer = s.outer := by simp [enterSettle]
@[simp] theorem releaseFill_outer (h : HeadId) (s : State) : (releaseFill h s).outer = s.outer := by simp [releaseFill]
@[simp] theorem forceToSettle_outer (r : Reason) (h : HeadId) (s : State) : (forceToSettle r h s).outer = s.outer := by
  unfold forceToSettle; split <;> simp
@[simp] theorem forceToSnift_outer (r : Reason) (h : HeadId) (s : State) : (forceToSnift r h s).outer = s.outer := by
  unfold forceToSnift; split <;> simp
@[simp] theorem equipmentEnding_outer (d : EquipmentDetail) (r : Reason) (h : HeadId) (s : State) :
    (equipmentEnding d r h s).outer = s.outer := by simp [equipmentEnding]
@[simp] theorem pulseTimers_outer (h : HeadId) (s : State) : (pulseTimers h s).outer = s.outer := by
  unfold pulseTimers; split <;> first | rfl | simp | (split <;> simp)
@[simp] theorem closeCrossing_outer (h : HeadId) (s : State) : (closeCrossing h s).outer = s.outer := by simp [closeCrossing]
@[simp] theorem takeDoseCrossing_outer (c : DoseCrossing) (h : HeadId) (s : State) : (takeDoseCrossing c h s).outer = s.outer := by
  unfold takeDoseCrossing; split <;> simp
@[simp] theorem countPulse_outer (tk : Ticket) (h : HeadId) (s : State) : (countPulse tk h s).outer = s.outer := by simp [countPulse]
@[simp] theorem countGlitch_outer (h : HeadId) (s : State) : (countGlitch h s).outer = s.outer := rfl
@[simp] theorem strayPulse_outer (h : HeadId) (s : State) : (strayPulse h s).outer = s.outer := rfl
@[simp] theorem enterTopUp_outer (h : HeadId) (s : State) : (enterTopUp h s).outer = s.outer := by simp [enterTopUp]
@[simp] theorem flowStill_outer (h : HeadId) (s : State) : (flowStill h s).outer = s.outer := by
  unfold flowStill; split
  · simp only; split <;> simp
  · simp
  · rfl
@[simp] theorem sniftDone_outer (h : HeadId) (s : State) : (sniftDone h s).outer = s.outer := by
  unfold sniftDone; split <;> simp
@[simp] theorem gasGrant_outer (h : HeadId) (s : State) : (gasGrant h s).outer = s.outer := by
  unfold gasGrant; simp only; split <;> simp
@[simp] theorem takeGrant_outer (k : OpenKind) (h : HeadId) (s : State) : (takeGrant k h s).outer = s.outer := by
  unfold takeGrant; split <;> simp
@[simp] theorem equalize_outer (h : HeadId) (s : State) : (equalize h s).outer = s.outer := by
  unfold equalize; simp only; split <;> simp
@[simp] theorem seat_outer (h : HeadId) (s : State) : (seat h s).outer = s.outer := by unfold seat; split <;> rfl
@[simp] theorem infeedCrossing_outer (h : HeadId) (s : State) : (infeedCrossing h s).outer = s.outer := by
  unfold infeedCrossing; simp only; split
  · split <;> simp
  · rfl
@[simp] theorem gasCrossing_outer (h : HeadId) (s : State) : (gasCrossing h s).outer = s.outer := by
  unfold gasCrossing; split <;> simp
@[simp] theorem fillCrossing_outer (h : HeadId) (s : State) : (fillCrossing h s).outer = s.outer := by
  unfold fillCrossing; split <;> first | rfl | (simp only; split <;> simp)
@[simp] theorem closeByCrossing_outer (h : HeadId) (s : State) : (closeByCrossing h s).outer = s.outer := by
  unfold closeByCrossing; simp only; split <;> simp
@[simp] theorem sniftByCrossing_outer (h : HeadId) (s : State) : (sniftByCrossing h s).outer = s.outer := by
  unfold sniftByCrossing; split <;> simp
@[simp] theorem reportPosition_outer (c r : Bool) (s : State) : (reportPosition c r s).outer = s.outer := rfl
@[simp] theorem displaceIfFull_outer (s : State) : (displaceIfFull s).outer = s.outer := by
  unfold displaceIfFull; split <;> rfl
@[simp] theorem moveToTransit_outer (tk : Ticket) (h : HeadId) (s : State) : (moveToTransit tk h s).outer = s.outer := by
  simp [moveToTransit]
@[simp] theorem handOver_outer (h : HeadId) (s : State) : (handOver h s).outer = s.outer := by
  unfold handOver; split <;> simp
@[simp] theorem dischargeSnift_outer (h : HeadId) (s : State) : (dischargeSnift h s).outer = s.outer := by
  unfold dischargeSnift; simp only; split <;> split <;> simp
@[simp] theorem dischargeCrossing_outer (h : HeadId) (s : State) : (dischargeCrossing h s).outer = s.outer := by
  unfold dischargeCrossing; split <;> simp
@[simp] theorem commitPresence_outer (h : HeadId) (s : State) : (commitPresence h s).outer = s.outer := by
  unfold commitPresence; split <;> simp
@[simp] theorem commitStray_outer (h : HeadId) (s : State) : (commitStray h s).outer = s.outer := by
  unfold commitStray; simp only [modRecord_outer]; split <;> simp
@[simp] theorem commitK_outer (h : HeadId) (s : State) : (commitK h s).outer = s.outer := by unfold commitK; split <;> simp
@[simp] theorem commitPending_outer (h : HeadId) (s : State) : (commitPending h s).outer = s.outer := rfl
@[simp] theorem moveCounts_outer (h : HeadId) (n : SlotId) (s : State) : (moveCounts h n s).outer = s.outer := by
  unfold moveCounts; simp only; split
  · rfl
  · simp only [modRecord_outer, modSlot_outer]; split <;> simp
@[simp] theorem commitSlot_outer (h : HeadId) (s : State) : (commitSlot h s).outer = s.outer := by
  unfold commitSlot; split <;> simp
@[simp] theorem commitAdopt_outer (h : HeadId) (s : State) : (commitAdopt h s).outer = s.outer := by
  unfold commitAdopt; simp only; split
  · rfl
  · split
    · rfl
    · split <;> simp
@[simp] theorem commitService_outer (h : HeadId) (s : State) : (commitService h s).outer = s.outer := by
  unfold commitService; split <;> simp
@[simp] theorem commitCrossing_outer (h : HeadId) (s : State) : (commitCrossing h s).outer = s.outer := by simp [commitCrossing]
@[simp] theorem deliver_outer (z : Zone) (h : HeadId) (s : State) : (deliver z h s).outer = s.outer := by
  unfold deliver; split <;> simp
@[simp] theorem crossHead_outer (h : HeadId) (s : State) : (crossHead h s).outer = s.outer := by
  unfold crossHead; split <;> simp

/-! ## Arbiter and tracker events -/

@[simp] theorem energise_outer (ps : List Pilot) (h : HeadId) (s : State) : (energise ps h s).outer = s.outer := rfl
@[simp] theorem grant_outer (i : BoostId) (e : Entry) (s : State) : (grant i e s).outer = s.outer := by
  simp only [grant, takeGrant_outer, withdraw_outer, energise_outer]; rfl
theorem grants_outer : ∀ (n : Nat) (s : State), (grants n s).outer = s.outer
  | 0, _ => rfl
  | n + 1, s => by
    unfold grants; split
    · rw [grants_outer n, grant_outer]
    · rfl
@[simp] theorem arbitrate_outer (s : State) : (arbitrate s).outer = s.outer := grants_outer 6 s
@[simp] theorem completeBoost_outer (i : BoostId) (g : Grant) (s : State) : (completeBoost i g s).outer = s.outer := rfl
@[simp] theorem resetArbiter_outer (s : State) : (resetArbiter s).outer = s.outer := rfl
@[simp] theorem requeueSnift_outer (h : HeadId) (s : State) : (requeueSnift h s).outer = s.outer := by
  unfold requeueSnift; split <;> simp
@[simp] theorem deliverCrossings_outer (s : State) : (deliverCrossings s).outer = s.outer := by
  simp [deliverCrossings, forInstalled_outer crossHead crossHead_outer]
@[simp] theorem abortAll_outer (r : Reason) (s : State) : (abortAll r s).outer = s.outer := by
  simp [abortAll, forInstalled_outer (forceToSnift r) (forceToSnift_outer r)]
@[simp] theorem reverseAbort_outer (s : State) : (reverseAbort s).outer = s.outer := by simp [reverseAbort]
@[simp] theorem referencingDischarge_outer (h : HeadId) (s : State) : (referencingDischarge h s).outer = s.outer := by
  unfold referencingDischarge; simp only; split <;> simp
@[simp] theorem angleAbort_outer (k : Nat) (s : State) : (angleAbort k s).outer = s.outer := by
  unfold angleAbort; split <;> simp
@[simp] theorem countedPulse_outer (tk : Ticket) (h : HeadId) (s : State) : (countedPulse tk h s).outer = s.outer := by
  unfold countedPulse; split <;> simp
@[simp] theorem glitchPulse_outer (tk : Ticket) (h : HeadId) (s : State) : (glitchPulse tk h s).outer = s.outer := by
  unfold glitchPulse; split <;> simp
@[simp] theorem meterPulse_outer (h : HeadId) (s : State) : (meterPulse h s).outer = s.outer := by
  unfold meterPulse; split
  · split
    · rfl
    · split <;> simp
  · simp
@[simp] theorem countedEdge_outer (h : HeadId) (s : State) : (countedEdge h s).outer = s.outer := by
  unfold countedEdge; split <;> simp
@[simp] theorem takeDwellEnd_outer (due : Time) (h : HeadId) (p : Pilot) (s : State) : (takeDwellEnd due h p s).outer = s.outer := by
  simp [takeDwellEnd]
theorem takeExpiry_outer (n : TimerName) (act : HeadId → State → State) (ha : ∀ h s, (act h s).outer = s.outer) (h : HeadId) (s : State) :
    (takeExpiry n act h s).outer = s.outer := by
  unfold takeExpiry; split <;> simp [ha]
@[simp] theorem recordOutcome_outer (h : HeadId) (o : CalOutcome) (k : Option Nat) (tag : Tag) (s : State) :
    (recordOutcome h o k tag s).outer = s.outer := rfl

end Sys2Proof.Machine
end

