-- ==== Sys2Proof/Laws/Papers.lean ====
section
/-! SUPPORT. The transit list, the tag counter and the discharge lines under every operation but seating and discharge: none writes
them. -/

namespace Sys2Proof.Machine

@[simp] theorem setHead_papers (h : HeadId) (x : Head) (s : State) : (setHead h x s).papers = s.papers := rfl
@[simp] theorem modHead_papers (h : HeadId) (f : Head → Head) (s : State) : (modHead h f s).papers = s.papers := rfl
@[simp] theorem modRecord_papers (h : HeadId) (f : HeadRecord → HeadRecord) (s : State) : (modRecord h f s).papers = s.papers := rfl
@[simp] theorem modSeq_papers (h : HeadId) (f : Sequencer → Sequencer) (s : State) : (modSeq h f s).papers = s.papers := rfl
@[simp] theorem modCauses_papers (h : HeadId) (f : Causes → Causes) (s : State) : (modCauses h f s).papers = s.papers := rfl
@[simp] theorem modPilots_papers (h : HeadId) (f : Pilots → Pilots) (s : State) : (modPilots h f s).papers = s.papers := rfl
@[simp] theorem modTicket_papers (h : HeadId) (f : Ticket → Ticket) (s : State) : (modTicket h f s).papers = s.papers := rfl
@[simp] theorem mapHeads_papers (f : Head → Head) (s : State) : (mapHeads f s).papers = s.papers := rfl
@[simp] theorem modSlot_papers (n : SlotId) (f : Slot → Slot) (s : State) : (modSlot n f s).papers = s.papers := rfl
@[simp] theorem putQueue_papers (q : List Entry) (s : State) : (putQueue q s).papers = s.papers := rfl
@[simp] theorem putBoosts_papers (b : Vector (Option Grant) 6) (s : State) : (putBoosts b s).papers = s.papers := rfl
@[simp] theorem judgeLine_papers (s : State) : (judgeLine s).papers = s.papers := rfl

/-- A fold keeps the papers when each of its steps does. -/
theorem foldl_papers {α : Type} (f : α → State → State) (hf : ∀ a s, (f a s).papers = s.papers) :
    ∀ (l : List α) (s : State), (l.foldl (fun acc a => f a acc) s).papers = s.papers
  | [], _ => rfl
  | a :: l, s => (foldl_papers f hf l (f a s)).trans (hf a s)

theorem forInstalled_papers (f : HeadId → State → State) (hf : ∀ h s, (f h s).papers = s.papers) (s : State) :
    (forInstalled f s).papers = s.papers := foldl_papers f hf s.installed s

/-! ## Ops -/

@[simp] theorem startTimer_papers (n : TimerName) (h : HeadId) (s : State) : (startTimer n h s).papers = s.papers := by
  unfold startTimer; split <;> rfl
@[simp] theorem stopTimer_papers (n : TimerName) (h : HeadId) (s : State) : (stopTimer n h s).papers = s.papers := rfl
@[simp] theorem stopTimers_papers (h : HeadId) (s : State) : (stopTimers h s).papers = s.papers := rfl
@[simp] theorem enterPhase_papers (p : Phase) (h : HeadId) (s : State) : (enterPhase p h s).papers = s.papers := rfl
@[simp] theorem alignHead_papers (h : HeadId) (s : State) : (alignHead h s).papers = s.papers := by
  unfold alignHead; split <;> [rfl; (split <;> rfl)]
@[simp] theorem alignOut_papers (n : SlotId) (rev : Revision) (s : State) : (alignOut n rev s).papers = s.papers := rfl
@[simp] theorem membersUseCurrent_papers (n : SlotId) (s : State) : (membersUseCurrent n s).papers = s.papers := rfl
@[simp] theorem promote_papers (n : SlotId) (s : State) : (promote n s).papers = s.papers := by unfold promote; split <;> rfl
@[simp] theorem promoteIfDone_papers (n : SlotId) (s : State) : (promoteIfDone n s).papers = s.papers := by
  unfold promoteIfDone; split <;> simp
@[simp] theorem leaveCounts_papers (n : SlotId) (b : Bool) (s : State) : (leaveCounts n b s).papers = s.papers := by simp [leaveCounts]
@[simp] theorem becomeOut_papers (h : HeadId) (s : State) : (becomeOut h s).papers = s.papers := by
  unfold becomeOut; simp only; split <;> simp
@[simp] theorem becomeJoining_papers (h : HeadId) (s : State) : (becomeJoining h s).papers = s.papers := by
  unfold becomeJoining; simp only; split <;> simp
@[simp] theorem takeOut_papers (h : HeadId) (s : State) : (takeOut h s).papers = s.papers := by
  unfold takeOut; split <;> first | rfl | simp | (split <;> simp)
@[simp] theorem bringIn_papers (h : HeadId) (s : State) : (bringIn h s).papers = s.papers := by unfold bringIn; split <;> simp
@[simp] theorem changeCauses_papers (h : HeadId) (f : Causes → Causes) (s : State) : (changeCauses h f s).papers = s.papers := rfl
@[simp] theorem changeGlobals_papers (f : Globals → Globals) (s : State) : (changeGlobals f s).papers = s.papers := rfl
@[simp] theorem raiseEquipment_papers (d : EquipmentDetail) (h : HeadId) (s : State) : (raiseEquipment d h s).papers = s.papers := by
  simp [raiseEquipment]
@[simp] theorem raisePresenceStuck_papers (h : HeadId) (s : State) : (raisePresenceStuck h s).papers = s.papers := rfl
@[simp] theorem raiseRepeatedFaults_papers (h : HeadId) (s : State) : (raiseRepeatedFaults h s).papers = s.papers := by
  simp [raiseRepeatedFaults]
@[simp] theorem raiseFillFault_papers (r : Reason) (h : HeadId) (s : State) : (raiseFillFault r h s).papers = s.papers := rfl
@[simp] theorem raiseTrimLimit_papers (h : HeadId) (s : State) : (raiseTrimLimit h s).papers = s.papers := rfl
@[simp] theorem clearTrimLimit_papers (h : HeadId) (s : State) : (clearTrimLimit h s).papers = s.papers := rfl
@[simp] theorem raiseCalDone_papers (o : CalOutcome) (k : Option Nat) (h : HeadId) (s : State) :
    (raiseCalDone o k h s).papers = s.papers := rfl
@[simp] theorem raiseAngleFault_papers (s : State) : (raiseAngleFault s).papers = s.papers := rfl
@[simp] theorem raiseReverse_papers (s : State) : (raiseReverse s).papers = s.papers := rfl
@[simp] theorem raiseVerdictLoss_papers (s : State) : (raiseVerdictLoss s).papers = s.papers := rfl
@[simp] theorem countFault_papers (h : HeadId) (s : State) : (countFault h s).papers = s.papers := by
  unfold countFault; split <;> simp
@[simp] theorem takeK_papers (k : Nat) (h : HeadId) (s : State) : (takeK k h s).papers = s.papers := rfl
@[simp] theorem writeK_papers (k : Nat) (h : HeadId) (s : State) : (writeK k h s).papers = s.papers := by
  unfold writeK; split <;> simp
@[simp] theorem withdraw_papers (h : HeadId) (s : State) : (withdraw h s).papers = s.papers := rfl
@[simp] theorem queueOpen_papers (k : OpenKind) (h : HeadId) (s : State) : (queueOpen k h s).papers = s.papers := rfl
@[simp] theorem dropFromBoosts_papers (h : HeadId) (p : Pilot) (s : State) : (dropFromBoosts h p s).papers = s.papers := rfl
@[simp] theorem switchOff_papers (p : Pilot) (h : HeadId) (s : State) : (switchOff p h s).papers = s.papers := rfl
@[simp] theorem release_papers (p : Pilot) (h : HeadId) (s : State) : (release p h s).papers = s.papers := by
  unfold release; split
  · simp
  · split
    · rfl
    · split <;> simp

/-! ## Fill sequence -/

@[simp] theorem learn_papers (h : HeadId) (s : State) : (learn h s).papers = s.papers := by
  unfold learn; split
  · split
    · split <;> simp
    · rfl
  · rfl
@[simp] theorem reportDoseEnd_papers (h : HeadId) (s : State) : (reportDoseEnd h s).papers = s.papers := by
  unfold reportDoseEnd; split
  · rfl
  · split
    · simp
    · split <;> simp
@[simp] theorem doseEnd_papers (h : HeadId) (s : State) : (doseEnd h s).papers = s.papers := by simp [doseEnd]
@[simp] theorem closeIfMetered_papers (h : HeadId) (s : State) : (closeIfMetered h s).papers = s.papers := by
  unfold closeIfMetered; split <;> simp
@[simp] theorem enterSettle_papers (w : Settle) (h : HeadId) (s : State) : (enterSettle w h s).papers = s.papers := by simp [enterSettle]
@[simp] theorem releaseFill_papers (h : HeadId) (s : State) : (releaseFill h s).papers = s.papers := by simp [releaseFill]
@[simp] theorem forceToSettle_papers (r : Reason) (h : HeadId) (s : State) : (forceToSettle r h s).papers = s.papers := by
  unfold forceToSettle; split <;> simp
@[simp] theorem forceToSnift_papers (r : Reason) (h : HeadId) (s : State) : (forceToSnift r h s).papers = s.papers := by
  unfold forceToSnift; split <;> simp
@[simp] theorem equipmentEnding_papers (d : EquipmentDetail) (r : Reason) (h : HeadId) (s : State) :
    (equipmentEnding d r h s).papers = s.papers := by simp [equipmentEnding]
@[simp] theorem pulseTimers_papers (h : HeadId) (s : State) : (pulseTimers h s).papers = s.papers := by
  unfold pulseTimers; split <;> first | rfl | simp | (split <;> simp)
@[simp] theorem closeCrossing_papers (h : HeadId) (s : State) : (closeCrossing h s).papers = s.papers := by simp [closeCrossing]
@[simp] theorem takeDoseCrossing_papers (c : DoseCrossing) (h : HeadId) (s : State) : (takeDoseCrossing c h s).papers = s.papers := by
  unfold takeDoseCrossing; split <;> simp
@[simp] theorem countPulse_papers (tk : Ticket) (h : HeadId) (s : State) : (countPulse tk h s).papers = s.papers := by simp [countPulse]
@[simp] theorem countGlitch_papers (h : HeadId) (s : State) : (countGlitch h s).papers = s.papers := rfl
@[simp] theorem strayPulse_papers (h : HeadId) (s : State) : (strayPulse h s).papers = s.papers := rfl
@[simp] theorem enterTopUp_papers (h : HeadId) (s : State) : (enterTopUp h s).papers = s.papers := by simp [enterTopUp]
@[simp] theorem flowStill_papers (h : HeadId) (s : State) : (flowStill h s).papers = s.papers := by
  unfold flowStill; split
  · simp only; split <;> simp
  · simp
  · rfl
@[simp] theorem sniftDone_papers (h : HeadId) (s : State) : (sniftDone h s).papers = s.papers := by
  unfold sniftDone; split <;> simp
@[simp] theorem gasGrant_papers (h : HeadId) (s : State) : (gasGrant h s).papers = s.papers := by
  unfold gasGrant; simp only; split <;> simp
@[simp] theorem takeGrant_papers (k : OpenKind) (h : HeadId) (s : State) : (takeGrant k h s).papers = s.papers := by
  unfold takeGrant; split <;> simp
@[simp] theorem equalize_papers (h : HeadId) (s : State) : (equalize h s).papers = s.papers := by
  unfold equalize; simp only; split <;> simp
@[simp] theorem gasCrossing_papers (h : HeadId) (s : State) : (gasCrossing h s).papers = s.papers := by
  unfold gasCrossing; split <;> simp
@[simp] theorem fillCrossing_papers (h : HeadId) (s : State) : (fillCrossing h s).papers = s.papers := by
  unfold fillCrossing; split <;> first | rfl | (simp only; split <;> simp)
@[simp] theorem closeByCrossing_papers (h : HeadId) (s : State) : (closeByCrossing h s).papers = s.papers := by
  unfold closeByCrossing; simp only; split <;> simp
@[simp] theorem sniftByCrossing_papers (h : HeadId) (s : State) : (sniftByCrossing h s).papers = s.papers := by
  unfold sniftByCrossing; split <;> simp
@[simp] theorem commitPresence_papers (h : HeadId) (s : State) : (commitPresence h s).papers = s.papers := by
  unfold commitPresence; split <;> simp
@[simp] theorem commitStray_papers (h : HeadId) (s : State) : (commitStray h s).papers = s.papers := by
  unfold commitStray; simp only [modRecord_papers]; split <;> simp
@[simp] theorem commitK_papers (h : HeadId) (s : State) : (commitK h s).papers = s.papers := by unfold commitK; split <;> simp
@[simp] theorem commitPending_papers (h : HeadId) (s : State) : (commitPending h s).papers = s.papers := rfl
@[simp] theorem moveCounts_papers (h : HeadId) (n : SlotId) (s : State) : (moveCounts h n s).papers = s.papers := by
  unfold moveCounts; simp only; split
  · rfl
  · simp only [modRecord_papers, modSlot_papers]; split <;> simp
@[simp] theorem commitSlot_papers (h : HeadId) (s : State) : (commitSlot h s).papers = s.papers := by
  unfold commitSlot; split <;> simp
@[simp] theorem commitAdopt_papers (h : HeadId) (s : State) : (commitAdopt h s).papers = s.papers := by
  unfold commitAdopt; simp only; split
  · rfl
  · split
    · rfl
    · split <;> simp
@[simp] theorem commitService_papers (h : HeadId) (s : State) : (commitService h s).papers = s.papers := by
  unfold commitService; split <;> simp
@[simp] theorem commitCrossing_papers (h : HeadId) (s : State) : (commitCrossing h s).papers = s.papers := by simp [commitCrossing]
/-! ## Arbiter and tracker events -/

@[simp] theorem energise_papers (ps : List Pilot) (h : HeadId) (s : State) : (energise ps h s).papers = s.papers := rfl
@[simp] theorem grant_papers (i : BoostId) (e : Entry) (s : State) : (grant i e s).papers = s.papers := by
  simp only [grant, takeGrant_papers, withdraw_papers, energise_papers]; rfl
theorem grants_papers : ∀ (n : Nat) (s : State), (grants n s).papers = s.papers
  | 0, _ => rfl
  | n + 1, s => by
    unfold grants; split
    · rw [grants_papers n, grant_papers]
    · rfl
@[simp] theorem arbitrate_papers (s : State) : (arbitrate s).papers = s.papers := grants_papers 6 s
@[simp] theorem completeBoost_papers (i : BoostId) (g : Grant) (s : State) : (completeBoost i g s).papers = s.papers := rfl
@[simp] theorem resetArbiter_papers (s : State) : (resetArbiter s).papers = s.papers := rfl
@[simp] theorem requeueSnift_papers (h : HeadId) (s : State) : (requeueSnift h s).papers = s.papers := by
  unfold requeueSnift; split <;> simp
@[simp] theorem abortAll_papers (r : Reason) (s : State) : (abortAll r s).papers = s.papers := by
  simp [abortAll, forInstalled_papers (forceToSnift r) (forceToSnift_papers r)]
@[simp] theorem reverseAbort_papers (s : State) : (reverseAbort s).papers = s.papers := by simp [reverseAbort]
@[simp] theorem angleAbort_papers (k : Nat) (s : State) : (angleAbort k s).papers = s.papers := by
  unfold angleAbort; split <;> simp
@[simp] theorem countedPulse_papers (tk : Ticket) (h : HeadId) (s : State) : (countedPulse tk h s).papers = s.papers := by
  unfold countedPulse; split <;> simp
@[simp] theorem glitchPulse_papers (tk : Ticket) (h : HeadId) (s : State) : (glitchPulse tk h s).papers = s.papers := by
  unfold glitchPulse; split <;> simp
@[simp] theorem meterPulse_papers (h : HeadId) (s : State) : (meterPulse h s).papers = s.papers := by
  unfold meterPulse; split
  · split
    · rfl
    · split <;> simp
  · simp
@[simp] theorem countedEdge_papers (h : HeadId) (s : State) : (countedEdge h s).papers = s.papers := by
  unfold countedEdge; split <;> simp
@[simp] theorem takeDwellEnd_papers (due : Time) (h : HeadId) (p : Pilot) (s : State) : (takeDwellEnd due h p s).papers = s.papers := by
  simp [takeDwellEnd]
theorem takeExpiry_papers (n : TimerName) (act : HeadId → State → State) (ha : ∀ h s, (act h s).papers = s.papers) (h : HeadId) (s : State) :
    (takeExpiry n act h s).papers = s.papers := by
  unfold takeExpiry; split <;> simp [ha]
@[simp] theorem recordOutcome_papers (h : HeadId) (o : CalOutcome) (k : Option Nat) (tag : Tag) (s : State) :
    (recordOutcome h o k tag s).papers = s.papers := rfl

/-- The tickets in search order, over the head numbers. -/
theorem allTickets_eq_searchOrder (s : State) : s.allTickets = s.searchOrder := by
  have e : s.heads.toList = (List.finRange 96).map s.head := by
    apply List.ext_getElem <;> simp [State.head]
  simp [State.allTickets, State.searchOrder, e, List.filterMap_map]

end Sys2Proof.Machine
end

