-- ==== Sys2Proof/WellFormed.lean ====
section
/-! DEFINITION. Which commands can arise. Operand types already bound head, slot and pilot numbers, and R197 lets every request
field take every value of its width (a bad value is answered, not excluded). What remains is the MALFORMED row:
its frame must fit the receiver (R190) and must name no request of its length (R193). -/

namespace Sys2Proof

/-- A frame of this body length can pass the receiver: kind and body are 1 to 64 bytes together (R190). -/
def frameFits (body : List Byte) : Bool := decide (body.length + 1 ≤ Config.lengthMax)

/-- The kind byte is unknown, or the body is not of its kind's length (R193). -/
def isMalformed (kind : Byte) (body : List Byte) : Bool := (Request.ofFrame kind body).isNone

/-- A command that can arise. -/
def Instr.wellFormed : Instr → Bool
  | .malformed _ kind body => frameFits body && isMalformed kind body
  | .powerOn _ | .forwardStep _ | .reverseStep _ | .directionlessChange _ | .indexEvent _ | .meterPulse _ _
  | .presenceEdge _ _ _ | .pressureEqualEdge _ _ _ | .equalizeExpiry _ _ | .startFlowExpiry _ _ | .stallExpiry _ _
  | .flowStillExpiry _ _ | .settleLimitExpiry _ _ | .sniftExpiry _ _ | .boostCompletion _ _ | .dwellEnd _ _ _
  | .divisionCompletion _ | .byteReceived _ _ | .interbyteGap _ | .answerEnd _ | .readStatus _ | .readHead _ _
  | .readRecipe _ _ | .readTicket _ _ _ | .findTickets _ _ _ _ _ _ _ | .setLine _ _ | .writeRecipe _ _ _
  | .eraseRecipe _ _ | .setHead _ _ _ _ _ _ | .headReset _ _ | .lineReset _ | .abortFill _ _ | .verdict _ _ _
  | .keep _ _ | .retire _ _ | .calibrate _ _ _ _ | .holdLearning _ _ | .clearAttention _ _ _ | .setMask _ _ => true

end Sys2Proof
end

