-- ==== Sys2Proof/Laws/PerInstr.lean ====
section
/-! SUPPORT. A fact about every command as syntax: which commands can arise (every one but the MALFORMED rows whose frame is a request
or does not fit the receiver). -/

namespace Sys2Proof.Laws.Stamped

/-- A command can arise unless it is a MALFORMED row whose frame does not fit or is a well-formed request. -/
def Statement (i : Instr) : Prop :=
  i.wellFormed = true ↔ ∀ t kind body, i = .malformed t kind body → body.length < 64 ∧ Request.ofFrame kind body = none

theorem powerOn (t : Time) : Statement (.powerOn t) := by simp [Statement, Instr.wellFormed]
theorem forwardStep (t : Time) : Statement (.forwardStep t) := by simp [Statement, Instr.wellFormed]
theorem reverseStep (t : Time) : Statement (.reverseStep t) := by simp [Statement, Instr.wellFormed]
theorem directionlessChange (t : Time) : Statement (.directionlessChange t) := by simp [Statement, Instr.wellFormed]
theorem indexEvent (t : Time) : Statement (.indexEvent t) := by simp [Statement, Instr.wellFormed]
theorem meterPulse (t : Time) (h : HeadId) : Statement (.meterPulse t h) := by simp [Statement, Instr.wellFormed]
theorem presenceEdge (t : Time) (h : HeadId) (level : Bool) : Statement (.presenceEdge t h level) := by simp [Statement, Instr.wellFormed]
theorem pressureEqualEdge (t : Time) (h : HeadId) (level : Bool) : Statement (.pressureEqualEdge t h level) := by simp [Statement, Instr.wellFormed]
theorem equalizeExpiry (t : Time) (h : HeadId) : Statement (.equalizeExpiry t h) := by simp [Statement, Instr.wellFormed]
theorem startFlowExpiry (t : Time) (h : HeadId) : Statement (.startFlowExpiry t h) := by simp [Statement, Instr.wellFormed]
theorem stallExpiry (t : Time) (h : HeadId) : Statement (.stallExpiry t h) := by simp [Statement, Instr.wellFormed]
theorem flowStillExpiry (t : Time) (h : HeadId) : Statement (.flowStillExpiry t h) := by simp [Statement, Instr.wellFormed]
theorem settleLimitExpiry (t : Time) (h : HeadId) : Statement (.settleLimitExpiry t h) := by simp [Statement, Instr.wellFormed]
theorem sniftExpiry (t : Time) (h : HeadId) : Statement (.sniftExpiry t h) := by simp [Statement, Instr.wellFormed]
theorem boostCompletion (t : Time) (i : BoostId) : Statement (.boostCompletion t i) := by simp [Statement, Instr.wellFormed]
theorem dwellEnd (t : Time) (h : HeadId) (p : Pilot) : Statement (.dwellEnd t h p) := by simp [Statement, Instr.wellFormed]
theorem divisionCompletion (t : Time) : Statement (.divisionCompletion t) := by simp [Statement, Instr.wellFormed]
theorem byteReceived (t : Time) (b : Byte) : Statement (.byteReceived t b) := by simp [Statement, Instr.wellFormed]
theorem interbyteGap (t : Time) : Statement (.interbyteGap t) := by simp [Statement, Instr.wellFormed]
theorem answerEnd (t : Time) : Statement (.answerEnd t) := by simp [Statement, Instr.wellFormed]
theorem malformed (t : Time) (kind : Byte) (body : List Byte) : Statement (.malformed t kind body) := by
  constructor
  · rintro h _ _ _ ⟨⟩
    simpa [Instr.wellFormed, frameFits, isMalformed, Nat.lt_succ_iff] using h
  · intro h
    simpa [Instr.wellFormed, frameFits, isMalformed, Nat.lt_succ_iff] using h t kind body rfl
theorem readStatus (t : Time) : Statement (.readStatus t) := by simp [Statement, Instr.wellFormed]
theorem readHead (t : Time) (head : Byte) : Statement (.readHead t head) := by simp [Statement, Instr.wellFormed]
theorem readRecipe (t : Time) (slot : Byte) : Statement (.readRecipe t slot) := by simp [Statement, Instr.wellFormed]
theorem readTicket (t : Time) (selector : Byte) (number : Half) : Statement (.readTicket t selector number) := by simp [Statement, Instr.wellFormed]
theorem findTickets (t : Time) (head : Byte) (slot : Byte) (location : Byte) (disposition : Byte) (verdictPresent : Byte) (startAfter : Half) : Statement (.findTickets t head slot location disposition verdictPresent startAfter) := by simp [Statement, Instr.wellFormed]
theorem setLine (t : Time) (fields : LineFields) : Statement (.setLine t fields) := by simp [Statement, Instr.wellFormed]
theorem writeRecipe (t : Time) (slot : Byte) (block : RevisionBlock) : Statement (.writeRecipe t slot block) := by simp [Statement, Instr.wellFormed]
theorem eraseRecipe (t : Time) (slot : Byte) : Statement (.eraseRecipe t slot) := by simp [Statement, Instr.wellFormed]
theorem setHead (t : Time) (head : Byte) (service : Byte) (k : Half) (slot : Byte) (resetLearning : Byte) : Statement (.setHead t head service k slot resetLearning) := by simp [Statement, Instr.wellFormed]
theorem headReset (t : Time) (head : Byte) : Statement (.headReset t head) := by simp [Statement, Instr.wellFormed]
theorem lineReset (t : Time) : Statement (.lineReset t) := by simp [Statement, Instr.wellFormed]
theorem abortFill (t : Time) (head : Byte) : Statement (.abortFill t head) := by simp [Statement, Instr.wellFormed]
theorem verdict (t : Time) (tag : Half) (level : Half) : Statement (.verdict t tag level) := by simp [Statement, Instr.wellFormed]
theorem keep (t : Time) (tag : Half) : Statement (.keep t tag) := by simp [Statement, Instr.wellFormed]
theorem retire (t : Time) (tag : Half) : Statement (.retire t tag) := by simp [Statement, Instr.wellFormed]
theorem calibrate (t : Time) (tag : Half) (w : Wide) (force : Byte) : Statement (.calibrate t tag w force) := by simp [Statement, Instr.wellFormed]
theorem holdLearning (t : Time) (hold : Byte) : Statement (.holdLearning t hold) := by simp [Statement, Instr.wellFormed]
theorem clearAttention (t : Time) (target : Byte) (kinds : Byte) : Statement (.clearAttention t target kinds) := by simp [Statement, Instr.wellFormed]
theorem setMask (t : Time) (kinds : Byte) : Statement (.setMask t kinds) := by simp [Statement, Instr.wellFormed]

end Sys2Proof.Laws.Stamped
end

