-- ==== Sys2Proof/Tests/Slice0.lean ====
section
/-! SUPPORT. Tests: the smoke test of WellFormed, figures the manual works out, commands run from small states, and for each statement with
hypotheses a state that meets them (its `test_meets_` theorem). -/

namespace Sys2Proof.Tests

set_option Elab.async false

open Sys2Proof Sys2Proof.Machine

/-! ## WellFormed -/

theorem test_refuses_body_too_long : (Instr.malformed 0 0x55 (List.replicate 64 0)).wellFormed = false := by decide +kernel
theorem test_accepts_longest_body : (Instr.malformed 0 0x55 (List.replicate 63 0)).wellFormed = true := by decide +kernel
theorem test_refuses_well_formed_frame : (Instr.malformed 0 0x0B []).wellFormed = false := by decide +kernel
theorem test_accepts_wrong_length : (Instr.malformed 0 0x0B [0]).wellFormed = true := by decide +kernel

/-! ## Frames -/

/-- The table gives no row bits: no word spells a command. -/
theorem test_no_word_spells_a_command : decodeTableWord 8 0x01 = none := rfl
theorem test_decodes_set_head : Request.ofFrame 0x09 [12, 1, 0x0A, 0x8C, 3, 0] = some (.setHead 12 1 2700 3 0) := by decide +kernel
theorem test_decodes_verdict : Request.ofFrame 0x0D [0x01, 0xF4, 0x80, 0x00] = some (.verdict 500 0x8000) := by decide +kernel
theorem test_unknown_kind : Request.ofFrame 0x81 [] = none := by decide +kernel

/-- The check of a READ STATUS frame (section 11.2.1). -/
theorem test_check_of_read_status : checkOf [0x00, 0x01, 0x01] = 0xEF8C := by decide +kernel

/-- The whole READ STATUS frame, byte by byte from power-on, is served and answered with a 153-byte content. -/
def afterFrame (bytes : List Byte) (s : State) : State := bytes.foldl (fun s b => takeByte b s) s
theorem test_frame_served :
    ((afterFrame [0xC3, 0x00, 0x01, 0x01, 0xEF, 0x8C] State.reset).lastAnswer.map fun a => (a.kind, a.code, a.payload.length)) =
      some (0x01, .done, 149) := by decide +kernel
theorem test_bad_check_discarded :
    (afterFrame [0xC3, 0x00, 0x01, 0x01, 0xEF, 0x8D] State.reset).link = Link.powerOn := by decide +kernel

/-! ## Figures of the manual -/

/-- Sections 7.2.1 and 7.3.1. -/
def stepRecipe (g gt n : Nat) : Recipe :=
  { vt := 50000, s := 2000, aMax := 1000, aInit := 300, aStepMax := 50, g := g, tMax := 200, gt := gt, n := n, rLo := 500, rHi := 500
    learning := true, topUp := true, u := 300, aTop := 100, tEq := 5000, tStart := 500, tStall := 300, tStill := 200
    tSettleMax := 3000, tSnift := 2000 }
theorem test_learning_steps :
    [-400, -5, -4, -3, 0, 3, 4, 12, 400].map (learningStep (stepRecipe 3 0 0)) = [-50, -1, -1, 0, 0, 0, 1, 2, 50] := by decide +kernel
theorem test_volume_error : volumeError 461 10 = 72 ∧ volumeError 461 (-10) = -72 ∧ trimStep (stepRecipe 0 2 461) 10 = 18 := by decide +kernel

/-- A calibration: 49,980 du over 4,899 pulses. -/
def sampleCal : Calibration :=
  { head := 3, tag := 7, kSnap := 2560, p := 4899, w := 49980, force := false, dividend := calDividend 49980 4899, remainder := 0, quotient := 0 }
theorem test_division : sampleCal.divided.quotient = (49980 * 256 + 4899 / 2) / 4899 ∧ sampleCal.outcome 2612 = .staged := by decide +kernel
theorem test_band_edge : sampleCal.outcome 2880 = .staged ∧ sampleCal.outcome 2881 = .outOfBand ∧ sampleCal.outcome 255 = .outOfRange := by
  decide +kernel

/-- The encoder's forward sequence (R1): 00, 10, 11, 01. -/
theorem test_encoder_forward :
    ({ a := false, b := false } : Encoder).forward = { a := true, b := false } ∧
    ({ a := true, b := false } : Encoder).forward = { a := true, b := true } ∧
    ({ a := true, b := true } : Encoder).forward = { a := false, b := true } ∧
    ({ a := false, b := true } : Encoder).backward = { a := true, b := true } := by decide

/-! ## Small states -/

/-- A revision block that passes every check. -/
def block : RevisionBlock :=
  { vt := 50000, s := 2000, aMax := 1000, aInit := 300, aStepMax := 50, g := 3, tMax := 200, gt := 2, n := 461, rLo := 500, rHi := 500
    learning := 1, topUp := 1, u := 300, aTop := 100, tEq := 5000, tStart := 500, tStall := 300, tStill := 200, tSettleMax := 3000
    tSnift := 2000 }
def rev : Revision := { number := 1, recipe := recipeOf block }

/-- The head under test. -/
def h3 : HeadId := 3
def n2 : SlotId := 2
def record (sv : Service) : HeadRecord := { HeadRecord.powerOn with service := sv, slot := some n2, adoptedRev := some 1, a := 300 }
def ticket : Ticket := newTicket 7 h3 n2 (record .inn) rev

/-- Head 3 IN on slot 2 in a phase, with its live ticket unless the phase is EMPTY; the tracker TRACKING at angle 100. -/
def filling (p : Phase) (f : Head → Head) : State :=
  { modSlot n2 (fun sl => { sl with counter := 1, current := some rev, members := 1 })
      (setHead h3 (f { Head.powerOn true false with
        record := record .inn, seq := { Sequencer.powerOn with phase := p }
        ticket := if p = .empty then none else some ticket }) State.reset) with
    tracker := { Tracker.powerOn with motion := .tracking, angle := 100 }, tagCounter := 8 }

/-- A timer running down at 500 µs. -/
def timed (n : TimerName) (x : Head) : Head := { x with seq := { x.seq with timers := x.seq.timers.put n (some 500) } }
def settled (w : Settle) (x : Head) : Head := { timed .flowStill x with seq := { (timed .flowStill x).seq with settle := w } }
def onTicket (f : Ticket → Ticket) (x : Head) : Head := { x with ticket := x.ticket.map f }

/-- A transit list of tickets with these tags. -/
def carrying (tags : List Tag) (s : State) : State := { s with transit := tags.map fun g => { ticket with tag := g, disposition := .good, p := 4899 } }

/-- The state a command leads to. -/
def after (i : Instr) (s : State) : State :=
  match exec i s with
  | .next u => u
  | .fault _ => s
  | .refused _ => s

/-! ## Commands -/

theorem test_reset_line_resets : (State.reset.head h3).record.k = 2560 ∧ State.reset.tracker.line.headCount = 96 := by decide +kernel
theorem test_power_on_clears : (after (.powerOn 9) (filling .fast id)).phase h3 = .empty ∧ (after (.powerOn 9) (filling .fast id)).now = 9 := by
  decide +kernel
/-- Head 10 of 96 lies 800 counts on: at angle 1040 it meets its gas angle 240 (section 1.4). -/
theorem test_gas_angle : (LineSetup.powerOn.relative 1040 10, LineSetup.powerOn.zoneAt 240) = (240, some .gas) := by decide +kernel
theorem test_forward_step : (after (.forwardStep 1) (filling .fast id)).tracker.angle = 101 := by decide +kernel
theorem test_reverse_step_aborts :
    (after (.reverseStep 1) (filling .fast id)).phase h3 = .snift ∧ (after (.reverseStep 1) (filling .fast id)).globals.reverse = true := by
  decide +kernel
theorem test_index_mismatch : (after (.indexEvent 1) (filling .fast id)).tracker.lastIndexError = 100 ∧
    (after (.indexEvent 1) (filling .fast id)).tracker.backlog = 100 := by decide +kernel
theorem test_pulse_counts : ((after (.meterPulse 1000 h3) (filling .fast id)).head h3).ticket.map (·.d) = some 2560 := by decide +kernel
theorem test_pulse_is_stray : ((after (.meterPulse 1000 h3) (filling .done id)).head h3).record.stray = 1 := by decide +kernel
theorem test_pressure_edge_equalizes :
    ((after (.pressureEqualEdge 1 h3 true)
      (filling .pressurize fun x => { x with seq := { x.seq with gasGranted := true } })).head h3).seq.equalized = true := by decide +kernel
theorem test_stall_settles : (after (.stallExpiry 500 h3) (filling .slow (timed .stall))).phase h3 = .settle := by decide +kernel
theorem test_early_expiry_is_void : (after (.stallExpiry 499 h3) (filling .slow (timed .stall))).phase h3 = .slow := by decide +kernel
theorem test_flow_still_ends_low :
    ((after (.flowStillExpiry 500 h3) (filling .settle (settled .second))).head h3).ticket.map (·.reasons) = some Reason.low.bit := by
  decide +kernel
theorem test_snift_expiry_vents : (after (.sniftExpiry 500 h3) (filling .snift (timed .snift))).phase h3 = .done := by decide +kernel
theorem test_write_recipe : ((after (.writeRecipe 1 2 block) State.reset).slot n2).state = .ready := by decide +kernel
theorem test_write_recipe_bad_field :
    (after (.writeRecipe 1 2 { block with vt := 1000, s := 0, aMax := 800, tMax := 200 }) State.reset).lastAnswer.map (fun a => (a.code, a.detail)) =
      some (.badField, 7) := by decide +kernel
theorem test_set_head_joins :
    ((after (.setHead 2 3 1 2700 2 0) (after (.writeRecipe 1 2 block) State.reset)).head h3).record.service = .joining := by decide +kernel
theorem test_head_reset : (after (.headReset 1 3) (filling .fast id)).phase h3 = .snift ∧
    ((after (.headReset 1 3) (filling .fast id)).head h3).record.service = .leaving := by decide +kernel
theorem test_line_reset_empties_transit : (after (.lineReset 1) (carrying [4, 5] (filling .fast id))).transit = [] := by decide +kernel
theorem test_abort_all : ((after (.abortFill 1 0xFF) (filling .topup id)).head h3).ticket.map (·.has .aborted) = some true := by decide +kernel
theorem test_verdict_misses_older :
    ((after (.verdict 1 5 10) (carrying [4, 5, 6] (filling .fast id))).transit.map (·.tag),
      (after (.verdict 1 5 10) (carrying [4, 5, 6] (filling .fast id))).globals.verdictLoss) = ([6], true) := by decide +kernel
theorem test_verdict_trims : ((after (.verdict 1 4 10) (carrying [4] (filling .fast id))).head h3).record.pendingT = some (-18) := by decide +kernel
theorem test_keep : (after (.keep 1 5) (carrying [4, 5] (filling .fast id))).keptCount = 1 := by decide +kernel
theorem test_retire : (after (.retire 1 4) (carrying [4, 5] (filling .fast id))).transit.map (·.tag) = [5] := by decide +kernel
theorem test_calibrate : (after (.calibrate 1 4 49980 0) (carrying [4] (filling .fast id))).divider = some { sampleCal with tag := 4 } := by
  decide +kernel
theorem test_hold_learning : (after (.holdLearning 1 1) (filling .fast id)).learningHold = true := by decide +kernel
theorem test_mask_opens_line :
    (after (.setMask 1 0x40) { filling .fast id with globals := { angleFault := false, reverse := true, verdictLoss := false } }).attentionLine = true := by
  decide +kernel
theorem test_seats : ((after (.forwardStep 1)
      { filling .empty id with tracker := { Tracker.powerOn with motion := .tracking, angle := 239 } }).head h3).ticket.map (·.tag) = some 8 := by
  decide +kernel


/-- R173: the boost completion at 20,100 µs falls together with the dwell end of head 3's pilot; five other boosts run on. Head 3's open is the
older. Taken first, the dwell end lets it have the slot; taken second, the open of head 4 has it. -/
def together : State :=
  let s := modHead h3 (fun x => { x with pilots := x.pilots.put .gas { state := .off, released := some 100, dwellTaken := none } })
    (filling .pressurize id)
  let held : Grant := { head := 9, pilots := [], completion := 99999 }
  { setHead 4 { (filling .pressurize id).head h3 with ticket := some { ticket with tag := 6, head := 4 } } s with
    pilotQueue := [{ head := h3, kind := .gas, step := 0xFFFFFFFF }, { head := 4, kind := .gas, step := 0 }]
    boosts := (Vector.replicate 6 (some held)).set 0 (some { held with completion := 20100 }) }
theorem test_completion_before_dwell_end :
    (after (.dwellEnd 20100 h3 .gas) (after (.boostCompletion 20100 0) together)).boosts[0].map (·.head) = some 4 := by decide +kernel
theorem test_dwell_end_before_completion :
    (after (.boostCompletion 20100 0) (after (.dwellEnd 20100 h3 .gas) together)).boosts[0].map (·.head) = some h3 := by decide +kernel

/-! ## States that meet the hypotheses of the statements, clause by clause -/

def tracking (angle : Nat) : State := { State.reset with tracker := { Tracker.powerOn with motion := .tracking, angle := angle } }
def backing (angle backlog : Nat) (owed : Bool) : State :=
  { State.reset with tracker := { Tracker.powerOn with motion := .backing, angle := angle, backlog := backlog, reverseOwed := owed } }
def lastAt (t : Time) (x : Head) : Head := { x with lastCounted := some t }

theorem test_meets_StepTakesFrontCommand : ({ State.reset with pending := [.powerOn 0] } : State).pending = [.powerOn 0] ∧
    State.reset.pending = [] := by decide
/-- Angle 7679 turns to 0; the line at reset is in order, and its seven zone angles and an angle between them are met by head 0. -/
theorem test_meets_ForwardStepProducesCrossings : (tracking 7679).tracker.motion = .tracking ∧ ZonesInOrder (tracking 0).tracker.line ∧
    [0, 240, 480, 4800, 5120, 5760, 6400].map (fun a => (tracking a).tracker.line.zoneAt ((tracking a).tracker.line.relative a 0)) =
      [some .infeed, some .gas, some .fill, some .closeBy, some .sniftBy, some .discharge, some .commit] ∧
    (tracking 1).tracker.line.zoneAt 1 = none := by
  refine ⟨rfl, by unfold ZonesInOrder; decide, by decide +kernel, by decide +kernel⟩
theorem test_meets_ForwardStepPaysBacklogBack :
    (backing 0 1 false).tracker.motion = .backing ∧ 1 ≤ (backing 0 1 false).tracker.backlog ∧ 1 ≤ (backing 0 7679 false).tracker.backlog := by decide
theorem test_meets_EncoderEventsDiscarded : State.reset.tracker.motion = .unreferenced ∧ (tracking 0).tracker.motion = .tracking ∧
    (tracking 0).tracker.angle = 0 ∧ (backing 5 1 false).tracker.motion = .backing := by decide
theorem test_meets_ReverseStepsTurnBack : (tracking 0).tracker.motion = .tracking ∧ (backing 0 7679 false).tracker.motion = .backing ∧
    (backing 0 7679 false).tracker.reverseOwed = false ∧ (backing 0 3839 true).tracker.reverseOwed = true ∧
    (filling .fast id).isInstalled h3 = true ∧ ((filling .fast id).phase h3).filling = true := by decide +kernel
/-- Head 15 lies at 6480 when the carousel is at 0, past the commit angle; head 20 at 6080, between discharge and commit. -/
theorem test_meets_IndexReferencesTracker : State.reset.tracker.motion = .unreferenced ∧ LineSetup.powerOn.relative 0 20 = 6080 ∧
    LineSetup.powerOn.relative 0 15 = 6480 ∧ (filling .snift id).phase h3 = .snift ∧ (filling .done id).phase h3 = .done := by decide +kernel
theorem test_meets_IndexMismatchResyncs : (tracking 40).tracker.angle ≠ 0 ∧ ¬7680 / (tracking 40).tracker.line.headCount / 2 < 40 ∧
    7680 / (tracking 41).tracker.line.headCount / 2 < 41 ∧ (tracking 3839).tracker.angle < 3840 ∧ 3840 ≤ (tracking 3840).tracker.angle ∧
    (tracking 7679).tracker.angle < 7680 := by decide
theorem test_meets_StrayAndGlitchPulses : (filling .snift id).isInstalled h3 = true ∧
    (filling .snift id).phase h3 ∈ [Phase.empty, .seated, .pressurize, .snift, .done] ∧
    ({ State.reset with tracker := { Tracker.powerOn with line := { LineSetup.powerOn with headCount := 24 } } } : State).isInstalled 24 = false ∧
    (filling .fast (lastAt 100)).phase h3 ∈ [Phase.fast, .slow, .settle, .topup] ∧ ((filling .fast (lastAt 100)).head h3).ticket = some ticket ∧
    ((filling .fast (lastAt 100)).head h3).lastCounted = some 100 ∧ max (filling .fast (lastAt 100)).now 139 - 100 < 40 ∧
    (ticket.glitches + 1 ≠ 16) ∧
    ((filling .fast (onTicket (fun k => { k with glitches := 15 }))).head h3).ticket.map (·.glitches) = some 15 := by decide +kernel
/-- 256·E is 12,723,200 for this ticket: one pulse of 2560 below it, and just on it; likewise 256·F, 12,288,000, and 256·E_top, 12,774,400. -/
def atVolume (d : Nat) (p : Phase) : State := filling p (fun x => lastAt 60 (onTicket (fun k => { k with d := d }) x))
theorem test_meets_CountedPulses : 256 * ticket.snapshot.e = 12723200 ∧ 256 * ticket.snapshot.f = 12288000 ∧ 256 * ticket.snapshot.eTop = 12774400 ∧
    (atVolume 0 .fast).isInstalled h3 = true ∧ ((atVolume 0 .fast).head h3).lastCounted = some 60 ∧ 40 ≤ max (atVolume 0 .fast).now 100 - 60 ∧
    (min (12285439 + ticket.snapshot.k) 268435455 : Int) < 256 * ticket.snapshot.f ∧
    256 * ticket.snapshot.f ≤ (min (12285440 + ticket.snapshot.k) 268435455 : Int) ∧
    (min (12720639 + ticket.snapshot.k) 268435455 : Int) < 256 * ticket.snapshot.e ∧
    256 * ticket.snapshot.e ≤ (min (12720640 + ticket.snapshot.k) 268435455 : Int) ∧
    (min (12771839 + ticket.snapshot.k) 268435455 : Int) < 256 * ticket.snapshot.eTop ∧
    256 * ticket.snapshot.eTop ≤ (min (12771840 + ticket.snapshot.k) 268435455 : Int) ∧
    [Phase.fast, .slow, .settle, .topup].map (fun p => ((atVolume 0 p).phase h3, ((atVolume 0 p).head h3).ticket.isSome)) =
      [(.fast, true), (.slow, true), (.settle, true), (.topup, true)] := by decide +kernel
theorem test_meets_CountedPulseCrossings :
    ((after (.meterPulse 100 h3) (atVolume 12285440 .fast)).phase h3, (after (.meterPulse 100 h3) (atVolume 12720640 .fast)).phase h3,
      (after (.meterPulse 100 h3) (atVolume 12720640 .slow)).phase h3, (after (.meterPulse 100 h3) (atVolume 12771840 .topup)).phase h3) =
      (.slow, .settle, .settle, .settle) := by decide +kernel
theorem test_meets_TicketJudgedAtDoseEnd : ticket.reasons.toNat < 32768 := by decide
def ready (fill equal : Bool) : State := filling .pressurize fun x => { x with seq := { x.seq with gasGranted := true, equalized := equal, fillReached := fill } }
theorem test_meets_InputEdgesTaken : (ready false false).isInstalled h3 = true ∧ ((ready false false).head h3).pressureEqual = false ∧
    ((ready false false).head h3).seq.phase = .pressurize ∧ ((ready true false).head h3).seq.gasGranted = true ∧
    ((ready true false).head h3).seq.equalized = false ∧ ((ready true false).head h3).seq.fillReached = true := by decide +kernel
/-- Each timer of its phase runs down at 500, the very moment of the command. -/
theorem test_meets_Expiries :
    ((filling .pressurize (timed .equalize)).phase h3, ((filling .pressurize (timed .equalize)).head h3).seq.timers.equalize) = (.pressurize, some 500) ∧
    ((filling .settle (timed .settleLimit)).phase h3, ((filling .settle (timed .settleLimit)).head h3).seq.timers.settleLimit) = (.settle, some 500) ∧
    ((filling .fast (timed .startFlow)).phase h3, ((filling .fast (timed .startFlow)).head h3).seq.timers.startFlow) = (.fast, some 500) ∧
    ((filling .topup (timed .stall)).phase h3, ((filling .topup (timed .stall)).head h3).seq.timers.stall) = (.topup, some 500) ∧
    ((filling .snift (timed .snift)).phase h3, ((filling .snift (timed .snift)).head h3).seq.timers.snift) = (.snift, some 500) ∧
    (filling .settle id).isInstalled h3 = true ∧ 500 ≤ max (filling .settle id).now 500 ∧ max (filling .settle id).now 499 < 500 := by decide +kernel
/-- A first settle that meets the top-up test (final 49,699, one below Vt + T − U), one that just does not, and a second settle. -/
theorem test_meets_FlowStillEndsSettle :
    (after (.flowStillExpiry 500 h3) (filling .settle fun x => settled .first (onTicket (fun k => { k with d := 49699 * 256 + 127 }) x))).phase h3 = .topup ∧
    (after (.flowStillExpiry 500 h3) (filling .settle fun x => settled .first (onTicket (fun k => { k with d := 49699 * 256 + 128 }) x))).phase h3 = .snift ∧
    ((filling .settle (settled .second)).head h3).seq.settle = .second := by decide +kernel
theorem test_meets_InfeedCrossingSeats : ((filling .empty id).head h3).record.service = .inn ∧ ((filling .empty id).head h3).seq.phase = .empty ∧
    ((filling .empty id).head h3).presence = true ∧ ((filling .empty id).head h3).record.presenceReleased = true ∧
    ((filling .empty id).head h3).record.slot = some n2 ∧ (filling .empty id).usedRevision h3 = some rev ∧ (filling .empty id).transit.length ≤ 64 ∧
    ((filling .empty fun x => { x with record := { x.record with presenceReleased := false } }).head h3).record.presenceReleased = false := by
  decide +kernel
theorem test_meets_Crossings : [Phase.empty, .seated, .pressurize, .fast, .slow, .settle, .topup, .snift, .done].map (fun p => (filling p id).phase h3) =
    [.empty, .seated, .pressurize, .fast, .slow, .settle, .topup, .snift, .done] ∧
    ((ready false true).head h3).seq.equalized = true ∧ ((ready false false).head h3).seq.equalized = false ∧
    ((filling .fast id).head h3).ticket = some ticket := by decide +kernel
/-- A full list of 64 tickets and one of 63; a ticket counted at dose end and one not; a head two faults in. -/
theorem test_meets_DischargeMovesTicketToTransit :
    (carrying ((List.range 64).map fun i => BitVec.ofNat 12 (100 + i)) (filling .done id)).transit.length = 64 ∧
    (carrying ((List.range 63).map fun i => BitVec.ofNat 12 (100 + i)) (filling .done id)).transit.length < 64 ∧
    ticket.faultReason = none ∧ (ticket.addReason .low).faultReason.isSome = true ∧
    3 ≤ ((filling .snift fun x => { x with record := { x.record with faultCount := 2 } }).head h3).record.faultCount + 1 := by decide +kernel
/-- A revision of the old slot and one of the new, and head 3 moving from slot 2 to slot 4; a second member on slot 2 where it is to stand. -/
def moving (pending : Option Revision) (unadopted adopted : Nat) (uses : Bool) : State :=
  modSlot n2 (fun sl => { sl with members := 2, pending := pending, unadopted := unadopted, adopted := adopted })
    (modSlot 4 (fun sl => { sl with current := some rev })
      (filling .empty fun x => { x with record := { x.record with pendingSlot := some 4, usesPending := uses } }))
theorem test_meets_CommitStepFiveLeavesOldSlot :
    let r := ((moving (some rev) 1 1 false).head h3).record
    r.pendingSlot = some 4 ∧ r.service ≠ .out ∧ r.slot = some n2 ∧ n2 ≠ 4 ∧ ((moving none 0 0 false).slot n2).pending = none ∧
    (((moving (some rev) 2 0 false).slot n2).left false).unadopted = 1 ∧ (((moving (some rev) 1 1 false).slot n2).left false).unadopted = 0 ∧
    ((moving (some rev) 1 1 true).slot n2).left true = { (moving (some rev) 1 1 true).slot n2 with members := 1, adopted := 0 } ∧
    (((commitSlot h3 (moving (some rev) 1 1 false)).slot n2).members, ((commitSlot h3 (moving (some rev) 1 1 false)).slot 4).members) = (1, 1) ∧
    ((commitSlot h3 (moving (some rev) 1 1 false)).slot n2).pending = none := by decide +kernel
def committing (f : HeadRecord → HeadRecord) : State := filling .empty fun x => { x with record := f x.record }
/-- A pending revision on slot 2 with this many heads unadopted. -/
def staged (unadopted : Nat) (s : State) : State := modSlot n2 (fun sl => { sl with pending := some rev, unadopted := unadopted }) s
theorem test_meets_CommitStepsInOrder : ((committing fun r => { r with stray := 7 }).head h3).record.stray ≤ 7 ∧
    8 ≤ ((committing fun r => { r with stray := 8 }).head h3).record.stray ∧ ((committing id).head h3).record.stagedK = none ∧
    ((committing fun r => { r with stagedK := some 256 }).head h3).record.stagedK = some 256 ∧
    ((committing fun r => { r with resetStaged := true }).head h3).record.resetStaged = true ∧ ((committing id).head h3).record.resetStaged = false ∧
    ((committing id).head h3).record.pendingSlot = none ∧ ((committing fun r => { r with pendingSlot := some 4 }).head h3).record.pendingSlot = some 4 ∧
    ((staged 1 (committing id)).slot n2).pending = some rev ∧ ((staged 1 (committing id)).slot n2).unadopted = 1 ∧
    1 < ((staged 2 (committing id)).slot n2).unadopted ∧ ((committing id).head h3).record.usesPending = false ∧
    [Service.out, .joining, .inn, .leaving].map (fun v => ((committing fun r => { r with service := v }).head h3).record.service) =
      [.out, .joining, .inn, .leaving] := by decide +kernel
theorem test_meets_MembersAndPromotion : ((staged 1 (committing id)).slot n2).pending = some rev ∧ ((committing id).head h3).record.slot = some n2 ∧
    (((staged 1 (committing id)).slot n2).left false).unadopted = 0 ∧ (((staged 2 (committing id)).slot n2).left false).unadopted ≠ 0 ∧
    ((committing id).slot n2).pending = none ∧ ((becomeOut h3 (committing id)).slot n2).current = some rev ∧
    ((becomeOut h3 (modSlot n2 (fun sl => { sl with current := none }) (committing id))).slot n2).current = none := by decide +kernel
theorem test_meets_GrantEnergisesPilots : ((filling .pressurize id).head h3).ticket = some ticket ∧ ((filling .pressurize id).head h3).pressureEqual = false ∧
    ((filling .pressurize fun x => { x with pressureEqual := true }).head h3).pressureEqual = true ∧
    [Phase.pressurize, .topup, .snift].map (fun p => ((filling p id).head h3).seq.phase) = [.pressurize, .topup, .snift] := by decide +kernel
def queuing (s : State) : State := queueOpen .gas h3 s
theorem test_meets_ArbiterGrantsInOrder : QueueSorted (queuing (filling .pressurize id)) ∧
    (queuing (filling .pressurize id)).firstEligible = some { head := h3, kind := .gas, step := 0 } ∧ (queuing (filling .pressurize id)).freeBoost = some 0 ∧
    State.reset.firstEligible = none := by
  refine ⟨?_, by decide +kernel, by decide +kernel, by decide +kernel⟩
  show List.Pairwise _ [_]
  exact List.pairwise_singleton _ _
def dwellingWith (taken : Option Time) (s : State) : State :=
  modPilots h3 (fun q => q.put .gas { state := .off, released := some 100, dwellTaken := taken }) s
/-- A dwell that ends at the present moment, not yet and already taken, and one that has ended before it. -/
theorem test_meets_DwellAtThePresentMoment :
    let s (taken : Option Time) (now : Time) : State := { dwellingWith taken (queuing (filling .pressurize id)) with now := now }
    [(s none 20100).firstEligible.isSome, (s (some 20100) 20100).firstEligible.isSome, (s none 20101).firstEligible.isSome,
      (s (some 100) 20100).firstEligible.isSome] = [false, true, true, false] := by decide +kernel
def energised (p : Pilot) (s : State) : State := modPilots h3 (fun q => q.put p { state := .boost, released := none, dwellTaken := none }) s
theorem test_meets_ReleaseFollowsPilotState : (energised .gas (filling .pressurize id)).energised h3 .gas = true ∧
    (queuing (filling .pressurize id)).energised h3 .gas = false ∧
    (queuing (filling .pressurize id)).entryOf h3 = some { head := h3, kind := .gas, step := 0 } ∧ (filling .fast id).entryOf h3 = none := by decide +kernel
def boosting (t : Time) : State := { energised .gas (filling .pressurize id) with boosts := (Vector.replicate 6 none).set 0 (some { head := h3, pilots := [.gas], completion := t }) }
def dwelling : State := dwellingWith none (filling .snift id)
theorem test_meets_BoostCompletionsAndDwellEnds : (boosting 500).boosts[0] = some { head := h3, pilots := [.gas], completion := 500 } ∧
    500 ≤ max (boosting 500).now 500 ∧ max (boosting 500).now 499 < 500 ∧ (filling .fast id).boosts[0] = none ∧
    ((dwelling.head h3).pilots.get .gas).released = some 100 ∧ 100 + 100 * dwelling.tracker.line.minDwell ≤ max dwelling.now 20100 ∧
    max dwelling.now 20099 < 100 + 100 * dwelling.tracker.line.minDwell ∧ ((State.reset.head h3).pilots.get .gas).released = none ∧
    100 + 100 * dwelling.tracker.line.minDwell = max dwelling.now 20100 ∧
    ((dwelling.head h3).pilots.get .gas).dwellTaken ≠ some (max dwelling.now 20100) := by decide +kernel
theorem test_meets_DivisionCompletionJudges : ({ filling .fast id with divider := some sampleCal } : State).divider = some sampleCal ∧ 1 ≤ sampleCal.p ∧
    sampleCal.p ≤ 1048575 ∧ sampleCal.w ≤ 250000 ∧ sampleCal.dividend = sampleCal.w * 256 + sampleCal.p / 2 ∧ sampleCal.remainder = 0 ∧
    sampleCal.quotient = 0 ∧ State.reset.divider = none := by decide +kernel
def receiving (rx : Receiver) : State := { State.reset with link := { Link.powerOn with rx := rx } }
theorem test_meets_ReceiverTakesBytes : State.reset.link.rx = .hunt ∧ (receiving (.length none)).link.rx = .length none ∧
    (receiving (.length (some 0))).link.rx = .length (some 0) ∧ (receiving (.body 1 [])).link.rx = .body 1 [] ∧
    (receiving (.check 1 [1] none)).link.rx = .check 1 [1] none ∧ (receiving (.check 1 [1] (some 0xEF))).link.rx = .check 1 [1] (some 0xEF) ∧
    checkOf ([BitVec.ofNat 8 ((1 : Half).toNat / 256), BitVec.ofNat 8 (1 : Half).toNat] ++ [1]) = 0xEF8C := by decide +kernel
def queued (k : Nat) : State := { State.reset with link := { Link.powerOn with queue := List.replicate k { kind := 1, body := [] }, sending := if k = 0 then none else some { kind := 1, code := .done, attention := false, detail := 0, payload := [] } } }
theorem test_meets_FramesQueueAndAreServed : 4 ≤ (queued 4).link.queue.length ∧ (queued 3).link.queue.length < 4 ∧ (queued 1).link.queue ≠ [] ∧
    (queued 0).link.queue = [] ∧ (queued 0).link.sending = none ∧ (queued 1).link.sending.isSome = true ∧ (queued 1).link.queue.length ≤ 1 ∧
    (queued 2).link.queue = { kind := 1, body := [] } :: { kind := 1, body := [] } :: [] ∧
    (receiving (.length none)).link.rx ≠ .hunt ∧ (receiving (.length none)).link.lastByte + 2000 ≤ max (receiving (.length none)).now 2000 ∧
    max (receiving (.length none)).now 1999 < (receiving (.length none)).link.lastByte + 2000 := by decide +kernel
theorem test_request_layout : requestFrame (.findTickets 1 2 3 4 5 0x0607) = (0x05, [1, 2, 3, 4, 5, 6, 7]) ∧
    requestFrame (.calibrate 0x0102 0x03040506 7) = (0x10, [1, 2, 3, 4, 5, 6, 7]) ∧
    (requestFrame (.writeRecipe 2 block)).2.length = 43 := by decide +kernel
theorem test_meets_FramesServeTheirRows : Request.ofFrame 0x14 [] = none ∧ Request.ofFrame 0x01 [] = some .readStatus := by decide +kernel
/-- FIND TICKETS among tags 4 and 5 in transit and 7 live: every refusal at the first value past its range, the last value within each range,
matching by every field, and a start-after that names a ticket, and one that names none. -/
theorem test_meets_FindTickets :
    let s := carrying [4, 5] (filling .fast id)
    let find (head slot location disposition verdict : Byte) (start : Half) :=
      (after (.findTickets 1 head slot location disposition verdict start) s).lastAnswer.map fun a => (a.code, a.detail)
    let tags (head slot location disposition verdict : Byte) (start : Half) :=
      (after (.findTickets 1 head slot location disposition verdict start) s).lastAnswer.map fun a => a.payload.take 8
    s.searchOrder.map (·.2.tag) = [4] ++ 5 :: [7] ∧ s.installedHead 95 = some 95 ∧ s.installedHead 96 = none ∧
    [find 96 0xFF 0 0 0 0xFFFF, find 95 8 0 0 0 0xFFFF, find 95 7 3 0 0 0xFFFF, find 95 7 2 4 0 0xFFFF, find 95 7 2 3 3 0xFFFF,
      find 95 7 2 3 2 4096, find 95 7 2 3 2 4095] =
      [some (.noSuchHead, 0), some (.badField, 1), some (.badField, 2), some (.badField, 3), some (.badField, 4), some (.badField, 5),
        some (.done, 0)] ∧
    tags 3 2 0 0 0 0xFFFF = some [3, 0, 0, 4, 0, 5, 0, 7] ∧ tags 0xFF 0xFF 0 0 0 4 = some [2, 0, 0, 5, 0, 7, 0xFF, 0xFF] ∧
    tags 0xFF 0xFF 0 0 0 9 = some [3, 0, 0, 4, 0, 5, 0, 7] ∧ tags 3 2 1 1 2 0xFFFF = some [1, 0, 0, 7, 0xFF, 0xFF, 0xFF, 0xFF] ∧
    tags 3 2 2 2 1 0xFFFF = some [0, 0, 0xFF, 0xFF, 0xFF, 0xFF, 0xFF, 0xFF] ∧ tags 4 0xFF 0 0 0 0xFFFF = tags 0xFF 3 0 0 0 0xFFFF ∧
    tags 0xFF 0xFF 0 3 0 0xFFFF = some [0, 0, 0xFF, 0xFF, 0xFF, 0xFF, 0xFF, 0xFF] := by decide +kernel
theorem test_meets_ImagesLaidOut : State.reset.divider = none ∧ ({ State.reset with divider := some sampleCal } : State).divider = some sampleCal ∧
    (let p := headImage h3 { Head.powerOn true false with
        causes := { equipment := some .drip, intervention := some .repeatedFaults, fillFault := some .sniftShort, trimLimit := true, calDone := none } } 0
     [byteAt p 21, byteAt p 22, byteAt p 23, byteAt p 24, byteAt p 25, byteAt p 26]) = [1, 0, 0x0F, 1, 1, 13] ∧
    (∀ k, k < 43 → byteAt (recipeImage n2 ((filling .fast id).slot n2)) (50 + k) = 0) ∧
    byteAt (recipeImage n2 ((filling .fast id).slot n2)) 7 = 1 := by decide +kernel
theorem test_meets_Reads : 8 ≤ (8 : Byte).toNat ∧ (7 : Byte).toNat = (7 : SlotId).val ∧ (filling .fast id).installedHead 95 = some 95 ∧
    (filling .fast id).installedHead 96 = none ∧ (filling .fast id).tracker.line.headCount ≤ (96 : Byte).toNat ∧
    (filling .fast id).tracker.angle < 65536 ∧ (filling .fast id).tracker.backlog < 65536 ∧ 4095 < (4096 : Half).toNat := by decide +kernel
def lineFields : LineFields := { headCount := 48, infeed := 0, gas := 240, fill := 480, closeBy := 4800, sniftBy := 5120, discharge := 5760, commit := 7679, boostTime := 150, minDwell := 50 }
theorem test_meets_SetLineReplacesSetup : (∀ h, State.reset.isInstalled h = true → (State.reset.head h).record.service = .out) ∧
    (∀ i, lineFieldOk lineFields i) ∧ ¬lineFieldOk { lineFields with commit := 7680 } 8 ∧ lineFieldOk { lineFields with commit := 7680 } 7 ∧
    ((filling .fast id).isInstalled h3 = true ∧ ((filling .fast id).head h3).record.service ≠ .out) := by
  refine ⟨by decide +kernel, ?_, by simp [lineFieldOk], by simp [lineFieldOk, lineFields], by decide +kernel⟩
  intro i; unfold lineFieldOk; split <;> simp [lineFields]
theorem test_meets_RecipeRequestsServed : (∀ i, blockFieldOk block i) ∧ ¬blockFieldOk { block with vt := 999 } 1 ∧
    blockFieldOk { block with vt := 1000 } 1 ∧ (State.reset.slot n2).current = none ∧ ((filling .fast id).slot n2).current.isSome = true ∧
    ((filling .fast id).slot n2).members ≠ 0 ∧ ((filling .fast id).slot n2).pending = none ∧
    ((staged 1 (filling .fast id)).slot n2).pending.isSome = true ∧ ((staged 1 (filling .fast id)).slot n2).adopted = 0 ∧
    ((modSlot n2 (fun sl => { sl with adopted := 1 }) (staged 1 (filling .fast id))).slot n2).adopted ≠ 0 := by
  refine ⟨?_, by simp [blockFieldOk], by simp [blockFieldOk], by decide +kernel, by decide +kernel, by decide +kernel, by decide +kernel,
    by decide +kernel, by decide +kernel, by decide +kernel⟩
  intro i; unfold blockFieldOk; split <;> simp [block]
/-- Each refusal of SET HEAD in turn, and an accepted request. -/
theorem test_meets_SetHeadJudgedAsWhole :
    let s := filling .fast fun x => { x with causes := { x.causes with equipment := some .drip }, record := { x.record with service := .leaving } }
    let code (i : Instr) (s : State) := (after i s).lastAnswer.map fun a => (a.code, a.detail)
    code (.setHead 1 96 0 0 0xFF 0) s = some (.noSuchHead, 0) ∧ code (.setHead 1 3 3 0 0xFF 0) s = some (.badField, 1) ∧
    code (.setHead 1 3 0 255 0xFF 0) s = some (.badField, 2) ∧ code (.setHead 1 3 0 256 8 0) s = some (.badField, 3) ∧
    code (.setHead 1 3 0 256 7 2) s = some (.badField, 4) ∧ code (.setHead 1 3 0 0 0x80 0) s = some (.notAllowed, 0) ∧
    code (.setHead 1 3 0 0 7 0) s = some (.slotEmpty, 0) ∧ code (.setHead 1 3 1 0 0xFF 0) s = some (.notAllowed, 0) ∧
    code (.setHead 1 4 1 0 0xFF 0) s = some (.notAllowed, 0) ∧ code (.setHead 1 4 1 0 7 0) s = some (.slotEmpty, 0) ∧
    code (.setHead 1 4 1 0 2 1) s = some (.done, 0) := by decide +kernel
theorem test_meets_Resets : (filling .fast id).installedHead (3 : Byte).toNat = some h3 ∧ (filling .fast id).installedHead (96 : Byte).toNat = none ∧
    ({ filling .snift id with divider := some sampleCal } : State).divider.any (fun c => decide (c.head = h3)) = true ∧
    (filling .snift id).energised h3 .snift = false ∧ (filling .snift id).phase h3 = .snift ∧ (filling .empty id).outAtReset h3 = true ∧
    (filling .fast id).outAtReset h3 = false ∧ (filling .fast id).leavingAtReset h3 = true ∧
    (300 ≤ rev.recipe.aMax ∧ ((filling .empty id).slot n2).pending = none) ∧
    (∀ h, ((filling .fast id).phase h).filling = true → ((filling .fast id).head h).record.service ≠ .joining) ∧
    ({ State.reset with tracker := { Tracker.powerOn with line := { LineSetup.powerOn with headCount := 24 } } } : State).isInstalled 24 = false ∧
    (State.reset.head 24).record.slot = none := by decide +kernel
/-- LINE RESET takes an IN head in EMPTY out of its slot with its A, and records a cancelled calibration. -/
theorem test_line_reset_leaves :
    let u := after (.lineReset 1) { filling .empty id with divider := some sampleCal }
    ((u.head h3).record.service, (u.head h3).record.a, (u.slot n2).members, (u.head h3).record.calResult) =
      (.out, 300, 0, some { outcome := .cancelled, kNew := none, tag := 7 }) := by decide +kernel
theorem test_meets_TicketRequests : 4095 < (4096 : Half).toNat ∧ (4095 : Half).toNat = (4095 : Tag).toNat ∧ (filling .fast id).liveTag 7 ∧
    (8 : Tag) ∉ (filling .fast id).tags ∧ (carrying [4, 5] (filling .fast id)).transit.map (·.tag) = [4] ++ [5] ∧
    ¬(carrying [4, 5] (filling .fast id)).liveTag 5 := by
  refine ⟨by decide, by decide, ⟨h3, ticket, by decide +kernel, by decide +kernel⟩, by decide +kernel, by decide +kernel, ?_⟩
  have : ∀ h, ((carrying [4, 5] (filling .fast id)).head h).ticket.all (fun k => decide (k.tag ≠ 5)) = true := by decide +kernel
  rintro ⟨h, tk, h1, h2⟩
  have := this h
  rw [h1] at this
  simp [h2] at this
theorem test_meets_Keep : (carrying [4, 5] (filling .fast id)).keptCount < 8 ∧
    8 ≤ ({ State.reset with transit := List.replicate 8 { ticket with kept := true } } : State).keptCount := by decide +kernel
/-- A trim of 200 stands at T_max: a level of −10 asks for 218, a level of 0 for 200. -/
theorem test_meets_TrimStepTaken :
    let s := carrying [4] (filling .fast fun x => { x with record := { x.record with t := 200, drift := 3 } })
    ((after (.verdict 1 4 0xFFF6) s).head h3).record.drift = 4 ∧ ((after (.verdict 1 4 0xFFF6) s).head h3).causes.trimLimit = true ∧
    ((after (.verdict 1 4 0) s).head h3).record.pendingT = some 200 ∧ ((after (.verdict 1 4 0) s).head h3).record.drift = 3 ∧
    s.learningHold = false ∧ (s.head h3).record.slot = some ticket.slot ∧ (s.head h3).record.pendingSlot = none ∧
    s.usedRevision h3 = some rev := by decide +kernel
theorem test_meets_CalibrateServed : (100 ≤ (100 : Wide).toNat ∧ (250000 : Wide).toNat ≤ 250000) ∧ 1 < (2 : Byte).toNat ∧ (1 : Byte).toNat ≤ 1 ∧
    (carrying [4] (filling .fast id)).divider = none ∧ ticket.head.val < (filling .fast id).tracker.line.headCount ∧ ticket.p = 0 ∧
    ((after (.calibrate 1 4 99 0) (carrying [4] (filling .fast id))).lastAnswer.map fun a => (a.code, a.detail)) = some (.badField, 1) := by decide +kernel
theorem test_meets_ClearAttention : (0xE0 : Byte).getLsbD 0 = false ∧ (0xE0 : Byte).getLsbD 7 = true ∧ (0x1F : Byte).getLsbD 4 = true ∧
    (0x1F : Byte).getLsbD 5 = false ∧ (95 : Byte).toNat = (95 : HeadId).val ∧ (95 : HeadId).val < State.reset.tracker.line.headCount ∧
    ((filling .fast id).head h3).record.service ≠ .out ∧ (State.reset.head h3).record.service = .out := by decide +kernel

/-- A head IN on slot 2 with A at A_max, pending A 0, T at −T_max and pending T at T_max meets the invariant of R38, away from reset. -/
def bounded : State := committing fun r => { r with a := 1000, pendingA := some 0, t := -200, pendingT := some 200 }
theorem test_meets_RecordsStayInRange : ValuesFollowRevision bounded := by
  refine ⟨by unfold MembersCounted; decide +kernel, fun n v hv => ?_, by decide +kernel, fun h => ?_⟩
  · have key : ∀ n : SlotId, ((bounded.slot n).current.toList ++ (bounded.slot n).pending.toList).all
        (fun v => decide (v.recipe.aInit ≤ v.recipe.aMax)) = true := by decide +kernel
    have := key n
    simp only [List.all_append, Bool.and_eq_true, List.all_eq_true, Option.mem_toList, decide_eq_true_eq] at this
    exact hv.elim (this.1 v) (this.2 v)
  · have key : ∀ h : HeadId, (h = h3 ∧ bounded.usedRevision h = some rev ∧ (bounded.head h).record.a = 1000 ∧
        (bounded.head h).record.pendingA = some 0 ∧ (bounded.head h).record.t = -200 ∧ (bounded.head h).record.pendingT = some 200) ∨
        (bounded.usedRevision h = none ∧ (bounded.head h).record.a = 0 ∧ (bounded.head h).record.t = 0 ∧
        (bounded.head h).record.pendingA = none ∧ (bounded.head h).record.pendingT = none) := by decide +kernel
    have bounds : rev.recipe.aMax = 1000 ∧ rev.recipe.tMax = 200 := by decide
    rcases key h with ⟨-, e, ea, ep, et, eq⟩ | ⟨e, ea, et, ep, eq⟩
    · simp [e, ea, ep, et, eq, bounds]
    · simp [e, ea, ep, et, eq]

end Sys2Proof.Tests
end

section
/-! SUPPORT. SET LINE (R3, R4): its field pass, the heads it removes, the calibration it cancels. -/

namespace Sys2Proof.Machine

/-! ## The first failing field of a field pass -/

/-- Where each check tests its field's condition, the field pass names the least field that fails. -/
theorem firstBad_eq_some {ok : Nat → Prop} {checks : List (Nat × Bool)} (tests : ∀ c ∈ checks, c.2 = true ↔ ok c.1)
    (ascending : (checks.map (·.1)).Pairwise (· < ·)) {i : Nat} (hi : i ∈ checks.map (·.1)) (bad : ¬ok i)
    (before : ∀ j ∈ checks.map (·.1), j < i → ok j) : firstBad checks = some i := by
  induction checks with
  | nil => cases hi
  | cons c rest ih =>
    rw [List.map_cons, List.pairwise_cons] at ascending
    rw [List.map_cons, List.mem_cons] at hi
    have test := tests c List.mem_cons_self
    obtain rfl | hi := hi
    · have : c.2 = false := by rwa [← Bool.not_eq_true, test]
      simp [firstBad, this]
    · have : c.2 = true := test.mpr (before c.1 List.mem_cons_self (ascending.1 i hi))
      have := ih (fun d hd => tests d (List.mem_cons_of_mem c hd)) ascending.2 hi fun j hj => before j (List.mem_cons_of_mem _ hj)
      simpa [firstBad, *] using this

/-- Where every field's condition holds, the field pass names none. -/
theorem firstBad_eq_none {ok : Nat → Prop} {checks : List (Nat × Bool)} (tests : ∀ c ∈ checks, c.2 = true ↔ ok c.1)
    (all : ∀ j ∈ checks.map (·.1), ok j) : firstBad checks = none := by
  simp only [firstBad, Option.map_eq_none_iff, List.find?_eq_none]
  intro c hc
  simp [(tests c hc).mpr (all c.1 (List.mem_map_of_mem hc))]

/-- The numbered checks of SET LINE (R3). -/
def lineChecks (f : LineFields) : List (Nat × Bool) :=
  [(1, headCounts.contains f.headCount.toNat), (2, decide (f.infeed.toNat < Config.counts)), (3, zoneAfter f.infeed f.gas),
   (4, zoneAfter f.gas f.fill), (5, zoneAfter f.fill f.closeBy), (6, zoneAfter f.closeBy f.sniftBy),
   (7, zoneAfter f.sniftBy f.discharge), (8, zoneAfter f.discharge f.commit),
   (9, decide (10 ≤ f.boostTime.toNat ∧ f.boostTime.toNat ≤ 150)), (10, decide (50 ≤ f.minDwell.toNat ∧ f.minDwell.toNat ≤ 1000))]

theorem lineFirstBad_eq (f : LineFields) : lineFirstBad f = firstBad (lineChecks f) := rfl

theorem lineChecks_numbers (f : LineFields) : (lineChecks f).map (·.1) = List.range' 1 10 := rfl

theorem lineChecks_test (f : LineFields) : ∀ c ∈ lineChecks f, c.2 = true ↔ lineFieldOk f c.1 := by
  simp [lineChecks, lineFieldOk, headCounts, zoneAfter]

/-! ## The accepted SET LINE -/

/-- A fold of one change over different heads changes each of them once. -/
theorem head_foldl_modHead (f : Head → Head) (j : HeadId) : ∀ {l : List HeadId} (_ : l.Nodup) (s : State),
    (l.foldl (fun acc h => modHead h f acc) s).head j = if j ∈ l then f (s.head j) else s.head j
  | [], _, s => by simp
  | a :: l, nodup, s => by
    obtain ⟨fresh, nodup⟩ := List.nodup_cons.mp nodup
    rw [List.foldl_cons, head_foldl_modHead f j nodup, head_modHead]
    by_cases e : j = a
    · subst e; simp [fresh]
    · simp [e]

theorem nodup_installed (s : State) : s.installed.Nodup := (List.nodup_finRange 96).filter _

theorem mem_installed {s : State} {h : HeadId} : h ∈ s.installed ↔ s.isInstalled h = true := by simp [State.installed]

/-- The heads at or above the new head count that were installed return to their power-on records (R4). -/
theorem head_removeHeads (n : Nat) (s : State) (h : HeadId) :
    (removeHeads n s).head h = if s.isInstalled h = true ∧ n ≤ h.val then (s.head h).removed else s.head h := by
  rw [removeHeads, head_foldl_modHead _ h ((nodup_installed s).filter _)]
  simp [mem_installed]

/-- Removing heads changes nothing but the heads. -/
theorem removeHeads_eq (n : Nat) (s : State) : removeHeads n s = { s with heads := (removeHeads n s).heads } := by
  unfold removeHeads
  generalize s.installed.filter _ = l
  induction l generalizing s with
  | nil => rfl
  | cons a l ih => rw [List.foldl_cons, ih]; rfl

/-- The cancelling changes nothing but the divider. -/
theorem dropRemovedCalibration_eq (n : Nat) (s : State) :
    dropRemovedCalibration n s = { s with divider := (dropRemovedCalibration n s).divider } := by
  unfold dropRemovedCalibration
  split
  · rfl
  · split <;> rfl

/-- A calibration in flight for a removed head is cancelled without a result (R4, R160). -/
theorem dropRemovedCalibration_removed {n : Nat} {s : State} {c : Calibration} (e : s.divider = some c)
    (gone : s.isInstalled c.head = true ∧ n ≤ c.head.val) : (dropRemovedCalibration n s).divider = none := by
  simp only [dropRemovedCalibration, e, gone.symm, and_self, if_true]

/-- Any other calibration goes on (R4). -/
theorem dropRemovedCalibration_kept {n : Nat} {s : State}
    (stays : ∀ c, s.divider = some c → ¬(s.isInstalled c.head = true ∧ n ≤ c.head.val)) :
    (dropRemovedCalibration n s).divider = s.divider := by
  unfold dropRemovedCalibration
  split
  · rfl
  next c e => rw [if_neg (mt And.symm (stays c e))]

/-- What an accepted SET LINE has made of the part before the grants follow (R4). -/
def relined (l : LineSetup) (s : State) : State :=
  let s' := removeHeads l.headCount (dropRemovedCalibration l.headCount s)
  judgeLine { s' with tracker := { s'.tracker with line := l } }

theorem applyLine_eq (l : LineSetup) (s : State) : applyLine l s = arbitrate (relined l s) := rfl

theorem relined_tracker (l : LineSetup) (s : State) : (relined l s).tracker = { s.tracker with line := l } := by
  rw [relined, removeHeads_eq, dropRemovedCalibration_eq]; rfl

theorem relined_divider (l : LineSetup) (s : State) :
    (relined l s).divider = (dropRemovedCalibration l.headCount s).divider := by
  rw [relined, removeHeads_eq]; rfl

theorem head_relined (l : LineSetup) (s : State) (h : HeadId) :
    (relined l s).head h = if s.isInstalled h = true ∧ l.headCount ≤ h.val then (s.head h).removed else s.head h := by
  refine (head_removeHeads l.headCount _ h).trans ?_
  rw [dropRemovedCalibration_eq]; rfl

/-- An accepted SET LINE replaces line setup, heads and divider, and the line is judged again. -/
theorem relined_eq (l : LineSetup) (s : State) : relined l s =
    judgeLine { s with tracker := (relined l s).tracker, heads := (relined l s).heads, divider := (relined l s).divider } := by
  rw [relined, removeHeads_eq, dropRemovedCalibration_eq]; rfl

theorem exec_setLine (t : Time) (f : LineFields) (s : State) :
    exec (.setLine t f) s = .next (replied 0x06 (serveSetLine f (s.advance t))) := rfl

/-- Every installed head is OUT (R3). -/
theorem installed_all_out {s : State} : s.installed.all (fun h => decide ((s.head h).record.service = .out)) = true ↔
    ∀ h, s.isInstalled h = true → (s.head h).record.service = .out := by
  simp [mem_installed]

theorem serveSetLine_refused {f : LineFields} {s : State} (busy : ¬∀ h, s.isInstalled h = true → (s.head h).record.service = .out) :
    serveSetLine f s = (s, .plain .notAllowed) := by
  rw [serveSetLine, if_neg (mt installed_all_out.mp busy)]

theorem serveSetLine_badField {f : LineFields} {s : State} (out : ∀ h, s.isInstalled h = true → (s.head h).record.service = .out)
    {i : Nat} (bad : lineFirstBad f = some i) : serveSetLine f s = (s, .badField i) := by
  rw [serveSetLine, if_pos (installed_all_out.mpr out), bad]

theorem serveSetLine_accepted {f : LineFields} {s : State} (out : ∀ h, s.isInstalled h = true → (s.head h).record.service = .out)
    (good : lineFirstBad f = none) : serveSetLine f s = (applyLine (lineSetupOf f) s, .done) := by
  rw [serveSetLine, if_pos (installed_all_out.mpr out), good]

/-- Settles O36: the three answers of the serving, the field pass by its tests, the accepted one by what it makes of the part. -/
theorem setLineReplacesSetup : Obligations.SetLineReplacesSetup := by
  intro t f s s' allOut removed
  refine ⟨fun busy => ?_, fun i out lo hi bad before => ?_, fun out good => ?_⟩
  · rw [exec_setLine, serveSetLine_refused (s := s.advance t) busy]; rfl
  · have number (j : Nat) : j ∈ (lineChecks f).map (·.1) ↔ 1 ≤ j ∧ j ≤ 10 := by
      rw [lineChecks_numbers, List.mem_range'_1]; omega
    have first : lineFirstBad f = some i := (lineFirstBad_eq f).trans <| firstBad_eq_some (lineChecks_test f)
      (by rw [lineChecks_numbers]; exact List.pairwise_lt_range') ((number i).mpr ⟨lo, hi⟩) bad
      fun j hj => before j ((number j).mp hj).1
    rw [exec_setLine, serveSetLine_badField (s := s.advance t) out first]; rfl
  · have passes : lineFirstBad f = none :=
      (lineFirstBad_eq f).trans <| firstBad_eq_none (lineChecks_test f) fun j _ => good j
    refine ⟨relined (lineSetupOf f) s', ?_, relined_tracker _ _, fun h gone => ?_, fun h stays => ?_, fun c running gone => ?_,
      fun stays => ?_, relined_eq _ _⟩
    · rw [exec_setLine, serveSetLine_accepted (s := s.advance t) out passes, applyLine_eq]; rfl
    · rw [head_relined]; exact if_pos gone
    · rw [head_relined]; exact if_neg stays
    · rw [relined_divider]; exact dropRemovedCalibration_removed running gone
    · rw [relined_divider]; exact dropRemovedCalibration_kept (s := s') stays

end Sys2Proof.Machine
end

section
/-! SUPPORT. The tracker's count under every command: which commands can move it, and that the others leave everything of it but the
line setup (R2, R4). -/

/-- The commands that can move the tracker's count. -/
def Sys2Proof.Instr.movesTracker : Instr → Bool
  | .powerOn _ | .forwardStep _ | .reverseStep _ | .indexEvent _ => true
  | _ => false

namespace Sys2Proof.Machine

/-! ## The outer part under the requests of head table, ticket table and correction unit -/

@[simp] theorem applyHeadFields_outer (f : HeadFields) (h : HeadId) (s : State) : (applyHeadFields f h s).outer = s.outer := by
  have hK (k : Option Nat) (u : State) : (applyK k h u).outer = u.outer := by unfold applyK; split <;> simp
  have hSlot (sl : SlotField) (u : State) : (applySlot sl h u).outer = u.outer := by
    unfold applySlot; split
    · rfl
    · split <;> rfl
  have hReset (b : Bool) (u : State) : (applyReset b h u).outer = u.outer := by
    unfold applyReset; split
    · rfl
    · split <;> rfl
  have hService (sv : ServiceField) (u : State) : (applyService sv h u).outer = u.outer := by unfold applyService; split <;> simp
  simp [applyHeadFields, hK, hSlot, hReset, hService]

@[simp] theorem retireTicket_outer (tag : Tag) (s : State) : (retireTicket tag s).outer = s.outer := rfl
@[simp] theorem retireMissed_outer (tag : Tag) (s : State) : (retireMissed tag s).outer = s.outer := by
  unfold retireMissed; simp only; split <;> simp
@[simp] theorem trimHead_outer (rev : Revision) (step : Int) (h : HeadId) (s : State) : (trimHead rev step h s).outer = s.outer := by
  unfold trimHead; simp only; split <;> simp
@[simp] theorem trimFrom_outer (tk : Ticket) (s : State) : (trimFrom tk s).outer = s.outer := by
  unfold trimFrom; split
  · split <;> simp
  · rfl
@[simp] theorem recordVerdict_outer (v : Verdict) (tk : Ticket) (s : State) : (recordVerdict v tk s).outer = s.outer := by
  unfold recordVerdict; simp only; split <;> simp
@[simp] theorem clearHead_outer (kinds : Byte) (h : HeadId) (s : State) : (clearHead kinds h s).outer = s.outer := by
  unfold clearHead; simp only; split <;> simp
@[simp] theorem resetSequencer_outer (h : HeadId) (s : State) : (resetSequencer h s).outer = s.outer := by simp [resetSequencer]
@[simp] theorem resetRecord_outer (h : HeadId) (s : State) : (resetRecord h s).outer = s.outer := by simp [resetRecord]
@[simp] theorem resetSequencers_outer (s : State) : (resetSequencers s).outer = s.outer := by
  simp [resetSequencers, forInstalled_outer requeueSnift requeueSnift_outer,
    forInstalled_outer (forceToSnift .reset) (forceToSnift_outer .reset)]
@[simp] theorem resetRecords_outer (s : State) : (resetRecords s).outer = s.outer := forInstalled_outer _ (fun h u => by simp) s
@[simp] theorem clearAllCauses_outer (s : State) : (clearAllCauses s).outer = s.outer :=
  forInstalled_outer (fun h u => modCauses h (fun _ => .clear) u) (fun _ _ => rfl) s

/-! ## The tracker under every request but SET LINE -/

theorem cancelCalibration_tracker (s : State) : (cancelCalibration s).tracker = s.tracker := by
  unfold cancelCalibration; split <;> rfl

theorem cancelForHead_tracker (h : HeadId) (s : State) : (cancelForHead h s).tracker = s.tracker := by
  unfold cancelForHead; split
  · exact cancelCalibration_tracker s
  · rfl

theorem resetHead_tracker (h : HeadId) (s : State) : (resetHead h s).tracker = s.tracker := calc
  (resetHead h s).tracker
    = (cancelForHead h (changeCauses h (fun _ => .clear) (resetRecord h (resetSequencer h s)))).tracker :=
      outer_tracker (arbitrate_outer _)
  _ = (changeCauses h (fun _ => .clear) (resetRecord h (resetSequencer h s))).tracker := cancelForHead_tracker _ _
  _ = s.tracker := outer_tracker (by simp)

theorem resetLine_tracker (s : State) : (resetLine s).tracker = s.tracker := calc
  (resetLine s).tracker
    = (cancelCalibration (clearAllCauses (putTransit [] (resetRecords (resetSequencers s))))).tracker :=
      outer_tracker (arbitrate_outer _)
  _ = (clearAllCauses (putTransit [] (resetRecords (resetSequencers s)))).tracker := cancelCalibration_tracker _
  _ = s.tracker := outer_tracker (by simp)

theorem completeDivision_tracker (c : Calibration) (s : State) : (completeDivision c s).tracker = s.tracker := by
  have recorded (o : CalOutcome) (k : Option Nat) (u : State) :
      (recordOutcome c.head o k c.tag { u with divider := none }).tracker = u.tracker := rfl
  unfold completeDivision; simp only [recorded]; split
  · exact outer_tracker (writeK_outer _ _ s)
  · rfl

theorem serve_tracker {r : Request} (notLine : ∀ f, r ≠ .setLine f) (s : State) : (serve r s).1.tracker = s.tracker := by
  cases r with
  | readStatus => rfl
  | readHead head => simp only [serve, serveReadHead]; split <;> rfl
  | readRecipe slot => simp only [serve, serveReadRecipe]; split <;> rfl
  | readTicket selector number => rfl
  | findTickets head slot location disposition verdictPresent startAfter => rfl
  | setLine f => exact absurd rfl (notLine f)
  | writeRecipe slot block =>
    simp only [serve, serveWriteRecipe]
    split
    · rfl
    · split
      · rfl
      · split
        · rfl
        · rfl
        · split <;> rfl
  | eraseRecipe slot =>
    simp only [serve, serveEraseRecipe]
    split
    · rfl
    · split <;> rfl
  | setHead head service k slot resetLearning =>
    simp only [serve, serveSetHead]
    split
    · rfl
    · split
      · rfl
      · split
        · rfl
        · exact outer_tracker (applyHeadFields_outer _ _ s)
  | headReset head =>
    simp only [serve, serveHeadReset]
    split
    · rfl
    · exact resetHead_tracker _ s
  | lineReset => exact resetLine_tracker s
  | abortFill head =>
    simp only [serve, serveAbortFill]
    split
    · exact outer_tracker (abortAll_outer .aborted s)
    · split
      · rfl
      · exact outer_tracker (by simp)
  | verdict tag level =>
    simp only [serve, serveVerdict]
    split
    · rfl
    · split
      · rfl
      · exact outer_tracker (by simp)
  | keep tag =>
    simp only [serve, serveKeep]
    split
    · rfl
    · split
      · rfl
      · split
        · rfl
        · split <;> rfl
  | retire tag =>
    simp only [serve, serveRetire]
    split
    · rfl
    · split <;> rfl
  | calibrate tag w force =>
    simp only [serve, serveCalibrate]
    split
    · rfl
    · split
      · rfl
      · split
        · rfl
        · split
          · rfl
          · split <;> rfl
  | holdLearning hold => simp only [serve, serveHoldLearning]; split <;> rfl
  | clearAttention target kinds =>
    simp only [serve, serveClearAttention]
    split
    · split <;> rfl
    · split
      · rfl
      · split
        · rfl
        · split
          · rfl
          · exact outer_tracker (clearHead_outer kinds _ s)
  | setMask kinds => rfl

/-! ## Everything of the tracker but its line setup -/

/-- The tracker's items but the line setup stand. -/
def TrackerStands (s t : State) : Prop := t.tracker = { s.tracker with line := t.tracker.line }

theorem TrackerStands.of_eq {s t : State} (e : t.tracker = s.tracker) : TrackerStands s t := by rw [TrackerStands, e]

theorem TrackerStands.of_outer {s u : State} {t : Time} (e : u.outer = (s.advance t).outer) : TrackerStands s u :=
  .of_eq (outer_tracker e : u.tracker = (s.advance t).tracker)

theorem TrackerStands.trans {s t u : State} (a : TrackerStands s t) (b : TrackerStands t u) : TrackerStands s u := by
  rw [TrackerStands] at *
  rw [b, a]

theorem TrackerStands.legal {s t : State} (e : TrackerStands s t) (hs : TrackerLegal s) : TrackerLegal t := by
  rw [TrackerLegal, e]; exact hs

/-- SET LINE replaces the line setup alone of the tracker's items (R4). -/
theorem applyLine_tracker (l : LineSetup) (s : State) : (applyLine l s).tracker = { s.tracker with line := l } :=
  (outer_tracker (arbitrate_outer _)).trans (relined_tracker l s)

theorem serve_trackerStands (r : Request) (s : State) : TrackerStands s (serve r s).1 := by
  by_cases notLine : ∀ f, r ≠ .setLine f
  · exact .of_eq (serve_tracker notLine s)
  · obtain ⟨f, rfl⟩ : ∃ f, r = .setLine f := by simpa using notLine
    simp only [serve, serveSetLine]
    split
    · split
      · rfl
      · exact (applyLine_tracker _ s).trans (by rw [applyLine_tracker])
    · rfl

theorem serveNext_trackerStands (s : State) : TrackerStands s (serveNext s) := by
  unfold serveNext serveFrame
  split
  · rfl
  · split
    · rfl
    · exact serve_trackerStands _ s

theorem takeByte_trackerStands (b : Byte) (s : State) : TrackerStands s (takeByte b s) := by
  unfold takeByte frameArrives
  simp only
  split
  · rfl
  · split
    · split
      · exact serveNext_trackerStands _
      · rfl
    · rfl

/-! ## Commands -/

/-- A request row is served as the link would serve it, at its moment (R193, log entry 3). -/
theorem exec_requestCommand (t : Time) (r : Request) (s : State) :
    exec (requestCommand t r) s = .next (replied (requestFrame r).1 (serve r (s.advance t))) := by
  cases r <;> rfl

/-- Every other command leaves the tracker's items but the line setup. -/
theorem exec_trackerStands {c : Instr} {s u : State} (hc : c.movesTracker = false) (e : exec c s = .next u) :
    TrackerStands s u := by
  have request (r : Request) (t : Time) (e : exec (requestCommand t r) s = .next u) : TrackerStands s u := by
    rw [exec_requestCommand] at e
    cases e
    exact serve_trackerStands r (s.advance t)
  have expiry (n : TimerName) (act : HeadId → State → State) (ha : ∀ h s, (act h s).outer = s.outer) (t : Time) (h : HeadId) :
      TrackerStands s (takeExpiry n act h (s.advance t)) := .of_outer (takeExpiry_outer n act ha h (s.advance t))
  cases c with
  | powerOn t => cases hc
  | forwardStep t => cases hc
  | reverseStep t => cases hc
  | indexEvent t => cases hc
  | directionlessChange t => cases e; rfl
  | meterPulse t h =>
    cases e
    split
    · exact .of_outer (meterPulse_outer h (s.advance t))
    · rfl
  | presenceEdge t h level => cases e; rfl
  | pressureEqualEdge t h level =>
    cases e
    split
    · exact .of_outer (countedEdge_outer h _)
    · rfl
  | equalizeExpiry t h => cases e; exact expiry _ _ (forceToSnift_outer _) t h
  | startFlowExpiry t h => cases e; exact expiry _ _ (forceToSettle_outer _) t h
  | stallExpiry t h => cases e; exact expiry _ _ (forceToSettle_outer _) t h
  | flowStillExpiry t h => cases e; exact expiry _ _ flowStill_outer t h
  | settleLimitExpiry t h => cases e; exact expiry _ _ (equipmentEnding_outer _ _) t h
  | sniftExpiry t h => cases e; exact expiry _ _ sniftDone_outer t h
  | boostCompletion t i =>
    simp only [exec, execBoostCompletion] at e
    split at e
    · cases e; rfl
    · cases e
      split
      · exact .of_outer ((arbitrate_outer _).trans (completeBoost_outer _ _ _))
      · rfl
  | dwellEnd t h p =>
    simp only [exec, execDwellEnd] at e
    split at e
    · cases e; rfl
    · cases e
      split
      · exact .of_outer (takeDwellEnd_outer _ h p _)
      · rfl
  | divisionCompletion t =>
    simp only [exec, execDivisionCompletion] at e
    split at e
    · cases e; rfl
    · cases e; exact .of_eq (completeDivision_tracker _ _)
  | byteReceived t b => cases e; exact takeByte_trackerStands b (s.advance t)
  | interbyteGap t => cases e; split <;> rfl
  | answerEnd t =>
    cases e
    split
    · exact serveNext_trackerStands _
    · rfl
  | malformed t kind body => cases e; split <;> rfl
  | readStatus t => exact request .readStatus t e
  | readHead t head => exact request (.readHead head) t e
  | readRecipe t slot => exact request (.readRecipe slot) t e
  | readTicket t selector number => exact request (.readTicket selector number) t e
  | findTickets t head slot location disposition verdictPresent startAfter =>
    exact request (.findTickets head slot location disposition verdictPresent startAfter) t e
  | setLine t fields => exact request (.setLine fields) t e
  | writeRecipe t slot block => exact request (.writeRecipe slot block) t e
  | eraseRecipe t slot => exact request (.eraseRecipe slot) t e
  | setHead t head service k slot resetLearning => exact request (.setHead head service k slot resetLearning) t e
  | headReset t head => exact request (.headReset head) t e
  | lineReset t => exact request .lineReset t e
  | abortFill t head => exact request (.abortFill head) t e
  | verdict t tag level => exact request (.verdict tag level) t e
  | keep t tag => exact request (.keep tag) t e
  | retire t tag => exact request (.retire tag) t e
  | calibrate t tag w force => exact request (.calibrate tag w force) t e
  | holdLearning t hold => exact request (.holdLearning hold) t e
  | clearAttention t target kinds => exact request (.clearAttention target kinds) t e
  | setMask t kinds => exact request (.setMask kinds) t e

end Sys2Proof.Machine
end

section
/-! SUPPORT. The angle tracker: what each encoder and index event makes of its items (R5 to R16), and the statements about its power-on
values and its motion states. -/

namespace Sys2Proof.Machine

/-! ## When the tracker's items fit, by motion state (R2) -/

theorem trackerLegal_unreferenced {s : State} (m : s.tracker.motion = .unreferenced) :
    TrackerLegal s ↔ s.tracker.angle = 0 ∧ s.tracker.backlog = 0 := by
  simp only [TrackerLegal, m]
  exact ⟨fun e => e.2, fun e => ⟨by rw [e.1]; decide, e⟩⟩

theorem trackerLegal_tracking {s : State} (m : s.tracker.motion = .tracking) :
    TrackerLegal s ↔ s.tracker.angle < Config.counts ∧ s.tracker.backlog = 0 := by simp [TrackerLegal, m]

theorem trackerLegal_backing {s : State} (m : s.tracker.motion = .backing) :
    TrackerLegal s ↔ s.tracker.angle < Config.counts ∧ 1 ≤ s.tracker.backlog ∧ s.tracker.backlog < Config.counts := by
  simp [TrackerLegal, m]

/-- Whether the items fit depends on the tracker alone. -/
theorem trackerLegal_congr {s u : State} (e : u.tracker = s.tracker) : TrackerLegal u ↔ TrackerLegal s := by
  rw [TrackerLegal, TrackerLegal, e]

theorem angleAfter_lt (a : Nat) : angleAfter a < Config.counts := Nat.mod_lt _ (by decide)
theorem angleBefore_lt (a : Nat) : angleBefore a < Config.counts := Nat.mod_lt _ (by decide)

/-! ## Crossing-producing steps -/

/-- What the crossings do leaves the tracker as its own part of the step has it (R5). -/
theorem crossingStep_tracker (s : State) : (crossingStep s).tracker = s.tracker.step := outer_tracker (deliverCrossings_outer _)

theorem catchUp_eq_iterate : ∀ (k : Nat) (s : State), catchUp k s = crossingStep^[k] s
  | 0, _ => rfl
  | k + 1, s => catchUp_eq_iterate k (crossingStep s)

/-- `k` crossing-producing steps move angle and step count by `k`, the angle modulo one revolution (R5, R13). -/
theorem tracker_crossingStep_iterate {s : State} (ha : s.tracker.angle < Config.counts) (k : Nat) :
    (crossingStep^[k] s).tracker = { s.tracker with
      angle := (s.tracker.angle + k) % Config.counts, stepCount := s.tracker.stepCount + BitVec.ofNat 32 k } := by
  induction k with
  | zero => simp [Nat.mod_eq_of_lt ha]
  | succ k ih =>
    rw [Function.iterate_succ_apply', crossingStep_tracker, ih]
    simp only [Tracker.step, angleAfter, Tracker.mk.injEq, true_and, and_true]
    constructor
    · rw [Nat.mod_add_mod, Nat.add_assoc]
    · rw [BitVec.add_assoc, BitVec.ofNat_add]; rfl

/-! ## Encoder and index events by motion state -/

theorem forwardStep_unreferenced {s : State} (m : s.tracker.motion = .unreferenced) : forwardStep s = s := by
  simp only [forwardStep, m]
theorem forwardStep_tracking {s : State} (m : s.tracker.motion = .tracking) : forwardStep s = crossingStep s := by
  simp only [forwardStep, m]
theorem forwardStep_backing {s : State} (m : s.tracker.motion = .backing) :
    forwardStep s = { s with tracker := s.tracker.payBack } := by
  simp only [forwardStep, m]

theorem reverseStep_unreferenced {s : State} (m : s.tracker.motion = .unreferenced) : reverseStep s = s := by
  simp only [reverseStep, m]
theorem reverseStep_tracking {s : State} (m : s.tracker.motion = .tracking) :
    reverseStep s = reverseAbort { s with tracker := s.tracker.turnBack } := by
  simp only [reverseStep, m]
theorem reverseStep_backing {s : State} (m : s.tracker.motion = .backing) :
    reverseStep s = if s.tracker.reverseOwed then reverseAbort { s with tracker := s.tracker.goBack }
      else { s with tracker := s.tracker.goBack } := by
  simp only [reverseStep, m]

theorem indexEvent_unreferenced {s : State} (m : s.tracker.motion = .unreferenced) : indexEvent s = referenceIndex s := by
  simp only [indexEvent, m]
theorem indexEvent_confirmed {s : State} (m : s.tracker.motion = .tracking) (zero : s.tracker.angle = 0) : indexEvent s = s := by
  simp only [indexEvent, m, zero, if_true]
theorem indexEvent_mismatched {s : State} (m : s.tracker.motion = .tracking) (off : s.tracker.angle ≠ 0) :
    indexEvent s = mismatchedIndex s := by
  simp only [indexEvent, m, off, if_false]
theorem indexEvent_backing {s : State} (m : s.tracker.motion = .backing) : indexEvent s = s := by
  simp only [indexEvent, m]

/-! ## Encoder and index events keep the tracker's items fitting -/

theorem payBack_legal {s : State} (m : s.tracker.motion = .backing) (hs : TrackerLegal s) :
    TrackerLegal { s with tracker := s.tracker.payBack } := by
  obtain ⟨-, -, below⟩ := (trackerLegal_backing m).mp hs
  by_cases last : s.tracker.backlog ≤ 1
  · refine (trackerLegal_tracking ?_).mpr ?_ <;> simp [Tracker.payBack, last, angleAfter_lt]
  · refine (trackerLegal_backing ?_).mpr ?_ <;> simp only [Tracker.payBack, last, if_false]
    · exact m
    · exact ⟨angleAfter_lt _, by omega, by omega⟩

theorem goBack_legal {s : State} (m : s.tracker.motion = .backing) : TrackerLegal { s with tracker := s.tracker.goBack } := by
  by_cases within : s.tracker.backlog + 1 < Config.counts
  · refine (trackerLegal_backing ?_).mpr ?_ <;> simp only [Tracker.goBack, within, if_true]
    · exact m
    · exact ⟨angleBefore_lt _, by omega, trivial⟩
  · refine (trackerLegal_unreferenced ?_).mpr ?_ <;> simp [Tracker.goBack, within]

theorem forwardStep_legal {s : State} (hs : TrackerLegal s) : TrackerLegal (forwardStep s) := by
  cases m : s.tracker.motion with
  | unreferenced => rwa [forwardStep_unreferenced m]
  | tracking =>
    rw [forwardStep_tracking m, trackerLegal_tracking (by rw [crossingStep_tracker]; exact m), crossingStep_tracker]
    exact ⟨angleAfter_lt _, ((trackerLegal_tracking m).mp hs).2⟩
  | backing => rw [forwardStep_backing m]; exact payBack_legal m hs

theorem reverseStep_legal {s : State} (hs : TrackerLegal s) : TrackerLegal (reverseStep s) := by
  have abort (u : State) : TrackerLegal (reverseAbort u) ↔ TrackerLegal u := trackerLegal_congr (outer_tracker (reverseAbort_outer u))
  cases m : s.tracker.motion with
  | unreferenced => rwa [reverseStep_unreferenced m]
  | tracking =>
    rw [reverseStep_tracking m, abort, trackerLegal_backing rfl]
    exact ⟨angleBefore_lt _, Nat.le_refl 1, (by decide : 1 < Config.counts)⟩
  | backing =>
    rw [reverseStep_backing m]
    split
    · rw [abort]; exact goBack_legal m
    · exact goBack_legal m

/-- What precedes the resync or the catch-up leaves all but the last index error of the tracker (R12, R15). -/
theorem tracker_angleAbort_raised (k : Nat) (err : Int) (s : State) :
    (angleAbort k (raiseAngleFault { s with tracker := { s.tracker with lastIndexError := err } })).tracker =
      { s.tracker with lastIndexError := err } := outer_tracker (angleAbort_outer _ _)

theorem mismatchedIndex_legal {s : State} (m : s.tracker.motion = .tracking) (off : s.tracker.angle ≠ 0) (hs : TrackerLegal s) :
    TrackerLegal (mismatchedIndex s) := by
  obtain ⟨ha, hb⟩ := (trackerLegal_tracking m).mp hs
  unfold mismatchedIndex
  simp only
  split
  next extra =>
    refine (trackerLegal_backing rfl).mpr ?_
    simp only [Tracker.resync, tracker_angleAbort_raised, mismatch, extra, if_true]
    exact ⟨by decide, by omega, ha⟩
  next lost =>
    have e := tracker_angleAbort_raised (mismatch s.tracker.angle) (indexError s.tracker.angle) s
    rw [catchUp_eq_iterate]
    refine (trackerLegal_tracking ?_).mpr ?_ <;> rw [tracker_crossingStep_iterate (by rw [e]; exact ha), e]
    · exact m
    · exact ⟨Nat.mod_lt _ (by decide), hb⟩

theorem indexEvent_legal {s : State} (hs : TrackerLegal s) : TrackerLegal (indexEvent s) := by
  cases m : s.tracker.motion with
  | unreferenced =>
    have e : (referenceIndex s).tracker = s.tracker.reference :=
      outer_tracker ((deliverCrossings_outer _).trans (forInstalled_outer _ referencingDischarge_outer _))
    rw [indexEvent_unreferenced m, trackerLegal_tracking (by rw [e]; rfl), e]
    exact ⟨(by decide : 0 < Config.counts), rfl⟩
  | tracking =>
    by_cases zero : s.tracker.angle = 0
    · rwa [indexEvent_confirmed m zero]
    · rw [indexEvent_mismatched m zero]; exact mismatchedIndex_legal m zero hs
  | backing => rwa [indexEvent_backing m]

theorem exec_legal {c : Instr} {s u : State} (hs : TrackerLegal s) (e : exec c s = .next u) : TrackerLegal u := by
  cases moves : c.movesTracker with
  | false => exact (exec_trackerStands moves e).legal hs
  | true =>
    cases c with
    | powerOn t => cases e; exact (trackerLegal_unreferenced rfl).mpr ⟨rfl, rfl⟩
    | forwardStep t => cases e; exact forwardStep_legal hs
    | reverseStep t => cases e; exact reverseStep_legal hs
    | indexEvent t => cases e; exact indexEvent_legal hs
    | _ => cases moves

/-- Settles O52: only four commands move the count (`exec_trackerStands`), and each of the four keeps the items fitting. -/
theorem trackerStaysLegal : Obligations.TrackerStaysLegal := by
  intro s u hs e
  unfold step at e
  split at e
  · cases e; exact hs
  next c rest _ => exact exec_legal (s := { s with pending := rest }) hs e

end Sys2Proof.Machine
end

section
/-! SUPPORT. The crossings by zone (R5, R6), the part at power-on, and the statements of the tracker that turn on no abort. -/
namespace Sys2Proof.Machine

/-! ## Zones (R5, R6) -/

/-- The head-relative angle is the angle less the head's offset, reduced modulo one revolution (R5). -/
theorem relative_eq_emod (l : LineSetup) (angle : Nat) (h : HeadId) :
    (l.relative angle h : Int) = ((angle : Int) - h.val * (7680 / l.headCount : Nat)) % 7680 := by
  rw [← Nat.cast_mul]
  unfold LineSetup.relative LineSetup.pitch Config.counts
  omega

/-- The angle of each zone (R3). -/
def LineSetup.zoneAngle (l : LineSetup) : Zone → Nat
  | .infeed => l.infeed | .gas => l.gas | .fill => l.fill | .closeBy => l.closeBy | .sniftBy => l.sniftBy
  | .discharge => l.discharge | .commit => l.commit

/-- Zone angles in order name their zones: no two share an angle (R3, R5). -/
theorem zoneAt_zoneAngle {l : LineSetup} (hz : ZonesInOrder l) (z : Zone) : l.zoneAt (l.zoneAngle z) = some z := by
  obtain ⟨h1, h2, h3, h4, h5, h6, -⟩ := hz
  unfold LineSetup.zoneAt
  cases z <;> simp only [LineSetup.zoneAngle]
  case infeed => simp
  case gas => simp [show l.gas ≠ l.infeed by omega]
  case fill => simp [show l.fill ≠ l.infeed by omega, show l.fill ≠ l.gas by omega]
  case closeBy =>
    simp [show l.closeBy ≠ l.infeed by omega, show l.closeBy ≠ l.gas by omega, show l.closeBy ≠ l.fill by omega]
  case sniftBy =>
    simp [show l.sniftBy ≠ l.infeed by omega, show l.sniftBy ≠ l.gas by omega, show l.sniftBy ≠ l.fill by omega,
      show l.sniftBy ≠ l.closeBy by omega]
  case discharge =>
    simp [show l.discharge ≠ l.infeed by omega, show l.discharge ≠ l.gas by omega, show l.discharge ≠ l.fill by omega,
      show l.discharge ≠ l.closeBy by omega, show l.discharge ≠ l.sniftBy by omega]
  case commit =>
    simp [show l.commit ≠ l.infeed by omega, show l.commit ≠ l.gas by omega, show l.commit ≠ l.fill by omega,
      show l.commit ≠ l.closeBy by omega, show l.commit ≠ l.sniftBy by omega, show l.commit ≠ l.discharge by omega]

theorem zoneAt_eq_none {l : LineSetup} {theta : Nat} (off : ∀ z, theta ≠ l.zoneAngle z) : l.zoneAt theta = none := by
  have h1 := off .infeed
  have h2 := off .gas
  have h3 := off .fill
  have h4 := off .closeBy
  have h5 := off .sniftBy
  have h6 := off .discharge
  have h7 := off .commit
  simp only [LineSetup.zoneAngle] at h1 h2 h3 h4 h5 h6 h7
  simp [LineSetup.zoneAt, h1, h2, h3, h4, h5, h6, h7]

/-- A head at a zone's angle takes that zone's crossing (R5). -/
theorem crossHead_at {h : HeadId} {s : State} (hz : ZonesInOrder s.tracker.line) {z : Zone}
    (e : s.tracker.line.relative s.tracker.angle h = s.tracker.line.zoneAngle z) : crossHead h s = deliver z h s := by
  rw [crossHead, e, zoneAt_zoneAngle hz]

/-- A head at no zone's angle takes no crossing (R5). -/
theorem crossHead_off {h : HeadId} {s : State}
    (off : ∀ z, s.tracker.line.relative s.tracker.angle h ≠ s.tracker.line.zoneAngle z) : crossHead h s = s := by
  rw [crossHead, zoneAt_eq_none off]

/-- Settles O3: the step by unfolding, the zones by `crossHead_at` and `crossHead_off`. -/
theorem forwardStepProducesCrossings : Obligations.ForwardStepProducesCrossings := by
  refine ⟨fun t s m => ?_, fun h s hz => ?_⟩
  · exact congrArg Host.Outcome.next (forwardStep_tracking (s := { s.advance t with encoder := s.encoder.forward }) m)
  · intro l theta
    have zone (z : Zone) (e : theta = l.zoneAngle z) : crossHead h s = deliver z h s :=
      crossHead_at hz (Int.ofNat.inj ((relative_eq_emod l s.tracker.angle h).trans e))
    refine ⟨zone .infeed, zone .gas, zone .fill, zone .closeBy, zone .sniftBy, zone .discharge, zone .commit, fun off => ?_⟩
    refine crossHead_off fun z e => off ?_
    have : theta = l.zoneAngle z := by rw [← e]; exact (relative_eq_emod l s.tracker.angle h).symm
    rw [this]
    cases z <;> simp [LineSetup.zoneAngle]

/-- Settles O7: the event by unfolding, the angle of R109 by `relative_eq_emod`. -/
theorem indexReferencesTracker : Obligations.IndexReferencesTracker := by
  refine ⟨fun t s m => ?_, fun h s => ?_⟩
  · exact congrArg Host.Outcome.next (indexEvent_unreferenced (s := s.advance t) m)
  · have theta := relative_eq_emod s.tracker.line 0 h
    rw [Nat.cast_zero, zero_sub] at theta
    simp only [referencingDischarge, ← theta, Nat.cast_lt, Nat.cast_le]

/-- Settles O4: the step is the tracker's own part, whose two cases are a backlog of 1 and a larger one. -/
theorem forwardStepPaysBacklogBack : Obligations.ForwardStepPaysBacklogBack := by
  intro t s m owed
  refine (congrArg Host.Outcome.next (forwardStep_backing (s := { s.advance t with encoder := s.encoder.forward }) m)).trans ?_
  have one : (s.tracker.backlog ≤ 1) = (s.tracker.backlog = 1) := propext (by omega)
  simp only [advance_tracker, Tracker.payBack, one]
  rfl

/-- Settles O5: in each case the tracker's part of the command answers the state it was given. -/
theorem encoderEventsDiscarded : Obligations.EncoderEventsDiscarded := by
  refine ⟨fun t s m => ⟨?_, ?_⟩, fun t s => ⟨rfl, fun m zero => ?_, fun m => ?_⟩⟩
  · exact congrArg Host.Outcome.next (forwardStep_unreferenced (s := { s.advance t with encoder := s.encoder.forward }) m)
  · exact congrArg Host.Outcome.next (reverseStep_unreferenced (s := { s.advance t with encoder := s.encoder.backward }) m)
  · exact congrArg Host.Outcome.next (indexEvent_confirmed (s := s.advance t) m zero)
  · exact congrArg Host.Outcome.next (indexEvent_backing (s := s.advance t) m)

/-! ## Power-on -/

/-- Settles O2: every head and slot at reset stands at its power-on value (`head_reset`, `slot_reset`), the rest by definition. -/
theorem powerOnValues : Obligations.PowerOnValues := by
  refine ⟨⟨rfl, slot_reset, head_reset, rfl, rfl, rfl, rfl, rfl, rfl, fun i => ?_, rfl, rfl, rfl, rfl, rfl, rfl⟩,
    fun t s => ⟨_, rfl, rfl, rfl, fun h => ?_, rfl, rfl, rfl, rfl, rfl, rfl, rfl, rfl, rfl, rfl, rfl, rfl, rfl, rfl, rfl, rfl⟩⟩
  · exact Vector.getElem_replicate _
  · rw [head_reset]
    exact Vector.getElem_map _ _

/-! ## The invariants at reset -/

theorem phase_reset (h : HeadId) : State.reset.phase h = .empty := by rw [State.phase, head_reset]; rfl

theorem energised_reset (h : HeadId) (p : Pilot) : State.reset.energised h p = false := by
  rw [State.energised, State.pilot, head_reset]
  cases p <;> rfl

theorem memberOf_reset (n : SlotId) (h : HeadId) : State.reset.memberOf n h = false := by
  rw [State.memberOf, head_reset]; rfl

theorem usedRevision_reset (h : HeadId) : State.reset.usedRevision h = none := by
  rw [State.usedRevision, head_reset]; rfl

theorem lineJudged_reset : LineJudged State.reset := by
  have notDue : State.reset.lineDue = false := by
    rw [← Bool.not_eq_true, lineDue_iff]
    rintro (c | ⟨j, c⟩)
    · exact c rfl
    · rw [head_reset] at c; exact c rfl
  exact notDue.symm

theorem tagsDistinct_reset : TagsDistinct State.reset := by
  have none : State.reset.tags = [] := by
    simp only [State.tags, allTickets_eq_searchOrder, State.searchOrder, head_reset]
    decide
  exact ⟨none ▸ List.nodup_nil, by unfold TransitLegal; decide⟩

theorem recordsInRange_reset : RecordsInRange State.reset := by
  intro h
  rw [head_reset]
  simp [Head.powerOn, HeadRecord.powerOn, kInRange]

theorem membersCounted_reset : MembersCounted State.reset := by
  refine ⟨fun n => ?_, fun h => ?_, fun h n => ?_, fun h _ => ?_⟩
  · have nobody : State.reset.memberOf n = fun _ => false := funext (memberOf_reset n)
    have noAdopter : State.reset.adopterOf n = fun _ => false := funext fun h => by rw [State.adopterOf, memberOf_reset]; rfl
    simp [nobody, noAdopter, slot_reset, Slot.powerOn]
  all_goals simp [head_reset, Head.powerOn, HeadRecord.powerOn]

theorem valuesFollowRevision_reset : ValuesFollowRevision State.reset := by
  refine ⟨membersCounted_reset, fun n rev => ?_, fun h _ => ?_, fun h => ⟨fun _ => ?_, fun rev => ?_⟩⟩
  · simp [slot_reset, Slot.powerOn]
  · rw [head_reset]; rfl
  · rw [head_reset]; exact ⟨rfl, rfl, rfl, rfl⟩
  · simp [usedRevision_reset]

theorem commitFindsEmpty_reset : CommitFindsEmpty State.reset := by
  refine ⟨?_, ?_, (trackerLegal_unreferenced rfl).mpr ⟨rfl, rfl⟩, fun h _ => phase_reset h, fun h _ => ?_, fun h _ c => ?_, fun _ h => ?_⟩
  · unfold ZonesInOrder; decide
  · decide
  · rw [head_reset]; rfl
  · exact absurd (phase_reset h) c
  · rw [phase_reset]; rfl

/-- Settles O51. -/
theorem invariantsHoldAtReset : Obligations.InvariantsHoldAtReset := by
  refine ⟨(trackerLegal_unreferenced rfl).mpr ⟨rfl, rfl⟩, lineJudged_reset, fun h => ?_, ?_, List.Pairwise.nil, tagsDistinct_reset.2,
    ⟨fun h p on => ?_, fun e he => ?_⟩, tagsDistinct_reset, recordsInRange_reset, valuesFollowRevision_reset, fun on => ?_,
    membersCounted_reset, commitFindsEmpty_reset⟩
  · rw [phase_reset, head_reset]; simp [Head.powerOn]
  · unfold PortLegal; decide
  · rw [energised_reset] at on; cases on
  · cases he
  · cases on

end Sys2Proof.Machine
end

section
/-! SUPPORT. The heads' works, the pilot queue, the boost slots and the global flags under the operations that touch records, causes and
slots alone: none writes them. -/

namespace Sys2Proof.Machine

/-- The works of every head, the pilot queue, the boost slots, the global flags. -/
def State.plant (s : State) : (HeadId → Works) × List Entry × Vector (Option Grant) 6 × Globals :=
  (fun j => (s.head j).works, s.pilotQueue, s.boosts, s.globals)

theorem plant_of {s t : State} (h1 : ∀ j, (t.head j).works = (s.head j).works) (h2 : t.pilotQueue = s.pilotQueue)
    (h3 : t.boosts = s.boosts) (h4 : t.globals = s.globals) : t.plant = s.plant := by
  rw [State.plant, State.plant, funext h1, h2, h3, h4]

theorem plant_works {s t : State} (e : t.plant = s.plant) (j : HeadId) : (t.head j).works = (s.head j).works :=
  congrFun (congrArg (·.1) e) j
theorem plant_queue {s t : State} (e : t.plant = s.plant) : t.pilotQueue = s.pilotQueue := congrArg (·.2.1) e
theorem plant_boosts {s t : State} (e : t.plant = s.plant) : t.boosts = s.boosts := congrArg (·.2.2.1) e
theorem plant_globals {s t : State} (e : t.plant = s.plant) : t.globals = s.globals := congrArg (·.2.2.2) e
theorem plant_entryOf {s t : State} (e : t.plant = s.plant) (j : HeadId) : t.entryOf j = s.entryOf j := by
  rw [State.entryOf, State.entryOf, plant_queue e]

theorem works_seq {x y : Head} (e : x.works = y.works) : x.seq = y.seq := congrArg Works.seq e
theorem works_lastCounted {x y : Head} (e : x.works = y.works) : x.lastCounted = y.lastCounted := congrArg Works.lastCounted e
theorem works_pilots {x y : Head} (e : x.works = y.works) : x.pilots = y.pilots := congrArg Works.pilots e
theorem works_ticket {x y : Head} (e : x.works = y.works) : x.ticket = y.ticket := congrArg Works.ticket e
theorem works_presence {x y : Head} (e : x.works = y.works) : x.presence = y.presence := congrArg Works.presence e
theorem works_pressureEqual {x y : Head} (e : x.works = y.works) : x.pressureEqual = y.pressureEqual := congrArg Works.pressureEqual e

theorem modHead_plant (h : HeadId) (f : Head → Head) (hf : ∀ x, (f x).works = x.works) (s : State) : (modHead h f s).plant = s.plant :=
  plant_of (fun j => by rw [head_modHead]; split <;> simp [*]) rfl rfl rfl
theorem mapHeads_plant (f : Head → Head) (hf : ∀ x, (f x).works = x.works) (s : State) : (mapHeads f s).plant = s.plant :=
  plant_of (fun j => by rw [head_mapHeads, hf]) rfl rfl rfl

@[simp] theorem modRecord_plant (h : HeadId) (f : HeadRecord → HeadRecord) (s : State) : (modRecord h f s).plant = s.plant :=
  modHead_plant h (fun x => { x with record := f x.record }) (fun _ => rfl) s
@[simp] theorem modCauses_plant (h : HeadId) (f : Causes → Causes) (s : State) : (modCauses h f s).plant = s.plant :=
  modHead_plant h (fun x => { x with causes := f x.causes }) (fun _ => rfl) s
@[simp] theorem modSlot_plant (n : SlotId) (f : Slot → Slot) (s : State) : (modSlot n f s).plant = s.plant := rfl
@[simp] theorem judgeLine_plant (s : State) : (judgeLine s).plant = s.plant := rfl

/-! ## Members and service state -/

@[simp] theorem alignHead_plant (h : HeadId) (s : State) : (alignHead h s).plant = s.plant := by
  unfold alignHead; split
  · rfl
  · split <;> simp
@[simp] theorem alignOut_plant (n : SlotId) (rev : Revision) (s : State) : (alignOut n rev s).plant = s.plant :=
  mapHeads_plant _ (fun x => by split <;> rfl) s
@[simp] theorem membersUseCurrent_plant (n : SlotId) (s : State) : (membersUseCurrent n s).plant = s.plant :=
  mapHeads_plant _ (fun x => by split <;> rfl) s
@[simp] theorem promote_plant (n : SlotId) (s : State) : (promote n s).plant = s.plant := by unfold promote; split <;> simp
@[simp] theorem promoteIfDone_plant (n : SlotId) (s : State) : (promoteIfDone n s).plant = s.plant := by
  unfold promoteIfDone; split <;> simp
@[simp] theorem leaveCounts_plant (n : SlotId) (b : Bool) (s : State) : (leaveCounts n b s).plant = s.plant := by simp [leaveCounts]
@[simp] theorem becomeOut_plant (h : HeadId) (s : State) : (becomeOut h s).plant = s.plant := by
  unfold becomeOut; simp only; split <;> simp
@[simp] theorem takeOut_plant (h : HeadId) (s : State) : (takeOut h s).plant = s.plant := by
  unfold takeOut; split
  · simp
  · split <;> simp
  · rfl
  · rfl

/-! ## Causes and reports -/

@[simp] theorem changeCauses_plant (h : HeadId) (f : Causes → Causes) (s : State) : (changeCauses h f s).plant = s.plant := by
  simp [changeCauses]
@[simp] theorem raiseFillFault_plant (r : Reason) (h : HeadId) (s : State) : (raiseFillFault r h s).plant = s.plant := by
  simp [raiseFillFault]
@[simp] theorem raiseRepeatedFaults_plant (h : HeadId) (s : State) : (raiseRepeatedFaults h s).plant = s.plant := by
  simp [raiseRepeatedFaults]
@[simp] theorem countFault_plant (h : HeadId) (s : State) : (countFault h s).plant = s.plant := by
  unfold countFault; split <;> simp
@[simp] theorem reportDoseEnd_plant (h : HeadId) (s : State) : (reportDoseEnd h s).plant = s.plant := by
  unfold reportDoseEnd; split
  · rfl
  · split
    · simp
    · split <;> simp

end Sys2Proof.Machine
end

section
/-! SUPPORT. What a release, a dose end and a forced ending straight to SNIFT make of their head, and of the part around it (R97, R98,
R103 to R105, R171). -/

namespace Sys2Proof.Machine

/-! ## Heads and slots apart from one head -/

theorem membersStand_refl (h : HeadId) (s : State) : MembersStand h s s := ⟨fun _ _ => rfl, rfl⟩

theorem MembersStand.trans {h : HeadId} {s t u : State} (a : MembersStand h s t) (b : MembersStand h t u) : MembersStand h s u :=
  ⟨fun j ne => (b.1 j ne).trans (a.1 j ne), b.2.trans a.2⟩

theorem modHead_membersStand (h : HeadId) (f : Head → Head) (s : State) : MembersStand h s (modHead h f s) :=
  ⟨fun _ ne => by rw [head_modHead_ne ne], rfl⟩

theorem othersStand_refl (h : HeadId) (s : State) : OthersStand h s s := ⟨rfl, rfl, rfl, rfl⟩

theorem OthersStand.trans {h : HeadId} {s t u : State} (a : OthersStand h s t) (b : OthersStand h t u) : OthersStand h s u :=
  have ⟨outer, papers, globals, elsewhere⟩ := a
  have ⟨outer', papers', globals', elsewhere'⟩ := b
  ⟨outer'.trans outer, papers'.trans papers, globals'.trans globals, elsewhere'.trans elsewhere⟩

theorem OthersStand.outer {h : HeadId} {s t : State} (e : OthersStand h s t) : t.outer = s.outer := e.1
theorem OthersStand.globals {h : HeadId} {s t : State} (e : OthersStand h s t) : t.globals = s.globals := e.2.2.1

/-- Another head's queued open stands where the queue's other entries do. -/
theorem entryOf_of_elsewhere {h j : HeadId} {s t : State} (e : t.elsewhere h = s.elsewhere h) (ne : j ≠ h) :
    t.entryOf j = s.entryOf j := by
  have skip (q : List Entry) : (q.filter fun x => decide (x.head ≠ h)).find? (fun x => decide (x.head = j)) =
      q.find? fun x => decide (x.head = j) := by
    rw [List.find?_filter]
    congr 1
    funext x
    by_cases c : x.head = j <;> simp [c, ne]
  rw [State.entryOf, State.entryOf, ← skip, queue_of_elsewhere e, skip]

/-! ## Releases -/

theorem Pilots.get_put (q : Pilots) (p p' : Pilot) (r : PilotRecord) : (q.put p r).get p' = if p' = p then r else q.get p' := by
  cases p <;> cases p' <;> rfl

theorem Pilots.put_get (q : Pilots) (p : Pilot) : q.put p (q.get p) = q := by cases p <;> rfl

/-- Whether a pilot is energised, and what a release makes of it, depends on its record and the clock alone. -/
theorem energised_congr {h : HeadId} {p : Pilot} {s t : State} (e : (t.head h).pilots.get p = (s.head h).pilots.get p) :
    t.energised h p = s.energised h p := by
  rw [State.energised, State.energised, State.pilot, State.pilot, e]
theorem releasedPilot_congr {h : HeadId} {p : Pilot} {s t : State} (e : (t.head h).pilots.get p = (s.head h).pilots.get p)
    (now : t.now = s.now) : t.releasedPilot h p = s.releasedPilot h p := by
  rw [State.releasedPilot, State.releasedPilot, energised_congr e, e, now]

/-- A release changes nothing of its head but the pilot. -/
theorem head_release (p : Pilot) (h : HeadId) (s : State) :
    (release p h s).head h = { s.head h with pilots := (s.head h).pilots.put p (s.releasedPilot h p) } := by
  cases on : s.energised h p with
  | false => rw [head_release_off on, State.releasedPilot, on, if_neg Bool.false_ne_true, Pilots.put_get]
  | true => simp only [release, on, if_true, switchOff, dropFromBoosts, head_putBoosts, modPilots, head_modHead_self, State.releasedPilot,
      PilotRecord.turnOff]

theorem get_release (p q : Pilot) (h : HeadId) (s : State) : ((release p h s).head h).pilots.get q =
    if q = p then s.releasedPilot h p else (s.head h).pilots.get q := by
  rw [head_release, Pilots.get_put]

theorem release_slots (p : Pilot) (h : HeadId) (s : State) : (release p h s).slots = s.slots := by
  unfold release; split
  · rfl
  · split
    · rfl
    · split <;> rfl

theorem release_globals (p : Pilot) (h : HeadId) (s : State) : (release p h s).globals = s.globals := by
  unfold release; split
  · rfl
  · split
    · rfl
    · split <;> rfl

/-! ## Operations on a fill -/

/-- Nothing has changed but sequencer, pilots, ticket, queued open and boosts of the head. -/
structure FillOnly (h : HeadId) (s u : State) : Prop where
  record : (u.head h).record = (s.head h).record
  causes : (u.head h).causes = (s.head h).causes
  lastCounted : (u.head h).lastCounted = (s.head h).lastCounted
  presence : (u.head h).presence = (s.head h).presence
  pressureEqual : (u.head h).pressureEqual = (s.head h).pressureEqual
  others : OthersStand h s u
  members : MembersStand h s u
  attn : u.attn = s.attn

theorem FillOnly.refl (h : HeadId) (s : State) : FillOnly h s s :=
  ⟨rfl, rfl, rfl, rfl, rfl, othersStand_refl h s, membersStand_refl h s, rfl⟩

theorem FillOnly.trans {h : HeadId} {s t u : State} (a : FillOnly h s t) (b : FillOnly h t u) : FillOnly h s u where
  record := b.record.trans a.record
  causes := b.causes.trans a.causes
  lastCounted := b.lastCounted.trans a.lastCounted
  presence := b.presence.trans a.presence
  pressureEqual := b.pressureEqual.trans a.pressureEqual
  others := a.others.trans b.others
  members := a.members.trans b.members
  attn := b.attn.trans a.attn

theorem modSeq_fillOnly (h : HeadId) (f : Sequencer → Sequencer) (s : State) : FillOnly h s (modSeq h f s) := by
  have head : (modSeq h f s).head h = { s.head h with seq := f (s.head h).seq } := head_modHead_self h _ s
  exact ⟨by rw [head], by rw [head], by rw [head], by rw [head], by rw [head], ⟨rfl, rfl, rfl, modSeq_elsewhere h f s⟩,
    modHead_membersStand h _ s, modSeq_attn h f s⟩

theorem modTicket_fillOnly (h : HeadId) (f : Ticket → Ticket) (s : State) : FillOnly h s (modTicket h f s) := by
  have head : (modTicket h f s).head h = { s.head h with ticket := (s.head h).ticket.map f } := head_modHead_self h _ s
  exact ⟨by rw [head], by rw [head], by rw [head], by rw [head], by rw [head], ⟨rfl, rfl, rfl, modTicket_elsewhere h f s⟩,
    modHead_membersStand h _ s, modTicket_attn h f s⟩

theorem enterPhase_fillOnly (p : Phase) (h : HeadId) (s : State) : FillOnly h s (enterPhase p h s) := modSeq_fillOnly h _ s

theorem queueOpen_fillOnly (k : OpenKind) (h : HeadId) (s : State) : FillOnly h s (queueOpen k h s) :=
  ⟨rfl, rfl, rfl, rfl, rfl, ⟨rfl, rfl, rfl, queueOpen_elsewhere k h s⟩, membersStand_refl h s, rfl⟩

theorem withdraw_fillOnly (h : HeadId) (s : State) : FillOnly h s (withdraw h s) :=
  ⟨rfl, rfl, rfl, rfl, rfl, ⟨rfl, rfl, rfl, withdraw_elsewhere h s⟩, membersStand_refl h s, rfl⟩

theorem release_fillOnly (p : Pilot) (h : HeadId) (s : State) : FillOnly h s (release p h s) := by
  have head := head_release p h s
  exact ⟨by rw [head], by rw [head], by rw [head], by rw [head], by rw [head],
    ⟨release_outer p h s, release_papers p h s, release_globals p h s, release_elsewhere p h s⟩,
    ⟨fun _ ne => by rw [head_release_ne ne], release_slots p h s⟩, release_attn p h s⟩

/-! ## The boost slots under a release -/

/-- The grant, if it is the head's, without the pilots that went OFF (log entry 10). -/
def Grant.without (h : HeadId) (off : Pilot → Bool) (g : Grant) : Grant :=
  if g.head = h then { g with pilots := g.pilots.filter fun q => !off q } else g

/-- The boost slots once these pilots of the head have gone OFF. -/
def boostsWithout (h : HeadId) (off : Pilot → Bool) (b : Vector (Option Grant) 6) : Vector (Option Grant) 6 :=
  b.map (Option.map (Grant.without h off))

theorem Grant.without_none (h : HeadId) (g : Grant) : g.without h (fun _ => false) = g := by
  unfold Grant.without; split <;> simp

theorem boostsWithout_none (h : HeadId) (b : Vector (Option Grant) 6) : boostsWithout h (fun _ => false) b = b := by
  have : Grant.without h (fun _ => false) = id := funext (Grant.without_none h)
  simp [boostsWithout, this]

theorem boostsWithout_congr {h : HeadId} {off off' : Pilot → Bool} (e : ∀ q, off q = off' q) (b : Vector (Option Grant) 6) :
    boostsWithout h off b = boostsWithout h off' b := by rw [funext e]

theorem boostsWithout_boostsWithout (h : HeadId) (off off' : Pilot → Bool) (b : Vector (Option Grant) 6) :
    boostsWithout h off' (boostsWithout h off b) = boostsWithout h (fun q => off' q || off q) b := by
  have step (g : Grant) : (g.without h off).without h off' = g.without h fun q => off' q || off q := by
    by_cases mine : g.head = h <;> simp [Grant.without, mine, List.filter_filter]
  simp only [boostsWithout, Vector.map_map, Option.map_comp_map]
  congr 2
  funext g
  exact step g

theorem boosts_release (p : Pilot) (h : HeadId) (s : State) :
    (release p h s).boosts = boostsWithout h (fun q => decide (q = p) && s.energised h p) s.boosts := by
  cases on : s.energised h p with
  | false =>
    simp only [Bool.and_false, boostsWithout_none]
    simp only [release, on, Bool.false_eq_true, if_false]
    split
    · rfl
    · split <;> rfl
  | true =>
    simp only [release, on, if_true, switchOff, dropFromBoosts, putBoosts_boosts, Bool.and_true]
    refine congrArg (fun f => Vector.map (Option.map f) s.boosts) (funext fun g => ?_)
    simp only [Grant.without, decide_not]

/-! ## Dose end up to its report -/

/-- Learning writes the head's pending A and nothing else (R137 to R140). -/
theorem learn_eq {h : HeadId} {s : State} {tk : Ticket} (ht : (s.head h).ticket = some tk) :
    learn h s = modRecord h (fun r => { r with pendingA := s.learnedPending h tk }) s := by
  have same : modRecord h (fun r => { r with pendingA := (s.head h).record.pendingA }) s = s := setHead_same h s
  unfold learn State.learnedPending
  rw [ht]
  cases s.usedRevision h with
  | none => cases tk.x <;> exact same.symm
  | some rev =>
    cases hx : tk.x with
    | none => simp only [hx]; exact same.symm
    | some x =>
      simp only [Ticket.teaches, hx, Option.isSome_some, Bool.and_true, Bool.and_eq_true, Bool.not_eq_true']
      by_cases teaches : (((tk.snapshot.recipe.learning = true ∧ tk.outlier = false) ∧ tk.noSlow = false) ∧ tk.forced = false) ∧
          s.learningHold = false
      · obtain ⟨⟨⟨⟨c1, c2⟩, c3⟩, c4⟩, c5⟩ := teaches
        simp only [c1, c2, c3, c4, c5, and_self, if_true]
        rfl
      · rw [if_neg teaches, if_neg fun ⟨c1, c5, c2, c3, c4⟩ => teaches ⟨⟨⟨⟨c1, c2⟩, c3⟩, c4⟩, c5⟩]
        exact same.symm

/-- Dose end before learning and report: the judged ticket, GAS released, SNIFT entered and its open queued (R103). -/
def doseJudged (h : HeadId) (s : State) : State :=
  queueOpen .snift h (enterPhase .snift h (release .gas h (modTicket h Ticket.judge s)))

theorem doseEnd_eq (h : HeadId) (s : State) : doseEnd h s = reportDoseEnd h (learn h (doseJudged h s)) := rfl

theorem head_doseJudged (h : HeadId) (s : State) : (doseJudged h s).head h = { s.head h with
    ticket := (s.head h).ticket.map Ticket.judge
    seq := { (s.head h).seq with phase := .snift, timers := (s.head h).seq.timers.leaving (s.phase h) .snift }
    pilots := (s.head h).pilots.put .gas (s.releasedPilot h .gas) } := by
  have gas : (modTicket h Ticket.judge s).releasedPilot h .gas = s.releasedPilot h .gas :=
    releasedPilot_congr (by simp [modTicket]) rfl
  simp only [doseJudged, queueOpen, head_putQueue, enterPhase, modSeq, head_modHead_self, head_release, gas]
  simp only [modTicket, head_modHead_self]
  rfl

theorem doseJudged_fillOnly (h : HeadId) (s : State) : FillOnly h s (doseJudged h s) :=
  (modTicket_fillOnly h _ s).trans ((release_fillOnly .gas h _).trans
    ((enterPhase_fillOnly .snift h _).trans (queueOpen_fillOnly .snift h _)))

theorem boosts_doseJudged (h : HeadId) (s : State) :
    (doseJudged h s).boosts = boostsWithout h (fun q => decide (q = .gas) && s.energised h .gas) s.boosts := by
  have on : (modTicket h Ticket.judge s).energised h .gas = s.energised h .gas := energised_congr (by simp [modTicket])
  rw [← on]
  exact boosts_release .gas h _

theorem entryOf_doseJudged (h : HeadId) (s : State) :
    (doseJudged h s).entryOf h = some { head := h, kind := .snift, step := s.tracker.stepCount } := by
  have : (enterPhase .snift h (release .gas h (modTicket h Ticket.judge s))).tracker = s.tracker := outer_tracker (by simp)
  rw [doseJudged, entryOf_queueOpen, if_pos rfl, this]

end Sys2Proof.Machine
end

section
/-! SUPPORT. The dose-end report at a head that holds a container, and dose end and the forced ending straight to SNIFT as the statements put
them (R43, R55, R98, R103 to R105). -/

namespace Sys2Proof.Machine

/-! ## The report -/

theorem head_changeCauses (h : HeadId) (f : Causes → Causes) (s : State) :
    (changeCauses h f s).head h = { s.head h with causes := f (s.head h).causes } := by
  simp [changeCauses, modCauses]

theorem changeCauses_membersStand (h : HeadId) (f : Causes → Causes) (s : State) : MembersStand h s (changeCauses h f s) :=
  modHead_membersStand h (fun x => { x with causes := f x.causes }) s
theorem modRecord_membersStand (h : HeadId) (f : HeadRecord → HeadRecord) (s : State) : MembersStand h s (modRecord h f s) :=
  modHead_membersStand h _ s

theorem head_modRecord (h : HeadId) (f : HeadRecord → HeadRecord) (s : State) :
    (modRecord h f s).head h = { s.head h with record := f (s.head h).record } := by
  simp [modRecord]

theorem takeOut_causes (h j : HeadId) (s : State) : ((takeOut h s).head j).causes = (s.head j).causes :=
  congrFun (congrArg (·.2.2.2) (takeOut_attn h s)) j

/-- A head that holds a container and is not JOINING is taken out by becoming LEAVING if it is IN (R42, R43). -/
theorem takeOut_holding {h : HeadId} {s : State} (member : (s.head h).record.service ≠ .joining) (holds : s.phase h ≠ .empty) :
    takeOut h s = modRecord h (fun r => { r with service := leavingIfIn r.service }) s := by
  have same (e : leavingIfIn (s.head h).record.service = (s.head h).record.service) :
      s = modRecord h (fun r => { r with service := leavingIfIn r.service }) s := by
    refine ((congrArg (setHead h · s) ?_).trans (setHead_same h s)).symm
    simp only [e]
  unfold takeOut
  split
  next e => exact absurd e member
  next e =>
    rw [if_neg holds]
    refine congrArg (setHead h · s) ?_
    simp only [e, leavingIfIn, if_true]
  next e => exact same (by simp [e, leavingIfIn])
  next e => exact same (by simp [e, leavingIfIn])

theorem countFault_below {h : HeadId} {s : State} (lt : (s.head h).record.faultCount + 1 < 3) :
    countFault h s = modRecord h (fun r => { r with faultCount := r.faultCount + 1 }) s := if_pos lt

theorem countFault_third {h : HeadId} {s : State} (ge : ¬(s.head h).record.faultCount + 1 < 3) :
    countFault h s = raiseRepeatedFaults h (modRecord h (fun r => { r with faultCount := 0 }) s) := if_neg ge

section
variable {h : HeadId} {s : State} {tk : Ticket} (ht : (s.head h).ticket = some tk)
include ht

theorem reportDoseEnd_fault {r : Reason} (fault : tk.faultReason = some r) :
    reportDoseEnd h s = countFault h (raiseFillFault r h s) := by simp only [reportDoseEnd, ht, fault]

theorem reportDoseEnd_good (noFault : tk.faultReason = none) (good : tk.disposition = .good) :
    reportDoseEnd h s = modRecord h (fun r => { r with faultCount := 0 }) (changeCauses h (fun c => { c with fillFault := none }) s) := by
  simp only [reportDoseEnd, ht, noFault, good, if_true]

theorem reportDoseEnd_reject (noFault : tk.faultReason = none) (reject : tk.disposition ≠ .good) : reportDoseEnd h s = s := by
  simp only [reportDoseEnd, ht, noFault, reject, if_false]

/-- The report changes the head's causes as R105 and R178 have it. -/
theorem reportDoseEnd_causes :
    ((reportDoseEnd h s).head h).causes = reportCauses tk (s.head h).record.faultCount (s.head h).causes := by
  cases fault : tk.faultReason with
  | none =>
    by_cases good : tk.disposition = .good
    · rw [reportDoseEnd_good ht fault good, head_modRecord, head_changeCauses]
      simp only [reportCauses, fault, good, if_true]
    · rw [reportDoseEnd_reject ht fault good]
      simp only [reportCauses, fault, good, if_false]
  | some r =>
    have count : ((raiseFillFault r h s).head h).record.faultCount = (s.head h).record.faultCount := by
      rw [raiseFillFault, head_changeCauses]
    rw [reportDoseEnd_fault ht fault]
    by_cases lt : (s.head h).record.faultCount + 1 < 3
    · rw [countFault_below (by rwa [count]), head_modRecord, raiseFillFault, head_changeCauses]
      simp only [reportCauses, fault, lt, if_true]
    · rw [countFault_third (by rwa [count]), raiseRepeatedFaults, takeOut_causes, head_changeCauses, head_modRecord, raiseFillFault,
        head_changeCauses]
      simp only [reportCauses, fault, lt, if_false]

/-- At a head that holds a container and is not JOINING the report changes fault count and service state of the record (R43, R55), and no
member comes or goes. -/
theorem reportDoseEnd_record (member : (s.head h).record.service ≠ .joining) (holds : s.phase h ≠ .empty) :
    ((reportDoseEnd h s).head h).record = { (s.head h).record with
      faultCount := reportCount tk (s.head h).record.faultCount
      service := reportService tk (s.head h).record.faultCount (s.head h).record.service } ∧
    MembersStand h s (reportDoseEnd h s) := by
  cases fault : tk.faultReason with
  | none =>
    by_cases good : tk.disposition = .good
    · rw [reportDoseEnd_good ht fault good, head_modRecord, head_changeCauses]
      exact ⟨by simp [reportCount, reportService, fault, good],
        (changeCauses_membersStand h _ s).trans (modRecord_membersStand h _ _)⟩
    · rw [reportDoseEnd_reject ht fault good]
      exact ⟨by simp [reportCount, reportService, fault, good], membersStand_refl h s⟩
  | some r =>
    have head : (raiseFillFault r h s).head h = { s.head h with causes := { (s.head h).causes with fillFault := some r } } :=
      head_changeCauses h _ s
    have raised : MembersStand h s (raiseFillFault r h s) := changeCauses_membersStand h _ s
    rw [reportDoseEnd_fault ht fault]
    by_cases lt : (s.head h).record.faultCount + 1 < 3
    · rw [countFault_below (by rwa [head]), head_modRecord, head]
      exact ⟨by simp [reportCount, reportService, fault, lt, show ¬3 ≤ (s.head h).record.faultCount + 1 by omega],
        raised.trans (modRecord_membersStand h _ _)⟩
    · have third : ((changeCauses h (fun c => { c with intervention := some .repeatedFaults })
          (modRecord h (fun r => { r with faultCount := 0 }) (raiseFillFault r h s))).head h) = { s.head h with
            record := { (s.head h).record with faultCount := 0 }
            causes := { (s.head h).causes with fillFault := some r, intervention := some .repeatedFaults } } := by
        rw [head_changeCauses, head_modRecord, head]
      rw [countFault_third (by rwa [head]), raiseRepeatedFaults,
        takeOut_holding (by rw [third]; exact member) (by rw [State.phase, third]; exact holds), head_modRecord, third]
      exact ⟨by simp [reportCount, reportService, leavingIfIn, fault, lt, show 3 ≤ (s.head h).record.faultCount + 1 by omega],
        raised.trans ((modRecord_membersStand h _ _).trans ((changeCauses_membersStand h _ _).trans (modRecord_membersStand h _ _)))⟩

end

/-! ## Dose end -/

/-- Without a ticket there is nothing to learn and nothing to report. -/
theorem doseEnd_noTicket {h : HeadId} {s : State} (ht : (s.head h).ticket = none) : doseEnd h s = doseJudged h s := by
  have noTicket : ((doseJudged h s).head h).ticket = none := by rw [head_doseJudged, ht]; rfl
  have learned : learn h (doseJudged h s) = doseJudged h s := by simp only [learn, noTicket]
  rw [doseEnd_eq, learned]
  simp only [reportDoseEnd, noTicket]

/-- Learning and report leave the works of every head, the pilot queue, the boost slots and the global flags. -/
theorem doseEnd_plant (h : HeadId) (s : State) : (doseEnd h s).plant = (doseJudged h s).plant := by
  cases ht : (s.head h).ticket with
  | none => rw [doseEnd_noTicket ht]
  | some tk =>
    have ticket : ((doseJudged h s).head h).ticket = some tk.judge := by rw [head_doseJudged, ht]; rfl
    rw [doseEnd_eq, reportDoseEnd_plant, learn_eq ticket, modRecord_plant]

theorem doseEnd_globals (h : HeadId) (s : State) : (doseEnd h s).globals = s.globals :=
  (plant_globals (doseEnd_plant h s)).trans (doseJudged_fillOnly h s).others.globals

/-- The head once learning has followed the judgement (R137 to R140). -/
theorem head_learn_doseJudged {h : HeadId} {s : State} {tk : Ticket} (ht : (s.head h).ticket = some tk) :
    (learn h (doseJudged h s)).head h = { (doseJudged h s).head h with
      record := { (s.head h).record with pendingA := s.learnedPending h tk.judge } } ∧
    MembersStand h s (learn h (doseJudged h s)) := by
  have judged := head_doseJudged h s
  have stands := (doseJudged_fillOnly h s).members
  have ticket : ((doseJudged h s).head h).ticket = some tk.judge := by rw [judged, ht]; rfl
  have hold : (doseJudged h s).learningHold = s.learningHold := outer_hold (doseJudged_fillOnly h s).others.outer
  have pending : (doseJudged h s).learnedPending h tk.judge = s.learnedPending h tk.judge := by
    simp only [State.learnedPending, State.usedRevision, State.slot, judged, hold, stands.2]
  rw [learn_eq ticket, head_modRecord, pending, judged]
  exact ⟨rfl, stands.trans (modRecord_membersStand h _ _)⟩

/-- Dose end is taken with the judged ticket, from the head's own causes and service state (R103 to R105). -/
theorem doseEnd_doseEnded {h : HeadId} {s : State} {tk : Ticket} (ht : (s.head h).ticket = some tk) :
    DoseEnded h tk.judge (s.head h).causes (s.head h).record.service s (doseEnd h s) := by
  have judged := head_doseJudged h s
  have plant := doseEnd_plant h s
  have works := plant_works plant h
  obtain ⟨learned, learnStands⟩ := head_learn_doseJudged ht
  have ticket : ((learn h (doseJudged h s)).head h).ticket = some tk.judge := by rw [learned, judged, ht]; rfl
  refine ⟨?_, ?_, ?_, fun member => ?_, ?_, ?_, ?_,
    ⟨doseEnd_outer h s, doseEnd_papers h s, doseEnd_globals h s, doseEnd_elsewhere h s⟩, doseEnd_judged⟩
  · rw [works_ticket works, judged, ht]; rfl
  · rw [plant_entryOf plant, entryOf_doseJudged]
  · rw [doseEnd_eq, reportDoseEnd_causes ticket, learned, judged]
  · obtain ⟨record, reportStands⟩ := reportDoseEnd_record ticket (by rw [learned]; exact member)
      (by rw [State.phase, learned, judged]; exact fun c => by cases c)
    rw [doseEnd_eq, record, learned]
    exact ⟨rfl, learnStands.trans reportStands⟩
  · rw [works_lastCounted works, judged]
  · rw [works_presence works, judged]
  · rw [works_pressureEqual works, judged]

end Sys2Proof.Machine
end

section
/-! SUPPORT. The forced ending straight to SNIFT at one head (R98) and at every installed head in SEATED to TOPUP (R7, R15, R102). -/

namespace Sys2Proof.Machine

/-! ## One head -/

/-- The pilots but GAS are released (R98). -/
def releaseButGas (h : HeadId) (s : State) : State := release .snift h (releaseFill h s)

theorem releaseButGas_fillOnly (h : HeadId) (s : State) : FillOnly h s (releaseButGas h s) :=
  (release_fillOnly .fast h s).trans ((release_fillOnly .slow h _).trans (release_fillOnly .snift h _))

/-- The head's pilots once all but GAS have been released. -/
def State.gasLeft (s : State) (h : HeadId) : Pilots :=
  { gas := (s.head h).pilots.gas, fast := s.releasedPilot h .fast, slow := s.releasedPilot h .slow, snift := s.releasedPilot h .snift }

theorem gasLeft_congr {h : HeadId} {s t : State} (e : (t.head h).pilots = (s.head h).pilots) (now : t.now = s.now) :
    t.gasLeft h = s.gasLeft h := by
  have get (p : Pilot) : (t.head h).pilots.get p = (s.head h).pilots.get p := by rw [e]
  rw [State.gasLeft, State.gasLeft, e, releasedPilot_congr (get .fast) now, releasedPilot_congr (get .slow) now,
    releasedPilot_congr (get .snift) now]

theorem head_releaseButGas (h : HeadId) (s : State) :
    (releaseButGas h s).head h = { s.head h with pilots := s.gasLeft h } := by
  have slow : (release .fast h s).releasedPilot h .slow = s.releasedPilot h .slow :=
    releasedPilot_congr (by rw [get_release, if_neg (by decide)]) (outer_now (release_outer _ _ _))
  have snift : (release .slow h (release .fast h s)).releasedPilot h .snift = s.releasedPilot h .snift :=
    releasedPilot_congr (by rw [get_release, if_neg (by decide), get_release, if_neg (by decide)]) (outer_now (by simp))
  rw [releaseButGas, releaseFill, head_release, snift, head_release, slow, head_release]
  rfl

theorem boosts_releaseButGas (h : HeadId) (s : State) : (releaseButGas h s).boosts =
    boostsWithout h (fun q => decide (q ≠ .gas) && s.energised h q) s.boosts := by
  have slow : (release .fast h s).energised h .slow = s.energised h .slow :=
    energised_congr (by rw [get_release, if_neg (by decide)])
  have snift : (release .slow h (release .fast h s)).energised h .snift = s.energised h .snift :=
    energised_congr (by rw [get_release, if_neg (by decide), get_release, if_neg (by decide)])
  rw [releaseButGas, releaseFill, boosts_release, boosts_release, boosts_release, boostsWithout_boostsWithout,
    boostsWithout_boostsWithout, slow, snift]
  exact boostsWithout_congr (fun q => by cases q <;> simp) _

/-- A forced ending straight to SNIFT before its dose end: the reason, the pilots but GAS released, no open queued, the timers stopped,
D_close (R68, R98). -/
def forcePrepared (r : Reason) (h : HeadId) (s : State) : State :=
  closeIfMetered h (stopTimers h (withdraw h (releaseButGas h (modTicket h (Ticket.addReason r) s))))

theorem forceToSnift_filling {r : Reason} {h : HeadId} {s : State} (filling : (s.phase h).filling = true) :
    forceToSnift r h s = doseEnd h (forcePrepared r h s) := if_pos filling

theorem forceToSnift_other {r : Reason} {h : HeadId} {s : State} (other : (s.phase h).filling = false) :
    forceToSnift r h s = s := if_neg (by rw [other]; exact Bool.false_ne_true)

theorem closeIfMetered_fillOnly (h : HeadId) (s : State) : FillOnly h s (closeIfMetered h s) := by
  unfold closeIfMetered; split
  · exact modTicket_fillOnly h _ s
  · exact .refl h s

theorem closeIfMetered_boosts (h : HeadId) (s : State) : (closeIfMetered h s).boosts = s.boosts := by
  unfold closeIfMetered; split <;> rfl

theorem head_closeIfMetered (h : HeadId) (s : State) : (closeIfMetered h s).head h = { s.head h with
    ticket := if (s.phase h).metered then (s.head h).ticket.map Ticket.recordClose else (s.head h).ticket } := by
  unfold closeIfMetered; split <;> simp [modTicket, *]

theorem forcePrepared_fillOnly (r : Reason) (h : HeadId) (s : State) : FillOnly h s (forcePrepared r h s) :=
  (modTicket_fillOnly h _ s).trans ((releaseButGas_fillOnly h _).trans ((withdraw_fillOnly h _).trans
    ((modSeq_fillOnly h _ _).trans (closeIfMetered_fillOnly h _))))

theorem metered_endedWith (o : Option Ticket) (r : Reason) (p : Phase) :
    (if p.metered then (o.map (Ticket.addReason r)).map Ticket.recordClose else o.map (Ticket.addReason r)) =
      o.map fun tk => tk.endedWith r p := by
  cases o with
  | none => cases p <;> rfl
  | some tk => cases p <;> rfl

/-- The head once the forced ending is prepared (R68, R98). -/
theorem head_forcePrepared (r : Reason) (h : HeadId) (s : State) : (forcePrepared r h s).head h = { s.head h with
    seq := { (s.head h).seq with timers := .stopped }, ticket := (s.head h).ticket.map fun tk => tk.endedWith r (s.phase h)
    pilots := s.gasLeft h } := by
  have marked : (modTicket h (Ticket.addReason r) s).head h =
      { s.head h with ticket := (s.head h).ticket.map (Ticket.addReason r) } := head_modHead_self h _ s
  have left : (modTicket h (Ticket.addReason r) s).gasLeft h = s.gasLeft h := gasLeft_congr (by rw [marked]) rfl
  have stopped : (stopTimers h (withdraw h (releaseButGas h (modTicket h (Ticket.addReason r) s)))).head h = { s.head h with
      seq := { (s.head h).seq with timers := .stopped }, ticket := (s.head h).ticket.map (Ticket.addReason r)
      pilots := s.gasLeft h } := by
    rw [stopTimers, modSeq, head_modHead_self, withdraw, head_putQueue, head_releaseButGas, left, marked]
  rw [forcePrepared, head_closeIfMetered, State.phase, stopped, metered_endedWith, State.phase]

theorem boosts_forcePrepared (r : Reason) (h : HeadId) (s : State) : (forcePrepared r h s).boosts =
    boostsWithout h (fun q => decide (q ≠ .gas) && s.energised h q) s.boosts := by
  have on (q : Pilot) : (modTicket h (Ticket.addReason r) s).energised h q = s.energised h q := energised_congr (by simp [modTicket])
  rw [forcePrepared, closeIfMetered_boosts, stopTimers, modSeq, modHead_boosts, withdraw, putQueue_boosts, boosts_releaseButGas]
  simp only [on]
  rfl

/-- Dose end stays dose end when what came before it was work on the fill alone. -/
theorem DoseEnded.of_fillOnly {h : HeadId} {tk : Ticket} {s u v : State} (before : FillOnly h s u)
    (ended : DoseEnded h tk (u.head h).causes (u.head h).record.service u v) :
    DoseEnded h tk (s.head h).causes (s.head h).record.service s v := by
  obtain ⟨ticket, entry, causes, record, lastCounted, presence, pressureEqual, others, judged⟩ := ended
  have step : u.tracker.stepCount = s.tracker.stepCount := congrArg Tracker.stepCount (outer_tracker before.others.outer)
  have pending : u.learnedPending h tk = s.learnedPending h tk := by
    simp only [State.learnedPending, State.usedRevision, State.slot, before.record, before.members.2, outer_hold before.others.outer]
  rw [before.record, before.causes] at causes
  rw [before.record, pending] at record
  exact ⟨ticket, step ▸ entry, causes, fun member => ⟨(record member).1, before.members.trans (record member).2⟩,
    lastCounted.trans before.lastCounted, presence.trans before.presence, pressureEqual.trans before.pressureEqual,
    before.others.trans others, fun js => judged (judged_of_attn before.attn js)⟩

/-- A head in SEATED to TOPUP is forced straight to SNIFT as R98 has it. -/
theorem forceToSnift_forced {r : Reason} {h : HeadId} {s : State} (filling : (s.phase h).filling = true) :
    ForcedToSnift r h (s.head h).causes (s.head h).record.service s (forceToSnift r h s) := by
  intro tk ht
  have prepared := head_forcePrepared r h s
  have ticket : ((forcePrepared r h s).head h).ticket = some (tk.endedWith r (s.phase h)) := by rw [prepared, ht]; rfl
  have works := plant_works (doseEnd_plant h (forcePrepared r h s)) h
  have before := forcePrepared_fillOnly r h s
  have gas : (forcePrepared r h s).releasedPilot h .gas = s.releasedPilot h .gas :=
    releasedPilot_congr (by rw [prepared]; rfl) (outer_now before.others.outer)
  rw [forceToSnift_filling filling]
  refine ⟨.of_fillOnly before (doseEnd_doseEnded ticket), ?_, fun p => ?_⟩
  · rw [works_seq works, head_doseJudged, prepared]
    simp [Timers.leaving, Timers.stopped]
  · rw [works_pilots works, head_doseJudged, gas, prepared]
    cases p <;> rfl

/-- The head's grants keep only the pilots that were not energised (log entry 10). -/
theorem boosts_forceToSnift {r : Reason} {h : HeadId} {s : State} (filling : (s.phase h).filling = true) :
    (forceToSnift r h s).boosts = boostsWithout h (s.energised h) s.boosts := by
  have gas : (forcePrepared r h s).energised h .gas = s.energised h .gas := energised_congr (by rw [head_forcePrepared]; rfl)
  rw [forceToSnift_filling filling, plant_boosts (doseEnd_plant h _), boosts_doseJudged, boosts_forcePrepared,
    boostsWithout_boostsWithout, gas]
  exact boostsWithout_congr (fun q => by cases q <;> simp) _

theorem forceToSnift_globals (r : Reason) (h : HeadId) (s : State) : (forceToSnift r h s).globals = s.globals := by
  cases filling : (s.phase h).filling with
  | false => rw [forceToSnift_other filling]
  | true => rw [forceToSnift_filling filling, doseEnd_globals, (forcePrepared_fillOnly r h s).others.globals]

/-- No member comes or goes where the head is not JOINING, which no head that holds a container is (R40). -/
theorem forceToSnift_members {r : Reason} {h : HeadId} {s : State} (filling : (s.phase h).filling = true)
    (member : (s.head h).record.service ≠ .joining) : MembersStand h s (forceToSnift r h s) := by
  cases ht : (s.head h).ticket with
  | some tk =>
    obtain ⟨⟨-, -, -, record, -⟩, -⟩ := forceToSnift_forced (r := r) filling tk ht
    exact (record member).2
  | none =>
    have noTicket : ((forcePrepared r h s).head h).ticket = none := by rw [head_forcePrepared, ht]; rfl
    rw [forceToSnift_filling filling, doseEnd_noTicket noTicket]
    exact ((forcePrepared_fillOnly r h s).trans (doseJudged_fillOnly h _)).members

end Sys2Proof.Machine
end

section
/-! SUPPORT. The abort of every installed head in SEATED to TOPUP (R7, R15, R102): the heads one after another, and the statements about
reverse steps and a mismatched index. -/

namespace Sys2Proof.Machine

/-! ## Fault counts when a member leaves -/

/-- The heads' consecutive fault counts, which no alignment or promotion writes. -/
def State.faults (s : State) : HeadId → Nat := fun j => (s.head j).record.faultCount

theorem faults_at {s t : State} (e : t.faults = s.faults) (j : HeadId) :
    (t.head j).record.faultCount = (s.head j).record.faultCount := congrFun e j

theorem modRecord_faults (h : HeadId) (f : HeadRecord → HeadRecord) (hf : ∀ r, (f r).faultCount = r.faultCount) (s : State) :
    (modRecord h f s).faults = s.faults := by
  funext j
  rw [State.faults, modRecord, head_modHead]
  split
  next e => rw [e]; exact hf _
  next => rfl
theorem mapHeads_faults (f : Head → Head) (hf : ∀ x, (f x).record.faultCount = x.record.faultCount) (s : State) :
    (mapHeads f s).faults = s.faults := by
  funext j
  rw [State.faults, head_mapHeads]
  exact hf _
@[simp] theorem modSlot_faults (n : SlotId) (f : Slot → Slot) (s : State) : (modSlot n f s).faults = s.faults := rfl
@[simp] theorem alignHead_faults (h : HeadId) (s : State) : (alignHead h s).faults = s.faults := by
  unfold alignHead; split
  · rfl
  · split
    · rfl
    next rev _ => exact modRecord_faults h (alignRecord rev) (fun _ => rfl) s
@[simp] theorem alignOut_faults (n : SlotId) (rev : Revision) (s : State) : (alignOut n rev s).faults = s.faults :=
  mapHeads_faults _ (fun x => by split <;> rfl) s
@[simp] theorem membersUseCurrent_faults (n : SlotId) (s : State) : (membersUseCurrent n s).faults = s.faults :=
  mapHeads_faults _ (fun x => by split <;> rfl) s
@[simp] theorem promote_faults (n : SlotId) (s : State) : (promote n s).faults = s.faults := by unfold promote; split <;> simp
@[simp] theorem promoteIfDone_faults (n : SlotId) (s : State) : (promoteIfDone n s).faults = s.faults := by
  unfold promoteIfDone; split <;> simp
@[simp] theorem leaveCounts_faults (n : SlotId) (b : Bool) (s : State) : (leaveCounts n b s).faults = s.faults := by simp [leaveCounts]
@[simp] theorem becomeOut_faults (h : HeadId) (s : State) : (becomeOut h s).faults = s.faults := by
  have out := modRecord_faults h (fun r => { r with service := .out }) (fun _ => rfl) s
  unfold becomeOut; simp only; split
  · exact out
  · rw [alignHead_faults, leaveCounts_faults, out]
@[simp] theorem takeOut_faults (h : HeadId) (s : State) : (takeOut h s).faults = s.faults := by
  unfold takeOut; split
  · simp
  · split
    · simp
    · exact modRecord_faults h (fun r => { r with service := .leaving }) (fun _ => rfl) s
  · rfl
  · rfl

/-- A fault counted at one head leaves the counts of the others. -/
theorem countFault_faults {h j : HeadId} (ne : j ≠ h) (s : State) :
    ((countFault h s).head j).record.faultCount = (s.head j).record.faultCount := by
  unfold countFault; split
  · rw [modRecord, head_modHead_ne ne]
  · rw [raiseRepeatedFaults, faults_at (takeOut_faults h _), (changeCauses_membersStand h _ _).1 j ne,
      (modRecord_membersStand h _ s).1 j ne]

theorem reportDoseEnd_faults {h j : HeadId} (ne : j ≠ h) (s : State) :
    ((reportDoseEnd h s).head j).record.faultCount = (s.head j).record.faultCount := by
  unfold reportDoseEnd; split
  · rfl
  · split
    · rw [countFault_faults ne, raiseFillFault, (changeCauses_membersStand h _ s).1 j ne]
    · split
      · rw [(modRecord_membersStand h _ _).1 j ne, (changeCauses_membersStand h _ s).1 j ne]
      · rfl

theorem learn_members (h : HeadId) (s : State) : MembersStand h s (learn h s) := by
  cases ht : (s.head h).ticket with
  | none =>
    have : learn h s = s := by simp only [learn, ht]
    rw [this]; exact membersStand_refl h s
  | some tk => rw [learn_eq ht]; exact modRecord_membersStand h _ s

theorem forceToSnift_faults {r : Reason} {h j : HeadId} (ne : j ≠ h) (s : State) :
    ((forceToSnift r h s).head j).record.faultCount = (s.head j).record.faultCount := by
  cases filling : (s.phase h).filling with
  | false => rw [forceToSnift_other filling]
  | true => rw [forceToSnift_filling filling, doseEnd_eq, reportDoseEnd_faults ne, (learn_members h _).1 j ne,
      (doseJudged_fillOnly h _).members.1 j ne, (forcePrepared_fillOnly r h s).members.1 j ne]

/-! ## Reasons that force -/

/-- A reason other than LOW and HIGH, once on the ticket, makes the ticket forced, before the judgement and after it (R74). -/
theorem forced_endedWith {r : Reason} (hr : r ≠ .low ∧ r ≠ .high) (tk : Ticket) (p : Phase) : (tk.endedWith r p).judge.forced = true := by
  have bit : r.bit &&& ~~~unforcedReasons ≠ 0#16 := by
    have each : ∀ r : Reason, r ≠ .low ∧ r ≠ .high → r.bit &&& ~~~unforcedReasons ≠ 0#16 := by
      intro r
      cases r <;> decide
    exact each r hr
  have ended : (tk.endedWith r p).forced = true := by
    refine decide_eq_true fun c => bit ?_
    have : (tk.reasons &&& ~~~unforcedReasons) ||| (r.bit &&& ~~~unforcedReasons) = 0#16 := by
      rw [← c]; ext i; simp [Ticket.endedWith, Bool.and_or_distrib_right]
    exact (BitVec.or_eq_zero_iff.mp this).2
  have reasons : (tk.endedWith r p).judge.reasons = (tk.endedWith r p).reasons := if_pos ended
  rw [Ticket.forced, reasons]
  exact ended

/-- A forced ticket teaches nothing (R137). -/
theorem learnedPending_forced {tk : Ticket} (forced : tk.forced = true) (h : HeadId) (s : State) :
    s.learnedPending h tk = (s.head h).record.pendingA := by
  simp only [State.learnedPending, forced]
  split <;> simp

/-! ## The abort, head after head -/

/-- Works, causes and queued open of the head stand. -/
structure HeadStands (h : HeadId) (s v : State) : Prop where
  works : (v.head h).works = (s.head h).works
  causes : (v.head h).causes = (s.head h).causes
  entry : v.entryOf h = s.entryOf h

/-- The head has been forced straight to SNIFT: what `AllForcedToSnift` says of it beside its record. -/
def HeadForced (r : Reason) (h : HeadId) (s v : State) : Prop :=
  ∀ tk, (s.head h).ticket = some tk →
    let x := s.head h
    let y := v.head h
    let tk' := (tk.endedWith r (s.phase h)).judge
    y.ticket = some tk' ∧ y.seq = { x.seq with phase := .snift, timers := .stopped } ∧
    (∀ p, y.pilots.get p = s.releasedPilot h p) ∧ v.entryOf h = some { head := h, kind := .snift, step := s.tracker.stepCount } ∧
    y.causes = reportCauses tk' x.record.faultCount x.causes ∧
    y.lastCounted = x.lastCounted ∧ y.presence = x.presence ∧ y.pressureEqual = x.pressureEqual

/-- The record of a head forced straight to SNIFT: what `AllForcedToSnift` says of it. -/
def RecordForced (r : Reason) (h : HeadId) (s v : State) : Prop :=
  ∀ tk, (s.head h).ticket = some tk →
    let q := (s.head h).record
    let tk' := (tk.endedWith r (s.phase h)).judge
    (v.head h).record = { q with
      faultCount := reportCount tk' q.faultCount, service := reportService tk' q.faultCount q.service }

/-- The boost slots once each of these heads has been forced straight to SNIFT (log entry 10). -/
def State.boostsForced (s : State) (struck : HeadId → Bool) : Vector (Option Grant) 6 :=
  s.boosts.map fun o => o.map fun g =>
    if struck g.head then { g with pilots := g.pilots.filter fun p => !s.energised g.head p } else g

/-- The heads in `struck` have been forced straight to SNIFT, and every other head stands. -/
structure ForcedWhere (r : Reason) (struck : HeadId → Bool) (s v : State) : Prop where
  forced : ∀ h, struck h = true → HeadForced r h s v
  stands : ∀ h, struck h = false → HeadStands h s v
  records : (∀ h, (s.phase h).filling = true → (s.head h).record.service ≠ .joining) → v.slots = s.slots ∧
    (∀ h, struck h = true → RecordForced r h s v) ∧ ∀ h, struck h = false → (v.head h).record = (s.head h).record
  faults : ∀ h, struck h = false → (v.head h).record.faultCount = (s.head h).record.faultCount
  boosts : v.boosts = s.boostsForced struck
  outer : v.outer = s.outer
  papers : v.papers = s.papers
  globals : v.globals = s.globals
  judged : LineJudged s → LineJudged v

theorem ForcedWhere.allForced {r : Reason} {s v : State}
    (f : ForcedWhere r (fun h => s.isInstalled h && (s.phase h).filling) s v) : AllForcedToSnift r s v :=
  ⟨fun h tk struck ht => f.forced h struck tk ht,
    fun h out => have e := f.stands h out; ⟨e.works, e.causes, e.entry⟩,
    fun members =>
      have ⟨slots, forced, stands⟩ := f.records members
      ⟨slots, fun h tk struck ht => forced h struck tk ht, stands⟩,
    f.boosts, f.outer, f.papers, f.judged⟩

theorem HeadStands.phase {h : HeadId} {s v : State} (e : HeadStands h s v) : v.phase h = s.phase h :=
  congrArg Sequencer.phase (works_seq e.works)

/-- A head forced before stays as it is where it stands. -/
theorem HeadForced.of_stands {r : Reason} {h : HeadId} {s v w : State} (f : HeadForced r h s v) (e : HeadStands h v w) :
    HeadForced r h s w := by
  intro tk ht
  obtain ⟨ticket, seq, pilots, entry, causes, lastCounted, presence, pressureEqual⟩ := f tk ht
  exact ⟨(works_ticket e.works).trans ticket, (works_seq e.works).trans seq, fun p => (congrArg (·.get p) (works_pilots e.works)).trans (pilots p),
    e.entry.trans entry, e.causes.trans causes, (works_lastCounted e.works).trans lastCounted, (works_presence e.works).trans presence,
    (works_pressureEqual e.works).trans pressureEqual⟩

/-- Forcing a head that has stood so far is forcing it from the start. -/
theorem HeadForced.from_stands {r : Reason} {h : HeadId} {s v w : State} (e : HeadStands h s v) (outer : v.outer = s.outer)
    (count : (v.head h).record.faultCount = (s.head h).record.faultCount) (f : HeadForced r h v w) : HeadForced r h s w := by
  intro tk ht
  obtain ⟨ticket, seq, pilots, entry, causes, lastCounted, presence, pressureEqual⟩ := f tk ((works_ticket e.works).trans ht)
  have step : v.tracker.stepCount = s.tracker.stepCount := congrArg Tracker.stepCount (outer_tracker outer)
  rw [e.phase] at ticket causes
  rw [works_seq e.works] at seq
  rw [count, e.causes] at causes
  exact ⟨ticket, seq, fun p => (pilots p).trans (releasedPilot_congr (by rw [works_pilots e.works]) (outer_now outer)), step ▸ entry, causes,
    lastCounted.trans (works_lastCounted e.works), presence.trans (works_presence e.works), pressureEqual.trans (works_pressureEqual e.works)⟩

theorem forceToSnift_headForced {r : Reason} {h : HeadId} {s : State} (filling : (s.phase h).filling = true) :
    HeadForced r h s (forceToSnift r h s) := by
  intro tk ht
  obtain ⟨⟨ticket, entry, causes, -, lastCounted, presence, pressureEqual, -⟩, seq, pilots⟩ := forceToSnift_forced (r := r) filling tk ht
  exact ⟨ticket, seq, pilots, entry, causes, lastCounted, presence, pressureEqual⟩

theorem forceToSnift_headStands (r : Reason) {h j : HeadId} (ne : j ≠ h) (s : State) : HeadStands j s (forceToSnift r h s) :=
  have elsewhere := forceToSnift_elsewhere r h s
  ⟨works_of_elsewhere elsewhere ne, causes_of_elsewhere elsewhere ne, entryOf_of_elsewhere elsewhere ne⟩

theorem forceToSnift_recordForced {r : Reason} (hr : r ≠ .low ∧ r ≠ .high) {h : HeadId} {s : State}
    (filling : (s.phase h).filling = true) (member : (s.head h).record.service ≠ .joining) :
    RecordForced r h s (forceToSnift r h s) := by
  intro tk ht
  obtain ⟨⟨-, -, -, record, -⟩, -⟩ := forceToSnift_forced (r := r) filling tk ht
  rw [(record member).1, learnedPending_forced (forced_endedWith hr tk _)]

/-- The boost slots take the forcing of one more head. -/
theorem boostsForced_insert {s : State} {struck : HeadId → Bool} {h : HeadId} (fresh : struck h = false) :
    boostsWithout h (s.energised h) (s.boostsForced struck) = s.boostsForced fun j => struck j || decide (j = h) := by
  simp only [boostsWithout, State.boostsForced, Vector.map_map]
  congr 1
  funext o
  cases o with
  | none => rfl
  | some g =>
    by_cases mine : g.head = h
    · simp [Grant.without, mine, fresh]
    · cases hit : struck g.head <;> simp [Grant.without, mine, hit]

/-- One more head is forced. -/
theorem ForcedWhere.insert {r : Reason} (hr : r ≠ .low ∧ r ≠ .high) {struck : HeadId → Bool} {s v : State} {h : HeadId}
    (f : ForcedWhere r struck s v) (fresh : struck h = false) (filling : (s.phase h).filling = true) :
    ForcedWhere r (fun j => struck j || decide (j = h)) s (forceToSnift r h v) := by
  have here := f.stands h fresh
  have filling' : (v.phase h).filling = true := by rw [here.phase]; exact filling
  have outside {j : HeadId} (out : (struck j || decide (j = h)) = false) : struck j = false ∧ j ≠ h := by simpa using out
  refine ⟨fun j hit => ?_, fun j out => ?_, fun members => ?_, fun j out => ?_, ?_, ?_, ?_, ?_, fun js => forceToSnift_judged (f.judged js)⟩
  · by_cases e : j = h
    · subst e
      exact .from_stands here f.outer (f.faults j fresh) (forceToSnift_headForced filling')
    · exact (f.forced j (by simpa [e] using hit)).of_stands (forceToSnift_headStands r e v)
  · obtain ⟨before, ne⟩ := outside out
    obtain ⟨works, causes, entry⟩ := f.stands j before
    obtain ⟨works', causes', entry'⟩ := forceToSnift_headStands r ne v
    exact ⟨works'.trans works, causes'.trans causes, entry'.trans entry⟩
  · obtain ⟨slots, forced, stands⟩ := f.records members
    have member : (v.head h).record.service ≠ .joining := by rw [stands h fresh]; exact members h filling
    have others := forceToSnift_members (r := r) filling' member
    refine ⟨others.2.trans slots, fun j hit tk ht => ?_, fun j out => ?_⟩
    · by_cases e : j = h
      · subst e
        have := forceToSnift_recordForced hr filling' member tk ((works_ticket here.works).trans ht)
        rwa [here.phase, stands j fresh] at this
      · exact (others.1 j e).trans (forced j (by simpa [e] using hit) tk ht)
    · obtain ⟨before, ne⟩ := outside out
      exact (others.1 j ne).trans (stands j before)
  · obtain ⟨before, ne⟩ := outside out
    exact (forceToSnift_faults ne v).trans (f.faults j before)
  · have on : v.energised h = s.energised h := funext fun p => energised_congr (by rw [works_pilots here.works])
    rw [boosts_forceToSnift filling', f.boosts, on, boostsForced_insert fresh]
  · exact (forceToSnift_outer r h v).trans f.outer
  · exact (forceToSnift_papers r h v).trans f.papers
  · exact (forceToSnift_globals r h v).trans f.globals

theorem ForcedWhere.nobody (r : Reason) (s : State) : ForcedWhere r (fun _ => false) s s := by
  refine ⟨nofun, fun h _ => ⟨rfl, rfl, rfl⟩, fun _ => ⟨rfl, nofun, fun _ _ => rfl⟩, fun _ _ => rfl, ?_, rfl, rfl, rfl, id⟩
  simp [State.boostsForced]

/-- The abort at a list of different heads forces those of them that are in SEATED to TOPUP. -/
theorem forcedWhere_foldl {r : Reason} (hr : r ≠ .low ∧ r ≠ .high) (s : State) (l : List HeadId) (nodup : l.Nodup) :
    ForcedWhere r (fun j => decide (j ∈ l) && (s.phase j).filling) s (l.foldl (fun acc h => forceToSnift r h acc) s) := by
  induction l using List.reverseRecOn with
  | nil => simpa using ForcedWhere.nobody r s
  | append_singleton l h ih =>
    obtain ⟨before, -, apart⟩ := List.nodup_append.mp nodup
    have fresh : h ∉ l := fun c => apart h c h List.mem_cons_self rfl
    have f := ih before
    rw [List.foldl_append, List.foldl_cons, List.foldl_nil]
    have out : (decide (h ∈ l) && (s.phase h).filling) = false := by simp [fresh]
    cases filling : (s.phase h).filling with
    | true =>
      have : (fun j => decide (j ∈ l ++ [h]) && (s.phase j).filling) =
          fun j => (decide (j ∈ l) && (s.phase j).filling) || decide (j = h) := by
        funext j
        by_cases e : j = h <;> simp [e, filling]
      rw [this]
      exact f.insert hr out filling
    | false =>
      have : (fun j => decide (j ∈ l ++ [h]) && (s.phase j).filling) = fun j => decide (j ∈ l) && (s.phase j).filling := by
        funext j
        by_cases e : j = h <;> simp [e, filling]
      rw [this, forceToSnift_other (by rw [(f.stands h out).phase, filling])]
      exact f

/-- The abort forces every installed head in SEATED to TOPUP straight to SNIFT, and no other (R7, R15, R102). -/
theorem forcedWhere_forInstalled {r : Reason} (hr : r ≠ .low ∧ r ≠ .high) (s : State) :
    ForcedWhere r (fun h => s.isInstalled h && (s.phase h).filling) s (forInstalled (forceToSnift r) s) := by
  have := forcedWhere_foldl hr s s.installed (nodup_installed s)
  simp only [mem_installed, Bool.decide_eq_true] at this
  exact this

/-! ## The statements -/

/-- What an abort does before the grants follow (R7, R15, R102). -/
theorem abortAll_eq (r : Reason) (s : State) : abortAll r s = arbitrate (forInstalled (forceToSnift r) s) := rfl

/-- A reverse step that aborts raises REVERSE and forces the heads with reason REVERSE (R7); what the heads do is read off the state
before the flag, which differs in flag and line alone. -/
theorem reverseAbort_spec (s : State) : ∃ v, reverseAbort s = arbitrate v ∧ v.globals = { s.globals with reverse := true } ∧
    AllForcedToSnift .reverse s v ∧ LineJudged v := by
  have f := forcedWhere_forInstalled (r := .reverse) (by decide) (raiseReverse s)
  have judged := f.judged (changeGlobals_judged _ s)
  obtain ⟨forced, stands, records, boosts, outer, papers, -⟩ := f.allForced
  exact ⟨_, abortAll_eq .reverse (raiseReverse s), f.globals, ⟨forced, stands, records, boosts, outer, papers, fun _ => judged⟩, judged⟩

/-- Settles O6: the tracker's part by unfolding, the abort by `reverseAbort_spec`. -/
theorem reverseStepsTurnBack : Obligations.ReverseStepsTurnBack := by
  refine ⟨fun t s m => ?_, fun t s m => ?_⟩
  · intro s'
    have e : exec (.reverseStep t) s = .next (reverseAbort s') :=
      congrArg Host.Outcome.next (reverseStep_tracking (s := { s.advance t with encoder := s.encoder.backward }) m)
    obtain ⟨v, step, spec⟩ := reverseAbort_spec s'
    exact ⟨v, by rw [e, step], spec⟩
  · intro s'
    have e : exec (.reverseStep t) s = .next (if s.tracker.reverseOwed then reverseAbort s' else s') :=
      congrArg Host.Outcome.next (reverseStep_backing (s := { s.advance t with encoder := s.encoder.backward }) m)
    refine ⟨fun clear => by rw [e, clear, if_neg Bool.false_ne_true], fun owed => ?_⟩
    obtain ⟨v, step, spec⟩ := reverseAbort_spec s'
    exact ⟨v, by rw [e, if_pos owed, step], spec⟩

/-- The abort at a mismatch above half the pitch, or none (R15). -/
theorem angleAbort_spec (k : Nat) (s : State) :
    if 7680 / s.tracker.line.headCount / 2 < k then
      ∃ v, angleAbort k s = arbitrate v ∧ v.globals = s.globals ∧ AllForcedToSnift .angle s v
    else angleAbort k s = s := by
  have f := forcedWhere_forInstalled (r := .angle) (by decide) s
  by_cases far : 7680 / s.tracker.line.headCount / 2 < k
  · rw [if_pos far]
    exact ⟨_, (if_pos far).trans (abortAll_eq .angle s), f.globals, f.allForced⟩
  · rw [if_neg far]
    exact if_neg far

/-- Settles O8: the abort by `angleAbort_spec`, the catch-up by `catchUp_eq_iterate` and `tracker_crossingStep_iterate`. -/
theorem indexMismatchResyncs : Obligations.IndexMismatchResyncs := by
  intro t s m off below a k err s'
  have raised : raiseAngleFault { s.advance t with tracker := { s.tracker with lastIndexError := indexError a } } = s' := by
    have : indexError a = err := by
      simp only [indexError, err, k]
      split <;> rfl
    rw [this]; rfl
  have e : exec (.indexEvent t) s = .next (if a < 3840 then
      { angleAbort k s' with tracker := (angleAbort k s').tracker.resync } else catchUp k (angleAbort k s')) := by
    rw [← raised]
    exact congrArg Host.Outcome.next (indexEvent_mismatched (s := s.advance t) m off)
  have angle : (angleAbort k s').tracker.angle = s'.tracker.angle :=
    congrArg Tracker.angle (outer_tracker (angleAbort_outer k s'))
  refine ⟨angleAbort k s', angleAbort_spec k s', fun extra => ?_, fun lost => ⟨?_, ?_⟩⟩
  · rw [e, if_pos extra, Tracker.resync, angle]; rfl
  · rw [e, if_neg (by omega), catchUp_eq_iterate]
  · have counted : k = 7680 - a := if_neg (by omega)
    have revolution : (s'.tracker.angle + k) % Config.counts = 0 := by
      have : a + k = 7680 := by rw [counted]; exact Nat.add_sub_cancel' (Nat.le_of_lt below)
      show (a + k) % 7680 = 0
      rw [this]
    rw [tracker_crossingStep_iterate (by rw [angle]; exact below), angle, revolution]

end Sys2Proof.Machine
end

section
/-! SUPPORT. The recipe table's operations: alignment, promotion, a member that leaves and one that joins (R24, R27, R28, R34). -/

namespace Sys2Proof.Machine

/-! ## Operations on slots and heads alone -/

/-- Nothing but slots and heads has changed. -/
def TablesOnly (s u : State) : Prop := u = { s with slots := u.slots, heads := u.heads }

theorem TablesOnly.refl (s : State) : TablesOnly s s := rfl

theorem TablesOnly.trans {s t u : State} (a : TablesOnly s t) (b : TablesOnly t u) : TablesOnly s u := by
  unfold TablesOnly at *
  rw [b, a]

theorem setHead_tablesOnly (h : HeadId) (x : Head) (s : State) : TablesOnly s (setHead h x s) := rfl
theorem modRecord_tablesOnly (h : HeadId) (f : HeadRecord → HeadRecord) (s : State) : TablesOnly s (modRecord h f s) := rfl
theorem modSlot_tablesOnly (n : SlotId) (f : Slot → Slot) (s : State) : TablesOnly s (modSlot n f s) := rfl

/-! ## Slots after an update -/

theorem slot_modSlot_ne {n m : SlotId} (ne : m ≠ n) (f : Slot → Slot) (s : State) : (modSlot n f s).slot m = s.slot m := by
  rw [slot_modSlot, if_neg ne]

@[simp] theorem slot_modRecord (m : SlotId) (h : HeadId) (f : HeadRecord → HeadRecord) (s : State) :
    (modRecord h f s).slot m = s.slot m := rfl

theorem slots_ext {s t : State} (e : ∀ n, s.slot n = t.slot n) : s.slots = t.slots := by
  apply Vector.ext
  intro i hi
  exact e ⟨i, hi⟩

theorem head_modRecord_ne {h j : HeadId} (ne : j ≠ h) (f : HeadRecord → HeadRecord) (s : State) :
    (modRecord h f s).head j = s.head j := head_modHead_ne ne _ s

/-! ## Alignment (R24) -/

/-- The head aligned with a current revision (R24). -/
def Head.aligned (rev : Revision) (x : Head) : Head := { x with record := alignRecord rev x.record }

/-- Aligning twice with the same revision is aligning once. -/
theorem alignRecord_alignRecord (rev : Revision) (r : HeadRecord) : alignRecord rev (alignRecord rev r) = alignRecord rev r := by
  have lead (a : Nat) : clampLead rev (clampLead rev a) = clampLead rev a := by simp [clampLead]
  have trim (t : Int) : clampTrim rev (clampTrim rev t) = clampTrim rev t := by unfold clampTrim; omega
  simp [alignRecord, lead, trim, Function.comp_def]

theorem alignHead_some {h : HeadId} {n : SlotId} {rev : Revision} {s : State} (slot : (s.head h).record.slot = some n)
    (current : (s.slot n).current = some rev) : alignHead h s = modRecord h (alignRecord rev) s := by
  simp only [alignHead, slot, current]

theorem alignHead_none {h : HeadId} {n : SlotId} {s : State} (slot : (s.head h).record.slot = some n)
    (current : (s.slot n).current = none) : alignHead h s = s := by
  simp only [alignHead, slot, current]

theorem alignHead_slots (h : HeadId) (s : State) : (alignHead h s).slots = s.slots := by
  unfold alignHead; split
  · rfl
  · split <;> rfl

theorem head_alignHead_ne {h j : HeadId} (ne : j ≠ h) (s : State) : (alignHead h s).head j = s.head j := by
  unfold alignHead; split
  · rfl
  · split
    · rfl
    · exact head_modRecord_ne ne _ s

theorem alignHead_tablesOnly (h : HeadId) (s : State) : TablesOnly s (alignHead h s) := by
  unfold alignHead; split
  · rfl
  · split <;> rfl

/-! ## Promotion (R34) -/

/-- A slot whose pending revision has been promoted (R34). -/
def Slot.promoted (rev : Revision) (sl : Slot) : Slot := { sl with current := some rev, pending := none, unadopted := 0, adopted := 0 }

/-- A head once the pending revision of slot `n` has been promoted: a member uses the current one, an OUT head is aligned (R24, R34). -/
def Head.promoted (n : SlotId) (rev : Revision) (x : Head) : Head :=
  if x.record.slot ≠ some n then x
  else if x.record.service ≠ .out then { x with record := { x.record with usesPending := false } }
  else x.aligned rev

theorem Head.promoted_elsewhere {n : SlotId} {rev : Revision} {x : Head} (other : x.record.slot ≠ some n) : x.promoted n rev = x :=
  if_pos other

theorem Head.promoted_member {n : SlotId} {rev : Revision} {x : Head} (slot : x.record.slot = some n) (member : x.record.service ≠ .out) :
    x.promoted n rev = { x with record := { x.record with usesPending := false } } := by
  rw [Head.promoted, if_neg (not_not_intro slot), if_pos member]

theorem Head.promoted_out {n : SlotId} {rev : Revision} {x : Head} (slot : x.record.slot = some n) (out : x.record.service = .out) :
    x.promoted n rev = x.aligned rev := by
  rw [Head.promoted, if_neg (not_not_intro slot), if_neg (not_not_intro out)]

section
variable {n : SlotId} {rev : Revision} {s : State} (pending : (s.slot n).pending = some rev)
include pending

theorem promote_some : promote n s = alignOut n rev (membersUseCurrent n (modSlot n (Slot.promoted rev) s)) := by
  simp only [promote, pending]; rfl

theorem slot_promote (m : SlotId) : (promote n s).slot m = if m = n then (s.slot n).promoted rev else s.slot m := by
  rw [promote_some pending]
  exact slot_modSlot n m _ s

theorem head_promote (h : HeadId) : (promote n s).head h = (s.head h).promoted n rev := by
  rw [promote_some pending, alignOut, membersUseCurrent, head_mapHeads, head_mapHeads, head_modSlot]
  by_cases slot : (s.head h).record.slot = some n
  · by_cases out : (s.head h).record.service = .out
    · rw [Head.promoted_out slot out]
      simp [slot, out, Head.aligned]
    · rw [Head.promoted_member slot out]
      simp [slot, out]
  · rw [Head.promoted_elsewhere slot]
    simp [slot]

end

theorem promote_tablesOnly (n : SlotId) (s : State) : TablesOnly s (promote n s) := by
  unfold promote; split <;> rfl

theorem promoteIfDone_stays {n : SlotId} {s : State} (stays : (s.slot n).pending = none ∨ (s.slot n).unadopted ≠ 0) :
    promoteIfDone n s = s := by
  refine if_neg fun ⟨present, zero⟩ => ?_
  obtain absent | nonzero := stays
  · rw [absent] at present; cases present
  · exact nonzero zero

theorem promoteIfDone_promotes {n : SlotId} {rev : Revision} {s : State} (pending : (s.slot n).pending = some rev)
    (zero : (s.slot n).unadopted = 0) : promoteIfDone n s = promote n s := if_pos ⟨by rw [pending]; rfl, zero⟩

theorem promoteIfDone_tablesOnly (n : SlotId) (s : State) : TablesOnly s (promoteIfDone n s) := by
  unfold promoteIfDone; split
  · exact promote_tablesOnly n s
  · rfl

theorem slot_promoteIfDone_ne {n m : SlotId} (ne : m ≠ n) (s : State) : (promoteIfDone n s).slot m = s.slot m := by
  unfold promoteIfDone; split
  next done =>
    obtain ⟨rev, pending⟩ := Option.isSome_iff_exists.mp done.1
    rw [slot_promote pending, if_neg ne]
  next => rfl

/-! ## A member leaves its slot (steps 1 to 3 of R28) -/

theorem leaveCounts_eq (n : SlotId) (had : Bool) (s : State) :
    leaveCounts n had s = promoteIfDone n (modSlot n (fun sl => sl.left had) s) := rfl

theorem leaveCounts_stays {n : SlotId} {had : Bool} {s : State}
    (stays : (s.slot n).pending = none ∨ ((s.slot n).left had).unadopted ≠ 0) :
    leaveCounts n had s = modSlot n (fun sl => sl.left had) s := by
  rw [leaveCounts_eq, promoteIfDone_stays]
  rwa [slot_modSlot_self]

theorem leaveCounts_promotes {n : SlotId} {had : Bool} {rev : Revision} {s : State} (pending : (s.slot n).pending = some rev)
    (zero : ((s.slot n).left had).unadopted = 0) :
    leaveCounts n had s = promote n (modSlot n (fun sl => sl.left had) s) := by
  rw [leaveCounts_eq, promoteIfDone_promotes (rev := rev)] <;> rwa [slot_modSlot_self]

theorem slot_leaveCounts_ne {n m : SlotId} (ne : m ≠ n) (had : Bool) (s : State) : (leaveCounts n had s).slot m = s.slot m := by
  rw [leaveCounts_eq, slot_promoteIfDone_ne ne, slot_modSlot_ne ne]

theorem leaveCounts_tablesOnly (n : SlotId) (had : Bool) (s : State) : TablesOnly s (leaveCounts n had s) :=
  (modSlot_tablesOnly n _ s).trans (promoteIfDone_tablesOnly n _)

/-- What a departure does to slot `n` and to a head: with a promotion or without (R28, R34). -/
theorem leaveCounts_cases (n : SlotId) (had : Bool) (s : State) :
    (((s.slot n).pending = none ∨ ((s.slot n).left had).unadopted ≠ 0) ∧ (leaveCounts n had s).slot n = (s.slot n).left had ∧
      ∀ j, (leaveCounts n had s).head j = s.head j) ∨
    ∃ rev, (s.slot n).pending = some rev ∧ ((s.slot n).left had).unadopted = 0 ∧
      (leaveCounts n had s).slot n = ((s.slot n).left had).promoted rev ∧
      ∀ j, (leaveCounts n had s).head j = (s.head j).promoted n rev := by
  by_cases stays : (s.slot n).pending = none ∨ ((s.slot n).left had).unadopted ≠ 0
  · refine .inl ⟨stays, ?_, fun j => ?_⟩ <;> rw [leaveCounts_stays stays]
    · exact slot_modSlot_self n _ s
    · rfl
  · obtain ⟨some, zero⟩ := not_or.mp stays
    obtain ⟨rev, pending⟩ := Option.ne_none_iff_exists'.mp some
    have zero := not_not.mp zero
    have pending' : ((modSlot n (fun sl => sl.left had) s).slot n).pending = .some rev := by rwa [slot_modSlot_self]
    refine .inr ⟨rev, pending, zero, ?_, fun j => ?_⟩ <;> rw [leaveCounts_promotes pending zero]
    · rw [slot_promote pending', if_pos rfl, slot_modSlot_self]
    · exact head_promote pending' j

/-! ## A member becomes OUT (R28), an OUT head JOINING (R27) -/

/-- The head recorded as OUT, its slot not yet told (R28). -/
def markOut (h : HeadId) (s : State) : State := modRecord h (fun r => { r with service := .out }) s

theorem head_markOut (h : HeadId) (s : State) :
    (markOut h s).head h = { s.head h with record := { (s.head h).record with service := .out } } := head_modRecord h _ s
theorem head_markOut_ne {h j : HeadId} (ne : j ≠ h) (s : State) : (markOut h s).head j = s.head j := head_modRecord_ne ne _ s
@[simp] theorem slot_markOut (n : SlotId) (h : HeadId) (s : State) : (markOut h s).slot n = s.slot n := rfl

theorem becomeOut_eq {h : HeadId} {n : SlotId} {s : State} (slot : (s.head h).record.slot = some n) :
    becomeOut h s = alignHead h (leaveCounts n (s.head h).record.usesPending (markOut h s)) := by
  simp only [becomeOut, slot, markOut]

theorem becomeOut_noSlot {h : HeadId} {s : State} (slot : (s.head h).record.slot = none) : becomeOut h s = markOut h s := by
  simp only [becomeOut, slot, markOut]

theorem becomeOut_tablesOnly (h : HeadId) (s : State) : TablesOnly s (becomeOut h s) := by
  cases slot : (s.head h).record.slot with
  | none => rw [becomeOut_noSlot slot]; exact modRecord_tablesOnly h _ s
  | some n => rw [becomeOut_eq slot]; exact ((modRecord_tablesOnly h _ s).trans (leaveCounts_tablesOnly n _ _)).trans (alignHead_tablesOnly h _)

section
variable {h : HeadId} {n : SlotId} {s : State} (slot : (s.head h).record.slot = some n)
include slot

theorem slot_becomeOut (m : SlotId) :
    (becomeOut h s).slot m = (leaveCounts n (s.head h).record.usesPending (markOut h s)).slot m := by
  rw [becomeOut_eq slot, State.slot, alignHead_slots]; rfl

theorem slot_becomeOut_ne {m : SlotId} (ne : m ≠ n) : (becomeOut h s).slot m = s.slot m := by
  rw [slot_becomeOut slot, slot_leaveCounts_ne ne, slot_markOut]

/-- The slot and the other heads after a head has become OUT, without a promotion (R28). -/
theorem becomeOut_stays (stays : (s.slot n).pending = none ∨ ((s.slot n).left (s.head h).record.usesPending).unadopted ≠ 0) :
    (becomeOut h s).slot n = (s.slot n).left (s.head h).record.usesPending ∧ ∀ j, j ≠ h → (becomeOut h s).head j = s.head j := by
  have same := leaveCounts_stays (s := markOut h s) stays
  refine ⟨?_, fun j ne => ?_⟩
  · rw [slot_becomeOut slot, same, slot_modSlot_self, slot_markOut]
  · rw [becomeOut_eq slot, head_alignHead_ne ne, same, head_modSlot, head_markOut_ne ne]

/-- The slot and the other heads after a head has become OUT, with a promotion (R28, R34). -/
theorem becomeOut_promotes {rev : Revision} (pending : (s.slot n).pending = some rev)
    (zero : ((s.slot n).left (s.head h).record.usesPending).unadopted = 0) :
    (becomeOut h s).slot n = ((s.slot n).left (s.head h).record.usesPending).promoted rev ∧
      ∀ j, j ≠ h → (becomeOut h s).head j = (s.head j).promoted n rev := by
  have done := leaveCounts_promotes (s := markOut h s) pending zero
  have pending' : ((modSlot n (fun sl => sl.left (s.head h).record.usesPending) (markOut h s)).slot n).pending = some rev := by
    rw [slot_modSlot_self]; exact pending
  refine ⟨?_, fun j ne => ?_⟩
  · rw [slot_becomeOut slot, done, slot_promote pending', if_pos rfl, slot_modSlot_self, slot_markOut]
  · rw [becomeOut_eq slot, head_alignHead_ne ne, done, head_promote pending', head_modSlot, head_markOut_ne ne]

/-- The head that has become OUT is aligned with its slot's current revision (R24, R28). -/
theorem head_becomeOut_some {rev : Revision} (current : ((becomeOut h s).slot n).current = some rev) :
    (becomeOut h s).head h = { s.head h with record := alignRecord rev { (s.head h).record with service := .out } } := by
  rw [slot_becomeOut slot] at current
  have slot' : ((markOut h s).head h).record.slot = some n := by rw [head_markOut]; exact slot
  rw [becomeOut_eq slot]
  obtain ⟨-, -, heads⟩ | ⟨rev', -, -, promoted, heads⟩ := leaveCounts_cases n (s.head h).record.usesPending (markOut h s)
  · rw [alignHead_some (by rw [heads]; exact slot') current, head_modRecord, heads, head_markOut]
  · rw [promoted] at current
    cases current
    have aligned := heads h
    rw [Head.promoted_out slot' (by rw [head_markOut]), head_markOut] at aligned
    rw [alignHead_some (by rw [aligned]; exact slot) (by rw [promoted]; rfl), head_modRecord, aligned]
    simp only [Head.aligned, alignRecord_alignRecord]

theorem head_becomeOut_none (current : ((becomeOut h s).slot n).current = none) :
    (becomeOut h s).head h = { s.head h with record := { (s.head h).record with service := .out } } := by
  rw [slot_becomeOut slot] at current
  rw [becomeOut_eq slot]
  obtain ⟨-, -, heads⟩ | ⟨rev', -, -, promoted, -⟩ := leaveCounts_cases n (s.head h).record.usesPending (markOut h s)
  · rw [alignHead_none (by rw [heads, head_markOut]; exact slot) current, heads, head_markOut]
  · rw [promoted] at current; cases current

/-- A head that becomes JOINING is counted in (R27). -/
theorem becomeJoining_eq : becomeJoining h s =
    { setHead h { s.head h with record := { (s.head h).record with service := .joining, usesPending := false } } s with
      slots := s.slots.set n.val { s.slot n with
        members := (s.slot n).members + 1
        unadopted := if (s.slot n).pending.isSome then (s.slot n).unadopted + 1 else (s.slot n).unadopted } } := by
  unfold becomeJoining
  simp only
  split
  next e => rw [slot] at e; cases e
  next m e =>
    rw [slot] at e
    cases e
    rfl

end

/-- Settles O24: promotion by `slot_promote` and `head_promote`, the departure by its two cases, the joining by unfolding. -/
theorem membersAndPromotion : Obligations.MembersAndPromotion := by
  refine ⟨fun n rev s pending => ?_, fun h n s slot => ?_⟩
  · refine ⟨?_, fun m ne => ?_, head_promote pending, promote_tablesOnly n s⟩
    · exact (slot_promote pending n).trans (if_pos rfl)
    · exact (slot_promote pending m).trans (if_neg ne)
  · refine ⟨fun stays => becomeOut_stays slot stays, fun rev pending zero => ?_, fun m ne => slot_becomeOut_ne slot ne,
      fun rev current => head_becomeOut_some slot current, fun current => head_becomeOut_none slot current,
      becomeOut_tablesOnly h s, becomeJoining_eq slot⟩
    obtain ⟨slots, heads⟩ := becomeOut_promotes slot pending zero
    exact ⟨slots, fun j ne => (heads j ne).trans (head_promote pending j).symm⟩

end Sys2Proof.Machine
end

section
/-! SUPPORT. Commit-angle processing, step by step (R48 to R54). -/

namespace Sys2Proof.Machine

/-! ## Which revision a head uses (R21) -/

/-- The revision used depends on the head's slot, service state and adoption and on the slots alone. -/
theorem usedRevision_congr {h : HeadId} {s t : State} (slot : (t.head h).record.slot = (s.head h).record.slot)
    (service : (t.head h).record.service = (s.head h).record.service)
    (uses : (t.head h).record.usesPending = (s.head h).record.usesPending) (slots : t.slots = s.slots) :
    t.usedRevision h = s.usedRevision h := by
  simp only [State.usedRevision, State.slot, slot, service, uses, slots]

theorem usedRevision_noSlot {h : HeadId} {s : State} (slot : (s.head h).record.slot = none) : s.usedRevision h = none := by
  simp only [State.usedRevision, slot]

section
variable {h : HeadId} {n : SlotId} {s : State} (slot : (s.head h).record.slot = some n)
include slot

theorem usedRevision_current (plain : (s.head h).record.service = .out ∨ (s.head h).record.usesPending = false) :
    s.usedRevision h = (s.slot n).current := by
  simp only [State.usedRevision, slot]
  refine if_neg fun ⟨member, uses⟩ => ?_
  obtain out | unused := plain
  · exact member out
  · rw [unused] at uses; cases uses

theorem usedRevision_pending (member : (s.head h).record.service ≠ .out) (uses : (s.head h).record.usesPending = true) :
    s.usedRevision h = (s.slot n).pending := by
  simp only [State.usedRevision, slot]
  exact if_pos ⟨member, uses⟩

end

/-! ## Steps 1 to 4 (R49 to R52) -/

theorem commitPresence_eq (h : HeadId) (s : State) : commitPresence h s = if (s.head h).presence then s else
    setHead h { s.head h with record := { (s.head h).record with presenceReleased := true } } s := rfl

theorem commitStray_below {h : HeadId} {s : State} (few : (s.head h).record.stray ≤ 7) :
    commitStray h s = setHead h { s.head h with record := { (s.head h).record with stray := 0 } } s := by
  have : ¬Config.strayLimit ≤ (s.head h).record.stray := Nat.not_le.mpr (Nat.lt_succ_of_le few)
  simp only [commitStray, this, if_false]; rfl

theorem commitStray_limit {h : HeadId} {s : State} (many : 8 ≤ (s.head h).record.stray) :
    commitStray h s = modRecord h (fun r => { r with stray := 0 }) (raiseEquipment .strayFlow h s) := by
  have : Config.strayLimit ≤ (s.head h).record.stray := many
  simp only [commitStray, this, if_true]

theorem raiseEquipment_eq (d : EquipmentDetail) (h : HeadId) (s : State) : raiseEquipment d h s =
    takeOut h (judgeLine (setHead h { s.head h with causes := { (s.head h).causes with equipment := some d } } s)) := rfl

/-- A new K restarts the trim and clears TRIM_LIMIT (R51). -/
theorem takeK_eq (k : Nat) (h : HeadId) (s : State) : takeK k h s = judgeLine (setHead h { s.head h with
    record := { (s.head h).record with k := k, stagedK := none, t := 0, pendingT := none, drift := 0 }
    causes := { (s.head h).causes with trimLimit := false } } s) :=
  congrArg judgeLine (modHead_setHead h (fun x => { x with causes := { x.causes with trimLimit := false } }) _ s)

theorem commitK_none {h : HeadId} {s : State} (staged : (s.head h).record.stagedK = none) : commitK h s = s := by
  simp only [commitK, staged]
theorem commitK_some {h : HeadId} {s : State} {k : Nat} (staged : (s.head h).record.stagedK = some k) : commitK h s = takeK k h s := by
  simp only [commitK, staged]

/-- A record with learning returned to its starting point (R52). -/
theorem resetLearning_eq (rev : Option Revision) (r : HeadRecord) : resetLearning rev r =
    { r with a := (rev.map (·.recipe.aInit)).getD 0, t := 0, pendingA := none, pendingT := none, drift := 0 } := by
  cases rev <;> rfl

/-- A record after step 4: a staged learning reset, or the pending values, have taken effect (R52). -/
def HeadRecord.committed (rev : Option Revision) (r : HeadRecord) : HeadRecord :=
  if r.resetStaged then { resetLearning rev r with resetStaged := false }
  else { r with a := r.pendingA.getD r.a, t := r.pendingT.getD r.t, pendingA := none, pendingT := none }

theorem commitPending_eq (h : HeadId) (s : State) :
    commitPending h s = modRecord h (HeadRecord.committed (s.usedRevision h)) s := rfl

theorem committed_plain {rev : Option Revision} {r : HeadRecord} (plain : r.resetStaged = false) : r.committed rev =
    { r with a := r.pendingA.getD r.a, t := r.pendingT.getD r.t, pendingA := none, pendingT := none } := by
  rw [HeadRecord.committed, plain, if_neg Bool.false_ne_true]

theorem committed_reset {rev : Option Revision} {r : HeadRecord} (staged : r.resetStaged = true) :
    r.committed rev = { resetLearning rev r with resetStaged := false } := by
  rw [HeadRecord.committed, if_pos staged]

/-! ## Step 5: the counts (R29) -/

/-- A slot that a member joins at commit, as an adopter where a revision is pending (R29). -/
def Slot.joinedAtCommit (sl : Slot) : Slot :=
  { sl with members := sl.members + 1, adopted := if sl.pending.isSome then sl.adopted + 1 else sl.adopted }

/-- The member has left the slot it has, if any (R29). -/
def leaveOld (h : HeadId) (s : State) : State :=
  match (s.head h).record.slot with
  | none => s
  | some old => leaveCounts old (s.head h).record.usesPending s

theorem leaveOld_none {h : HeadId} {s : State} (slot : (s.head h).record.slot = none) : leaveOld h s = s := by
  simp only [leaveOld, slot]
theorem leaveOld_some {h : HeadId} {o : SlotId} {s : State} (slot : (s.head h).record.slot = some o) :
    leaveOld h s = leaveCounts o (s.head h).record.usesPending s := by
  simp only [leaveOld, slot]

theorem leaveOld_tablesOnly (h : HeadId) (s : State) : TablesOnly s (leaveOld h s) := by
  unfold leaveOld; split
  · rfl
  · exact leaveCounts_tablesOnly _ _ s

theorem slot_leaveOld_other {h : HeadId} {m : SlotId} {s : State} (other : (s.head h).record.slot ≠ some m) :
    (leaveOld h s).slot m = s.slot m := by
  cases slot : (s.head h).record.slot with
  | none => rw [leaveOld_none slot]
  | some o => rw [leaveOld_some slot, slot_leaveCounts_ne fun e => other (by rw [slot, e])]

/-- The departing member itself keeps its record but for the note of the revision it uses. -/
theorem head_leaveOld_self {h : HeadId} {s : State} (member : (s.head h).record.service ≠ .out) : ∃ b,
    (leaveOld h s).head h = { s.head h with record := { (s.head h).record with usesPending := b } } := by
  cases slot : (s.head h).record.slot with
  | none => exact ⟨_, by rw [leaveOld_none slot]⟩
  | some o =>
    rw [leaveOld_some slot]
    obtain ⟨-, -, heads⟩ | ⟨rev, -, -, -, heads⟩ := leaveCounts_cases o (s.head h).record.usesPending s
    · exact ⟨_, heads h⟩
    · exact ⟨false, by rw [heads, Head.promoted_member slot member]⟩

theorem moveCounts_stays {h : HeadId} {n : SlotId} {s : State}
    (stays : (s.head h).record.service = .out ∨ (s.head h).record.slot = some n) : moveCounts h n s = s := if_pos stays

theorem moveCounts_moves {h : HeadId} {n : SlotId} {s : State} (member : (s.head h).record.service ≠ .out)
    (other : (s.head h).record.slot ≠ some n) :
    moveCounts h n s = modRecord h (fun r => { r with usesPending := (s.slot n).pending.isSome })
      (modSlot n Slot.joinedAtCommit (leaveOld h s)) := by
  rw [← slot_leaveOld_other other]
  exact if_neg (not_or.mpr ⟨member, other⟩)

theorem moveCounts_tablesOnly (h : HeadId) (n : SlotId) (s : State) : TablesOnly s (moveCounts h n s) := by
  by_cases stays : (s.head h).record.service = .out ∨ (s.head h).record.slot = some n
  · rw [moveCounts_stays stays]; rfl
  · obtain ⟨member, other⟩ := not_or.mp stays
    rw [moveCounts_moves member other]
    exact (leaveOld_tablesOnly h s).trans ((modSlot_tablesOnly n _ _).trans (modRecord_tablesOnly h _ _))

theorem head_moveCounts_self (h : HeadId) (n : SlotId) (s : State) : ∃ b,
    (moveCounts h n s).head h = { s.head h with record := { (s.head h).record with usesPending := b } } := by
  by_cases stays : (s.head h).record.service = .out ∨ (s.head h).record.slot = some n
  · exact ⟨_, by rw [moveCounts_stays stays]⟩
  · obtain ⟨member, other⟩ := not_or.mp stays
    obtain ⟨b, left⟩ := head_leaveOld_self member
    exact ⟨_, by rw [moveCounts_moves member other, head_modRecord, head_modSlot, left]⟩

section
variable {h : HeadId} {n : SlotId} {s : State} (member : (s.head h).record.service ≠ .out) (other : (s.head h).record.slot ≠ some n)
include member other

theorem slot_moveCounts (m : SlotId) :
    (moveCounts h n s).slot m = if m = n then (s.slot n).joinedAtCommit else (leaveOld h s).slot m := by
  rw [moveCounts_moves member other, slot_modRecord, slot_modSlot, slot_leaveOld_other other]

theorem head_moveCounts_ne {j : HeadId} (ne : j ≠ h) : (moveCounts h n s).head j = (leaveOld h s).head j := by
  rw [moveCounts_moves member other, head_modRecord_ne ne, head_modSlot]

theorem usesPending_moveCounts : ((moveCounts h n s).head h).record.usesPending = (s.slot n).pending.isSome := by
  rw [moveCounts_moves member other, head_modRecord]

end

/-! ## Step 5: the head (R53) -/

/-- The head stands on its new slot, its values not yet restarted. -/
def slotTaken (h : HeadId) (n : SlotId) (s : State) : State :=
  modRecord h (fun r => { r with slot := some n, pendingSlot := none }) (moveCounts h n s)

/-- A record whose values start again under a revision (R53). -/
def HeadRecord.restarted (rev : Option Revision) (r : HeadRecord) : HeadRecord :=
  { r with a := (rev.map (·.recipe.aInit)).getD 0, t := 0, drift := 0, resetStaged := false, adoptedRev := rev.map (·.number) }

theorem commitSlot_none {h : HeadId} {s : State} (staged : (s.head h).record.pendingSlot = none) : commitSlot h s = s := by
  simp only [commitSlot, staged]

section
variable {h : HeadId} {n : SlotId} {s : State} (staged : (s.head h).record.pendingSlot = some n)
include staged

theorem commitSlot_some :
    commitSlot h s = modRecord h (HeadRecord.restarted ((slotTaken h n s).usedRevision h)) (slotTaken h n s) := by
  simp only [commitSlot, staged, slotTaken]
  congr 1
  funext r
  simp only [HeadRecord.restarted]
  cases State.usedRevision _ h <;> rfl

theorem commitSlot_slots : (commitSlot h s).slots = (moveCounts h n s).slots := by rw [commitSlot_some staged]; rfl

theorem head_commitSlot_ne {j : HeadId} (ne : j ≠ h) : (commitSlot h s).head j = (moveCounts h n s).head j := by
  rw [commitSlot_some staged, head_modRecord_ne ne, slotTaken, head_modRecord_ne ne]

theorem head_commitSlot : (commitSlot h s).head h = { s.head h with record :=
    { HeadRecord.restarted ((commitSlot h s).usedRevision h) (s.head h).record with
      slot := some n, pendingSlot := none, usesPending := ((moveCounts h n s).head h).record.usesPending } } := by
  have used : (commitSlot h s).usedRevision h = (slotTaken h n s).usedRevision h := by
    rw [commitSlot_some staged]
    apply usedRevision_congr <;> first | rw [head_modRecord]; rfl | rfl
  obtain ⟨b, moved⟩ := head_moveCounts_self h n s
  rw [used, commitSlot_some staged, head_modRecord, slotTaken, head_modRecord, moved]
  rfl

theorem commitSlot_tablesOnly : TablesOnly s (commitSlot h s) := by
  rw [commitSlot_some staged]
  exact (moveCounts_tablesOnly h n s).trans rfl

end

/-! ## Step 6 (R33, R54) -/

/-- A slot that one more member has adopted the pending revision of (R33). -/
def Slot.adoptedByOne (sl : Slot) : Slot := { sl with unadopted := sl.unadopted - 1, adopted := sl.adopted + 1 }

/-- A member's record once it has adopted a pending revision (R33, R54). -/
def HeadRecord.adopting (rev : Revision) (r : HeadRecord) : HeadRecord :=
  { r with usesPending := true, adoptedRev := some rev.number, a := clampLead rev r.a, t := clampTrim rev r.t }

theorem commitAdopt_stays {h : HeadId} {s : State} (stays : (s.head h).record.service = .out ∨ (s.head h).record.usesPending = true ∨
    ∀ n, (s.head h).record.slot = some n → (s.slot n).pending = none) : commitAdopt h s = s := by
  simp only [commitAdopt]
  split
  · rfl
  next n slot =>
    split
    · rfl
    next rev pending =>
      refine if_pos ?_
      obtain out | uses | absent := stays
      · exact .inl out
      · exact .inr uses
      · rw [absent n slot] at pending; cases pending

section
variable {h : HeadId} {n : SlotId} {rev : Revision} {s : State} (slot : (s.head h).record.slot = some n)
  (pending : (s.slot n).pending = some rev) (member : (s.head h).record.service ≠ .out) (uses : (s.head h).record.usesPending = false)

/-- The member has adopted the pending revision, which is not yet promoted (R33). -/
def adopted (h : HeadId) (n : SlotId) (rev : Revision) (s : State) : State :=
  modSlot n Slot.adoptedByOne (modRecord h (HeadRecord.adopting rev) s)

theorem head_adopted : (adopted h n rev s).head h = { s.head h with record := (s.head h).record.adopting rev } := by
  rw [adopted, head_modSlot, head_modRecord]
theorem head_adopted_ne {j : HeadId} (ne : j ≠ h) : (adopted h n rev s).head j = s.head j := by
  rw [adopted, head_modSlot, head_modRecord_ne ne]
theorem slot_adopted (m : SlotId) : (adopted h n rev s).slot m = if m = n then (s.slot n).adoptedByOne else s.slot m := by
  rw [adopted, slot_modSlot, slot_modRecord, slot_modRecord]

include pending

theorem pending_adopted : ((adopted h n rev s).slot n).pending = some rev := by
  rw [slot_adopted, if_pos rfl]; exact pending

include slot member uses

theorem commitAdopt_adopts : commitAdopt h s = promoteIfDone n (adopted h n rev s) := by
  have adopts : ¬((s.head h).record.service = .out ∨ (s.head h).record.usesPending = true) := by
    rintro (out | used)
    · exact member out
    · rw [uses] at used; cases used
  simp only [commitAdopt, slot, pending, adopts, if_false]; rfl

/-- The last but one adopter or an earlier one leaves the revision pending (R33). -/
theorem commitAdopt_open (more : 1 < (s.slot n).unadopted) : commitAdopt h s = adopted h n rev s := by
  rw [commitAdopt_adopts slot pending member uses, promoteIfDone_stays]
  rw [slot_adopted, if_pos rfl, Slot.adoptedByOne]
  exact .inr (show (s.slot n).unadopted - 1 ≠ 0 by omega)

/-- The last adopter promotes the revision (R33, R34). -/
theorem commitAdopt_last (last : (s.slot n).unadopted ≤ 1) : commitAdopt h s = promote n (adopted h n rev s) := by
  rw [commitAdopt_adopts slot pending member uses, promoteIfDone_promotes (rev := rev)] <;> rw [slot_adopted, if_pos rfl, Slot.adoptedByOne]
  · exact pending
  · show (s.slot n).unadopted - 1 = 0
    omega

theorem record_commitAdopt : ((commitAdopt h s).head h).record = { (s.head h).record.adopting rev with
    usesPending := decide ((s.slot n).unadopted ≠ 1 ∧ (s.slot n).unadopted ≠ 0) } := by
  by_cases more : 1 < (s.slot n).unadopted
  · rw [commitAdopt_open slot pending member uses more, head_adopted, decide_eq_true (by omega)]
    rfl
  · have last : (s.slot n).unadopted ≤ 1 := by omega
    have self : (adopted h n rev s).head h = _ := head_adopted
    rw [commitAdopt_last slot pending member uses last, head_promote (pending_adopted pending),
      Head.promoted_member (by rw [self]; exact slot) (by rw [self]; exact member), self, decide_eq_false (by omega)]

theorem slot_commitAdopt_ne {m : SlotId} (ne : m ≠ n) : (commitAdopt h s).slot m = s.slot m := by
  rw [commitAdopt_adopts slot pending member uses, slot_promoteIfDone_ne ne, slot_adopted, if_neg ne]

theorem commitAdopt_tablesOnly : TablesOnly s (commitAdopt h s) := by
  rw [commitAdopt_adopts slot pending member uses]
  exact TablesOnly.trans (t := adopted h n rev s) rfl (promoteIfDone_tablesOnly n _)

end

/-! ## Step 7 (R54) -/

theorem commitService_joining {h : HeadId} {s : State} (e : (s.head h).record.service = .joining) :
    commitService h s = setHead h { s.head h with record := { (s.head h).record with service := .inn } } s := by
  simp only [commitService, e]; rfl
theorem commitService_leaving {h : HeadId} {s : State} (e : (s.head h).record.service = .leaving) :
    commitService h s = becomeOut h s := by simp only [commitService, e]
theorem commitService_stays {h : HeadId} {s : State} (e : (s.head h).record.service = .out ∨ (s.head h).record.service = .inn) :
    commitService h s = s := by
  obtain e | e := e <;> simp only [commitService, e]

/-! ## The statement -/

/-- Step 5 as the statement puts it: the head, and the slot it joins (R29, R53). -/
theorem commitSlot_spec {h : HeadId} {n : SlotId} {s : State} (staged : (s.head h).record.pendingSlot = some n) :
    let r := (s.head h).record
    let u := commitSlot h s
    let r' := (u.head h).record
    r' = { r with
      slot := some n, pendingSlot := none, t := 0, drift := 0, resetStaged := false
      usesPending := r'.usesPending, a := ((u.usedRevision h).map (·.recipe.aInit)).getD 0
      adoptedRev := (u.usedRevision h).map (·.number) } ∧
    (r.service ≠ .out → r.slot ≠ some n → u.slot n = (s.slot n).joinedAtCommit ∧ r'.usesPending = (s.slot n).pending.isSome) ∧
    (r.service = .out ∨ r.slot = some n → u.slots = s.slots ∧ ∀ j, j ≠ h → u.head j = s.head j) ∧
    (r.service ≠ .out → r.slot = none → ∀ j, j ≠ h → u.head j = s.head j) ∧
    (∀ m, m ≠ n → r.slot ≠ some m → u.slot m = s.slot m) := by
  intro r u r'
  have self := head_commitSlot staged
  have slots (m : SlotId) : u.slot m = (moveCounts h n s).slot m := by rw [State.slot, commitSlot_slots staged]; rfl
  have others {j : HeadId} (ne : j ≠ h) : u.head j = (moveCounts h n s).head j := head_commitSlot_ne staged ne
  have uses : r'.usesPending = ((moveCounts h n s).head h).record.usesPending := by simp only [r', u, self]
  refine ⟨?_, fun member other => ⟨?_, ?_⟩, fun stays => ⟨?_, fun j ne => ?_⟩, fun member none j ne => ?_, fun m ne other => ?_⟩
  · rw [uses]; exact congrArg Head.record self
  · rw [slots, slot_moveCounts member other, if_pos rfl]
  · rw [uses, usesPending_moveCounts member other]
  · rw [commitSlot_slots staged, moveCounts_stays stays]
  · rw [others ne, moveCounts_stays stays]
  · rw [others ne, head_moveCounts_ne member (by rw [none]; exact Option.some_ne_none n |>.symm) ne, leaveOld_none none]
  · rw [slots]
    by_cases stays : r.service = .out ∨ r.slot = some n
    · rw [moveCounts_stays stays]
    · obtain ⟨member, other'⟩ := not_or.mp stays
      rw [slot_moveCounts member other', if_neg ne, slot_leaveOld_other other]

/-- Step 5 at the slot a member leaves: its counts, and its promotion (R28, R29, R34). -/
theorem commitSlot_leaves {h : HeadId} {n o : SlotId} {s : State} (staged : (s.head h).record.pendingSlot = some n)
    (member : (s.head h).record.service ≠ .out) (slot : (s.head h).record.slot = some o) (ne : o ≠ n) :
    (commitSlot h s).slot o = (leaveCounts o (s.head h).record.usesPending s).slot o ∧
    ∀ j, j ≠ h → (commitSlot h s).head j = (leaveCounts o (s.head h).record.usesPending s).head j := by
  have other : (s.head h).record.slot ≠ some n := by rw [slot]; exact fun e => ne (Option.some.inj e)
  refine ⟨?_, fun j apart => ?_⟩
  · rw [State.slot, commitSlot_slots staged]
    exact (slot_moveCounts member other o).trans (by rw [if_neg ne, leaveOld_some slot])
  · rw [head_commitSlot_ne staged apart, head_moveCounts_ne member other apart, leaveOld_some slot]

/-- Settles O23: the seven steps by their own lemmas above, those of the slot a member leaves by `leaveCounts_cases`. -/
theorem commitStepsInOrder : Obligations.CommitStepsInOrder := by
  intro h s x r
  refine ⟨rfl, commitPresence_eq h s, commitStray_below, fun many => ?_, commitK_none, fun k staged => ?_, fun plain => ?_, fun staged => ?_,
    commitSlot_none, fun n staged => ?_, fun n rev slot pending member uses => ?_, commitAdopt_stays, commitService_joining,
    commitService_leaving, commitService_stays⟩
  · rw [commitStray_limit many, raiseEquipment_eq]
  · rw [commitK_some staged, takeK_eq]
  · rw [commitPending_eq, modRecord, modHead, committed_plain plain]
  · rw [commitPending_eq, modRecord, modHead, committed_reset staged, resetLearning_eq]
  · obtain ⟨record, joins, stays, fresh, apart⟩ := commitSlot_spec staged
    refine ⟨record, fun member other => ?_, stays, fresh, apart, fun o member slot ne => ?_, commitSlot_tablesOnly staged⟩
    · obtain ⟨joined, uses⟩ := joins member other
      rw [joined]
      refine ⟨rfl, rfl, ?_, uses⟩
      simp only [Slot.joinedAtCommit]
      split <;> rfl
    · obtain ⟨slots, heads⟩ := commitSlot_leaves staged member slot ne
      obtain ⟨stays, left, same⟩ | ⟨rev, pending, zero, left, promoted⟩ := leaveCounts_cases o r.usesPending s
      · refine ⟨fun _ => ⟨slots.trans left, fun j apart => (heads j apart).trans (same j)⟩, fun rev pending zero => ?_⟩
        exact absurd stays (by rw [pending]; simp [zero])
      · refine ⟨fun stays => absurd stays (by rw [pending]; simp [zero]), fun rev' pending' _ => ?_⟩
        obtain rfl : rev = rev' := Option.some.inj (pending.symm.trans pending')
        exact ⟨slots.trans left, fun j apart => (heads j apart).trans ((promoted j).trans (head_promote pending j).symm)⟩
  · have pending' := pending_adopted (h := h) pending
    refine ⟨record_commitAdopt slot pending member uses, fun more => ⟨?_, fun j ne => ?_⟩, fun last => ⟨?_, fun j ne => ?_⟩,
      fun m ne => slot_commitAdopt_ne slot pending member uses ne, commitAdopt_tablesOnly slot pending member uses⟩
    · rw [commitAdopt_open slot pending member uses more, slot_adopted, if_pos rfl]; rfl
    · rw [commitAdopt_open slot pending member uses more, head_adopted_ne ne]
    · rw [commitAdopt_last slot pending member uses (le_of_eq last), slot_promote pending', if_pos rfl, slot_adopted, if_pos rfl]; rfl
    · rw [commitAdopt_last slot pending member uses (le_of_eq last), head_promote pending', head_adopted_ne ne, head_promote pending]

end Sys2Proof.Machine
end

section
/-! SUPPORT. Operations that leave the books alone: head records, recipe slots, learning hold and line setup stand, and no fill is opened or
counted up. -/

namespace Sys2Proof.Machine

/-! ## What is left alone -/

/-- A ticket held after was held before with the same glitch count, and a filling phase after was one before. -/
def FillKept (x y : Head) : Prop := ∀ tk', y.ticket = some tk' → ∃ tk, x.ticket = some tk ∧ tk'.glitches = tk.glitches ∧
  (y.seq.phase.filling = true → x.seq.phase.filling = true)

theorem FillKept.refl (x : Head) : FillKept x x := fun tk e => ⟨tk, e, rfl, id⟩

theorem FillKept.trans {x y z : Head} (a : FillKept x y) (b : FillKept y z) : FillKept x z := by
  intro tk'' e
  obtain ⟨tk', e', same', phase'⟩ := b tk'' e
  obtain ⟨tk, e, same, phase⟩ := a tk' e'
  exact ⟨tk, e, same'.trans same, fun f => phase (phase' f)⟩

theorem FillKept.of_works {x y : Head} (e : y.works = x.works) : FillKept x y :=
  fun tk held => ⟨tk, (works_ticket e) ▸ held, rfl, fun f => (works_seq e) ▸ f⟩

theorem FillKept.of_noTicket {x y : Head} (e : y.ticket = none) : FillKept x y := fun tk held => by rw [e] at held; cases held

/-- The books stand, and no head's fill is opened or counted up. -/
structure Quiet (s t : State) : Prop where
  record : ∀ j, (t.head j).record = (s.head j).record
  slots : t.slots = s.slots
  hold : t.learningHold = s.learningHold
  line : t.tracker.line = s.tracker.line
  fill : ∀ j, FillKept (s.head j) (t.head j)

theorem Quiet.refl (s : State) : Quiet s s := ⟨fun _ => rfl, rfl, rfl, rfl, fun j => .refl (s.head j)⟩

theorem Quiet.trans {s t u : State} (a : Quiet s t) (b : Quiet t u) : Quiet s u where
  record j := (b.record j).trans (a.record j)
  slots := b.slots.trans a.slots
  hold := b.hold.trans a.hold
  line := b.line.trans a.line
  fill j := (a.fill j).trans (b.fill j)

/-- Nothing but what stands outside heads, slots, hold and line setup has changed. -/
theorem Quiet.of_same {s t : State} (heads : t.heads = s.heads) (slots : t.slots = s.slots) (hold : t.learningHold = s.learningHold)
    (line : t.tracker.line = s.tracker.line) : Quiet s t := by
  have head (j : HeadId) : t.head j = s.head j := by rw [State.head, State.head, heads]
  exact ⟨fun j => by rw [head], slots, hold, line, fun j => head j ▸ .refl (s.head j)⟩

theorem modHead_quiet {h : HeadId} {f : Head → Head} {s : State} (record : (f (s.head h)).record = (s.head h).record)
    (fill : FillKept (s.head h) (f (s.head h))) : Quiet s (modHead h f s) := by
  refine ⟨fun j => ?_, rfl, rfl, rfl, fun j => ?_⟩ <;> by_cases e : j = h
  · subst e; rw [head_modHead_self, record]
  · rw [head_modHead_ne e]
  · subst e; rw [head_modHead_self]; exact fill
  · rw [head_modHead_ne e]; exact .refl _

/-- Work on one head's fill alone is quiet where it opens none and counts none up. -/
theorem FillOnly.quiet {h : HeadId} {s u : State} (f : FillOnly h s u) (fill : FillKept (s.head h) (u.head h)) : Quiet s u where
  record j := if e : j = h then by rw [e, f.record] else f.members.1 j e
  slots := f.members.2
  hold := outer_hold f.others.outer
  line := congrArg Tracker.line (outer_tracker f.others.outer)
  fill j := if e : j = h then by rw [e]; exact fill else .of_works (works_of_elsewhere f.others.2.2.2 e)

/-! ## Ops -/

theorem modSeq_quiet {h : HeadId} {f : Sequencer → Sequencer} {s : State}
    (phase : (f (s.head h).seq).phase.filling = true → (s.phase h).filling = true) : Quiet s (modSeq h f s) :=
  modHead_quiet rfl fun tk e => ⟨tk, e, rfl, phase⟩

theorem modTicket_quiet {f : Ticket → Ticket} (h : HeadId) (s : State)
    (glitches : ∀ tk, (f tk).glitches = tk.glitches := by intro; rfl) : Quiet s (modTicket h f s) := by
  refine modHead_quiet rfl fun tk' e => ?_
  obtain ⟨tk, held, rfl⟩ := Option.map_eq_some_iff.mp e
  exact ⟨tk, held, glitches tk, id⟩

theorem modCauses_quiet (h : HeadId) (f : Causes → Causes) (s : State) : Quiet s (modCauses h f s) :=
  modHead_quiet rfl (.of_works rfl)
theorem modPilots_quiet (h : HeadId) (f : Pilots → Pilots) (s : State) : Quiet s (modPilots h f s) :=
  modHead_quiet rfl fun tk e => ⟨tk, e, rfl, id⟩

theorem judgeLine_quiet (s : State) : Quiet s (judgeLine s) := .of_same rfl rfl rfl rfl
theorem advance_quiet (s : State) (t : Time) : Quiet s (s.advance t) := .of_same rfl rfl rfl rfl
theorem putTransit_quiet (l : List Ticket) (s : State) : Quiet s (putTransit l s) := .of_same rfl rfl rfl rfl
theorem putLines_quiet (l : DischargeLines) (s : State) : Quiet s (putLines l s) := .of_same rfl rfl rfl rfl
theorem putQueue_quiet (q : List Entry) (s : State) : Quiet s (putQueue q s) := .of_same rfl rfl rfl rfl
theorem putBoosts_quiet (b : Vector (Option Grant) 6) (s : State) : Quiet s (putBoosts b s) := .of_same rfl rfl rfl rfl
theorem withdraw_quiet (h : HeadId) (s : State) : Quiet s (withdraw h s) := putQueue_quiet _ s
theorem queueOpen_quiet (k : OpenKind) (h : HeadId) (s : State) : Quiet s (queueOpen k h s) := putQueue_quiet _ s

theorem changeCauses_quiet (h : HeadId) (f : Causes → Causes) (s : State) : Quiet s (changeCauses h f s) :=
  (modCauses_quiet h f s).trans (judgeLine_quiet _)
theorem changeGlobals_quiet (f : Globals → Globals) (s : State) : Quiet s (changeGlobals f s) := .of_same rfl rfl rfl rfl

theorem startTimer_quiet (n : TimerName) (h : HeadId) (s : State) : Quiet s (startTimer n h s) := by
  unfold startTimer; split
  · exact .refl s
  · exact modSeq_quiet id
theorem stopTimer_quiet (n : TimerName) (h : HeadId) (s : State) : Quiet s (stopTimer n h s) := modSeq_quiet id
theorem stopTimers_quiet (h : HeadId) (s : State) : Quiet s (stopTimers h s) := modSeq_quiet id

theorem enterPhase_quiet {p : Phase} {h : HeadId} {s : State} (phase : p.filling = true → (s.phase h).filling = true) :
    Quiet s (enterPhase p h s) := modSeq_quiet phase

theorem release_quiet (p : Pilot) (h : HeadId) (s : State) : Quiet s (release p h s) :=
  (release_fillOnly p h s).quiet (by rw [head_release]; exact fun tk e => ⟨tk, e, rfl, id⟩)
theorem releaseFill_quiet (h : HeadId) (s : State) : Quiet s (releaseFill h s) := (release_quiet .fast h s).trans (release_quiet .slow h _)

/-- A release leaves every head's phase. -/
theorem phase_release (p : Pilot) (h j : HeadId) (s : State) : (release p h s).phase j = s.phase j := by
  by_cases e : j = h
  · rw [e, State.phase, head_release]; rfl
  · rw [State.phase, head_release_ne e]; rfl

theorem phase_modTicket (f : Ticket → Ticket) (h : HeadId) (s : State) : (modTicket h f s).phase h = s.phase h := by
  rw [State.phase, modTicket, head_modHead_self]; rfl

/-! ## Fill sequence -/

theorem doseJudged_quiet (h : HeadId) (s : State) : Quiet s (doseJudged h s) := by
  refine (doseJudged_fillOnly h s).quiet fun tk' e => ?_
  rw [head_doseJudged] at e ⊢
  obtain ⟨tk, held, rfl⟩ := Option.map_eq_some_iff.mp e
  exact ⟨tk, held, rfl, nofun⟩

theorem forcePrepared_quiet (r : Reason) (h : HeadId) (s : State) : Quiet s (forcePrepared r h s) := by
  refine (forcePrepared_fillOnly r h s).quiet fun tk' e => ?_
  rw [head_forcePrepared] at e ⊢
  obtain ⟨tk, held, rfl⟩ := Option.map_eq_some_iff.mp e
  exact ⟨tk, held, rfl, id⟩

theorem closeIfMetered_quiet (h : HeadId) (s : State) : Quiet s (closeIfMetered h s) := by
  unfold closeIfMetered; split
  · exact modTicket_quiet h s
  · exact .refl s

theorem enterSettle_quiet (w : Settle) {h : HeadId} {s : State} (filling : (s.phase h).filling = true) : Quiet s (enterSettle w h s) :=
  ((enterPhase_quiet fun _ => filling).trans (modSeq_quiet id)).trans ((startTimer_quiet _ h _).trans (startTimer_quiet _ h _))

theorem startTimer_phase (n : TimerName) (h : HeadId) (s : State) : (startTimer n h s).phase h = s.phase h := by
  unfold startTimer; split
  · rfl
  · rw [State.phase, modSeq, head_modHead_self]; rfl
theorem stopTimer_phase (n : TimerName) (h : HeadId) (s : State) : (stopTimer n h s).phase h = s.phase h := by
  rw [State.phase, stopTimer, modSeq, head_modHead_self]; rfl

theorem closeIfMetered_phase (h : HeadId) (s : State) : (closeIfMetered h s).phase h = s.phase h := by
  rw [State.phase, head_closeIfMetered]; rfl

theorem releaseFill_phase (h : HeadId) (s : State) : (releaseFill h s).phase h = s.phase h := by
  rw [releaseFill, phase_release, phase_release]

theorem forceToSettle_quiet (r : Reason) (h : HeadId) (s : State) : Quiet s (forceToSettle r h s) := by
  have settled (w : Settle) (filling : (s.phase h).filling = true) : Quiet s (enterSettle w h (closeIfMetered h
      (stopTimer .stall h (stopTimer .startFlow h (releaseFill h (modTicket h (Ticket.addReason r) s)))))) := by
    refine (((modTicket_quiet h s).trans (releaseFill_quiet h _)).trans
      ((stopTimer_quiet _ h _).trans ((stopTimer_quiet _ h _).trans (closeIfMetered_quiet h _)))).trans (enterSettle_quiet w ?_)
    rw [closeIfMetered_phase, stopTimer_phase, stopTimer_phase, releaseFill_phase, phase_modTicket]
    exact filling
  unfold forceToSettle
  split
  next phase => exact settled _ (by rw [phase]; rfl)
  next phase => exact settled _ (by rw [phase]; rfl)
  next phase => exact settled _ (by rw [phase]; rfl)
  all_goals exact .refl s

theorem pulseTimers_quiet (h : HeadId) (s : State) : Quiet s (pulseTimers h s) := by
  have restarted : Quiet s (startTimer .stall h (stopTimer .startFlow h s)) := (stopTimer_quiet _ h s).trans (startTimer_quiet _ h _)
  unfold pulseTimers
  split
  · exact restarted
  · exact restarted
  · split
    · exact restarted
    · exact .refl s
  · exact startTimer_quiet _ h s
  all_goals exact .refl s

theorem closeCrossing_quiet {h : HeadId} {s : State} (filling : (s.phase h).filling = true) : Quiet s (closeCrossing h s) :=
  ((modTicket_quiet h s).trans (releaseFill_quiet h _)).trans
    (enterSettle_quiet _ (by rw [releaseFill_phase, phase_modTicket]; exact filling))

theorem takeDoseCrossing_quiet (c : DoseCrossing) {h : HeadId} {s : State} (filling : (s.phase h).filling = true) :
    Quiet s (takeDoseCrossing c h s) := by
  cases c with
  | none => exact .refl s
  | switch => exact (release_quiet .fast h s).trans (enterPhase_quiet fun _ => by rw [phase_release]; exact filling)
  | close => exact closeCrossing_quiet filling
  | topUpClose => exact (release_quiet .slow h s).trans (enterSettle_quiet _ (by rw [phase_release]; exact filling))

theorem countPulse_quiet {tk : Ticket} {h : HeadId} {s : State} (held : (s.head h).ticket = some tk) : Quiet s (countPulse tk h s) := by
  refine (modHead_quiet rfl fun tk' e => ?_).trans (pulseTimers_quiet h _)
  cases e
  exact ⟨tk, held, rfl, id⟩

theorem pulseTimers_phase (h : HeadId) (s : State) : (pulseTimers h s).phase h = s.phase h := by
  unfold pulseTimers
  split
  · rw [startTimer_phase, stopTimer_phase]
  · rw [startTimer_phase, stopTimer_phase]
  · split
    · rw [startTimer_phase, stopTimer_phase]
    · rfl
  · rw [startTimer_phase]
  all_goals rfl

theorem countPulse_phase (tk : Ticket) (h : HeadId) (s : State) : (countPulse tk h s).phase h = s.phase h := by
  rw [countPulse, pulseTimers_phase, State.phase, head_modHead_self]; rfl

theorem enterTopUp_quiet {h : HeadId} {s : State} (filling : (s.phase h).filling = true) : Quiet s (enterTopUp h s) :=
  ((modTicket_quiet h s).trans (queueOpen_quiet .topUp h _)).trans
    (enterPhase_quiet fun _ => by
      have : (queueOpen .topUp h (modTicket h (fun tk => { tk with toppedUp := true }) s)).phase h = s.phase h := phase_modTicket _ h s
      rw [this]; exact filling)

theorem sniftDone_quiet (h : HeadId) (s : State) : Quiet s (sniftDone h s) := by
  unfold sniftDone; split
  · exact ((release_quiet .snift h s).trans (modTicket_quiet h _)).trans (enterPhase_quiet nofun)
  · exact .refl s

theorem equalize_quiet (h : HeadId) (s : State) : Quiet s (equalize h s) := by
  have equalized : Quiet s (stopTimer .equalize h (modSeq h (fun q => { q with equalized := true }) s)) :=
    (modSeq_quiet id).trans (stopTimer_quiet _ h _)
  unfold equalize; simp only; split
  · exact equalized.trans (queueOpen_quiet .fill h _)
  · exact equalized

theorem gasCrossing_quiet (h : HeadId) (s : State) : Quiet s (gasCrossing h s) := by
  unfold gasCrossing; split
  next seated =>
    refine (queueOpen_quiet .gas h s).trans (enterPhase_quiet fun _ => ?_)
    have : (queueOpen .gas h s).phase h = s.phase h := rfl
    rw [this, seated]; rfl
  next => exact .refl s

theorem fillCrossing_quiet (h : HeadId) (s : State) : Quiet s (fillCrossing h s) := by
  have reached : Quiet s (modSeq h (fun q => { q with fillReached := true }) s) := modSeq_quiet id
  unfold fillCrossing
  split
  · simp only
    split
    · exact reached.trans (queueOpen_quiet .fill h _)
    · exact reached
  · exact reached
  all_goals exact .refl s

/-! ## Discharge -/

theorem displaceIfFull_quiet (s : State) : Quiet s (displaceIfFull s) := by
  unfold displaceIfFull; split
  · exact .refl s
  · exact (putTransit_quiet _ s).trans (changeGlobals_quiet _ _)

theorem moveToTransit_quiet (tk : Ticket) (h : HeadId) (s : State) : Quiet s (moveToTransit tk h s) :=
  ((displaceIfFull_quiet s).trans (putTransit_quiet _ _)).trans
    ((modHead_quiet rfl (.of_noTicket rfl)).trans (enterPhase_quiet nofun))

theorem handOver_quiet (h : HeadId) (s : State) : Quiet s (handOver h s) := by
  unfold handOver; split
  · exact enterPhase_quiet nofun
  · exact (moveToTransit_quiet _ h s).trans (putLines_quiet _ _)

/-! ## Arbiter -/

theorem energise_quiet (ps : List Pilot) (h : HeadId) (s : State) : Quiet s (energise ps h s) := modPilots_quiet h _ s

theorem completeBoost_quiet (i : BoostId) (g : Grant) (s : State) : Quiet s (completeBoost i g s) :=
  (putBoosts_quiet _ s).trans (modPilots_quiet g.head _ _)

theorem resetArbiter_quiet (s : State) : Quiet s (resetArbiter s) := by
  have head (j : HeadId) : (resetArbiter s).head j = { s.head j with pilots := resetPilots s.now (s.head j).pilots } := by
    rw [resetArbiter, head_mapHeads]; rfl
  exact ⟨fun j => by rw [head], rfl, rfl, rfl, fun j => by rw [head]; exact fun tk e => ⟨tk, e, rfl, id⟩⟩

theorem requeueSnift_quiet (h : HeadId) (s : State) : Quiet s (requeueSnift h s) := by
  unfold requeueSnift; split
  · exact queueOpen_quiet .snift h s
  · exact .refl s

end Sys2Proof.Machine
end

section
/-! SUPPORT. The books (head records, recipe slots, learning hold, installed heads): the few changes that can be made to them, each under what it
presupposes, and that every command is made of these. What an invariant of the books has to survive is stated here once. -/

namespace Sys2Proof.Machine

/-! ## What the invariants say of one head -/

/-- The items of a record that have a fixed range lie in it (R38, R50, R55). -/
def HeadRecord.InRange (r : HeadRecord) : Prop :=
  kInRange r.k = true ∧ (∀ k, r.stagedK = some k → kInRange k = true) ∧ -7 ≤ r.drift ∧ r.drift ≤ 7 ∧ r.faultCount < Config.faultLimit ∧
  r.stray ≤ Config.strayMax

/-- A, T and their pending values fit the revision the head uses (R38). -/
def HeadRecord.Fits (r : HeadRecord) (used : Option Revision) : Prop :=
  (used = none → r.a = 0 ∧ r.t = 0 ∧ r.pendingA = none ∧ r.pendingT = none) ∧
  ∀ rev, used = some rev →
    let lead (a : Nat) : Prop := a ≤ rev.recipe.aMax
    let trim (t : Int) : Prop := -(rev.recipe.tMax : Int) ≤ t ∧ t ≤ rev.recipe.tMax
    lead r.a ∧ (∀ a, r.pendingA = some a → lead a) ∧ trim r.t ∧ ∀ t, r.pendingT = some t → trim t

/-- Nothing is pending (R148). -/
def HeadRecord.NothingPending (r : HeadRecord) : Prop := r.pendingA = none ∧ r.pendingT = none

/-- A_init lies within A_max (R23). -/
def Revision.InitWithin (rev : Revision) : Prop := rev.recipe.aInit ≤ rev.recipe.aMax

/-! ## Changes of one head's record -/

/-- A change of a head's own record: it brings no member in or out, keeps ranges and values, and respects the learning hold. -/
structure OwnChange (s : State) (h : HeadId) (r : HeadRecord) : Prop where
  out : r.service = .out ↔ (s.head h).record.service = .out
  slot : r.slot = (s.head h).record.slot
  uses : r.usesPending = (s.head h).record.usesPending
  pendingSlot : ∀ n, r.pendingSlot = some n → (s.head h).record.pendingSlot = some n ∨
    s.isInstalled h = true ∧ (s.slot n).current.isSome = true
  range : (s.head h).record.InRange → r.InRange
  values : (∀ rev, s.usedRevision h = some rev → rev.InitWithin) → (s.head h).record.Fits (s.usedRevision h) → r.Fits (s.usedRevision h)
  hold : s.learningHold = true → (s.head h).record.NothingPending → r.NothingPending

/-- A record whose values stand or are dropped. -/
structure ValuesStand (r r' : HeadRecord) : Prop where
  a : r'.a = r.a
  t : r'.t = r.t ∨ r'.t = 0
  pendingA : r'.pendingA = r.pendingA ∨ r'.pendingA = none
  pendingT : r'.pendingT = r.pendingT ∨ r'.pendingT = none

theorem ValuesStand.fits {r r' : HeadRecord} (e : ValuesStand r r') {used : Option Revision} (f : r.Fits used) : r'.Fits used := by
  obtain ⟨a, t, pendingA, pendingT⟩ := e
  refine ⟨fun none => ?_, fun rev some => ?_⟩
  · obtain ⟨fa, ft, fpa, fpt⟩ := f.1 none
    exact ⟨a.trans fa, t.elim (·.trans ft) id, pendingA.elim (·.trans fpa) id, pendingT.elim (·.trans fpt) id⟩
  · obtain ⟨fa, fpa, ft, fpt⟩ := f.2 rev some
    refine ⟨by rw [a]; exact fa, fun v e => ?_, ?_, fun v e => ?_⟩
    · obtain same | none := pendingA
      · exact fpa v (same ▸ e)
      · rw [none] at e; cases e
    · obtain same | zero := t
      · rw [same]; exact ft
      · rw [zero]; constructor <;> omega
    · obtain same | none := pendingT
      · exact fpt v (same ▸ e)
      · rw [none] at e; cases e

theorem ValuesStand.nothingPending {r r' : HeadRecord} (e : ValuesStand r r') (f : r.NothingPending) : r'.NothingPending :=
  ⟨e.pendingA.elim (·.trans f.1) id, e.pendingT.elim (·.trans f.2) id⟩

/-- A change that leaves values and membership, up to dropping pending values and a pending slot. -/
theorem OwnChange.of_values {s : State} {h : HeadId} {r : HeadRecord} (out : r.service = .out ↔ (s.head h).record.service = .out)
    (slot : r.slot = (s.head h).record.slot) (uses : r.usesPending = (s.head h).record.usesPending)
    (pendingSlot : r.pendingSlot = (s.head h).record.pendingSlot ∨ r.pendingSlot = none) (range : (s.head h).record.InRange → r.InRange)
    (values : ValuesStand (s.head h).record r) : OwnChange s h r where
  out := out
  slot := slot
  uses := uses
  pendingSlot n e := .inl <| pendingSlot.elim (fun same => same ▸ e) fun none => by rw [none] at e; cases e
  range := range
  values _ := values.fits
  hold _ := values.nothingPending

/-- A change of notes and counters alone. -/
theorem OwnChange.of_notes {s : State} {h : HeadId} (drift : Int) (faults stray : Nat) (staged released : Bool) (adopted : Option Byte)
    (result : Option CalResult) (range : (s.head h).record.InRange →
      -7 ≤ drift ∧ drift ≤ 7 ∧ faults < Config.faultLimit ∧ stray ≤ Config.strayMax) :
    OwnChange s h { (s.head h).record with
      drift := drift, faultCount := faults, stray := stray, resetStaged := staged, presenceReleased := released, adoptedRev := adopted
      calResult := result } :=
  .of_values Iff.rfl rfl rfl (.inl rfl) (fun f => ⟨f.1, f.2.1, range f⟩) ⟨rfl, .inl rfl, .inl rfl, .inl rfl⟩

/-! ## Changes of the books -/

/-- One change of the books. Every constructor names the model's operation, with what the operation presupposes. -/
inductive BookStep : State → State → Prop
  | quiet {s t : State} : Quiet s t → BookStep s t
  | own {s : State} (h : HeadId) (f : HeadRecord → HeadRecord) : OwnChange s h (f (s.head h).record) → BookStep s (modRecord h f s)
  | leave {s : State} (h : HeadId) : (s.head h).record.service ≠ .out → BookStep s (becomeOut h s)
  | join {s : State} (h : HeadId) (n : SlotId) : (s.head h).record.service = .out → s.isInstalled h = true →
      (s.head h).record.slot = some n → (s.slot n).current.isSome = true → BookStep s (becomeJoining h s)
  | takeSlot {s : State} (h : HeadId) : (s.head h).record.NothingPending → BookStep s (commitSlot h s)
  | adopt {s : State} (h : HeadId) : (s.head h).record.NothingPending → BookStep s (commitAdopt h s)
  | assign {s : State} (h : HeadId) (sl : Option SlotId) : (s.head h).record.service = .out → s.isInstalled h = true →
      BookStep s (writeSlot sl h s)
  | current {s : State} (n : SlotId) (rev : Revision) : (s.slot n).current = none ∨ (s.slot n).members = 0 → rev.InitWithin →
      BookStep s (writeCurrent n rev s)
  | pending {s : State} (n : SlotId) (rev : Revision) : (s.slot n).current.isSome = true → (s.slot n).members ≠ 0 →
      (s.slot n).pending = none ∨ (s.slot n).adopted = 0 → rev.InitWithin → BookStep s (writePending n rev s)
  | erase {s : State} (n : SlotId) : s.slotInUse n = false → BookStep s (modSlot n (fun sl => { sl with current := none }) s)
  | hold {s : State} : BookStep s { dropPending s with learningHold := true }
  | unhold {s : State} : BookStep s { s with learningHold := false }
  | reline {s : State} (l : LineSetup) : (∀ h, s.isInstalled h = true → (s.head h).record.service = .out) → BookStep s (relined l s)
  | restart {s t : State} : (∀ h, ∃ presence pressure, t.head h = Head.powerOn presence pressure) → (∀ n, t.slot n = .powerOn) →
      t.learningHold = false → t.tracker = .powerOn → BookStep s t

/-- A chain of changes of the books. -/
abbrev Booked : State → State → Prop := Relation.ReflTransGen BookStep

theorem BookStep.booked {s t : State} (e : BookStep s t) : Booked s t := .single e
theorem Quiet.booked {s t : State} (e : Quiet s t) : Booked s t := .single (.quiet e)

theorem Booked.trans {s t u : State} (a : Booked s t) (b : Booked t u) : Booked s u := Relation.ReflTransGen.trans a b

/-- What every change keeps, a chain of changes keeps. -/
theorem Booked.keeps {P : State → Prop} (step : ∀ s t, BookStep s t → P s → P t) {s t : State} (e : Booked s t) (hs : P s) : P t := by
  induction e with
  | refl => exact hs
  | tail _ last ih => exact step _ _ last ih

/-! ## No change of the books opens a fill or counts one up -/

theorem fillKept_of_plant {s t : State} (e : t.plant = s.plant) (j : HeadId) : FillKept (s.head j) (t.head j) := .of_works (plant_works e j)

theorem leaveOld_plant (h : HeadId) (s : State) : (leaveOld h s).plant = s.plant := by
  unfold leaveOld; split <;> simp

theorem moveCounts_plant (h : HeadId) (n : SlotId) (s : State) : (moveCounts h n s).plant = s.plant := by
  by_cases stays : (s.head h).record.service = .out ∨ (s.head h).record.slot = some n
  · rw [moveCounts_stays stays]
  · obtain ⟨member, other⟩ := not_or.mp stays
    rw [moveCounts_moves member other, modRecord_plant, modSlot_plant, leaveOld_plant]

theorem commitSlot_plant (h : HeadId) (s : State) : (commitSlot h s).plant = s.plant := by
  cases staged : (s.head h).record.pendingSlot with
  | none => rw [commitSlot_none staged]
  | some n => rw [commitSlot_some staged, modRecord_plant, slotTaken, modRecord_plant, moveCounts_plant]

theorem commitAdopt_plant (h : HeadId) (s : State) : (commitAdopt h s).plant = s.plant := by
  unfold commitAdopt; simp only; split
  · rfl
  · split
    · rfl
    · split <;> simp

theorem becomeJoining_plant (h : HeadId) (s : State) : (becomeJoining h s).plant = s.plant := by
  unfold becomeJoining; simp only; split <;> simp

theorem BookStep.fillKept {s t : State} (e : BookStep s t) (j : HeadId) : FillKept (s.head j) (t.head j) := by
  cases e with
  | quiet q => exact q.fill j
  | own h f _ => exact fillKept_of_plant (modRecord_plant h f s) j
  | leave h _ => exact fillKept_of_plant (becomeOut_plant h s) j
  | join h n _ _ _ _ => exact fillKept_of_plant (becomeJoining_plant h s) j
  | takeSlot h _ => exact fillKept_of_plant (commitSlot_plant h s) j
  | adopt h _ => exact fillKept_of_plant (commitAdopt_plant h s) j
  | assign h sl _ _ => exact fillKept_of_plant (modRecord_plant h _ s) j
  | current n rev _ _ => exact fillKept_of_plant ((alignOut_plant n rev _).trans (modSlot_plant n _ s)) j
  | pending n rev _ _ _ _ => exact .refl _
  | erase n _ => exact .refl _
  | hold =>
    have dropped : (dropPending s).plant = s.plant := mapHeads_plant _ (by intro x; rfl) s
    exact .of_works (plant_works dropped j)
  | unhold => exact .refl _
  | reline l _ =>
    rw [head_relined]
    split
    · exact .of_works rfl
    · exact .refl _
  | restart heads _ _ _ =>
    obtain ⟨presence, pressure, e⟩ := heads j
    exact .of_noTicket (by rw [e]; rfl)

theorem Booked.fillKept {s t : State} (e : Booked s t) (j : HeadId) : FillKept (s.head j) (t.head j) := by
  induction e with
  | refl => exact .refl _
  | tail _ last ih => exact ih.trans (last.fillKept j)

/-! ## Fills opened and counted up -/

/-- One change of the books, a fill opened, or a glitch counted on one (R62, R81): the sixteenth only where the fill is over with it. -/
inductive Move : State → State → Prop
  | book {s t : State} : BookStep s t → Move s t
  | seat {s : State} (h : HeadId) : Move s (seat h s)
  | glitch {s : State} (h : HeadId) (tk : Ticket) : (s.head h).ticket = some tk → (s.phase h).filling = true →
      tk.glitches + 1 ≠ Config.glitchLimit → Move s (countGlitch h s)
  | lastGlitch {s t : State} (h : HeadId) (tk : Ticket) : (s.head h).ticket = some tk → tk.glitches + 1 = Config.glitchLimit →
      Booked (countGlitch h s) t → (t.phase h).filling = false → Move s t

/-- A chain of such changes. -/
abbrev Moves : State → State → Prop := Relation.ReflTransGen Move

theorem Booked.moves {s t : State} (e : Booked s t) : Moves s t := Relation.ReflTransGen.mono (fun _ _ => Move.book) _ _ e
theorem Quiet.moves {s t : State} (e : Quiet s t) : Moves s t := e.booked.moves

end Sys2Proof.Machine
end

section
/-! SUPPORT. The heads' work as changes of the books: fill sequence, crossings, commit-angle processing, grants. -/

namespace Sys2Proof.Machine

/-! ## Service state and reports -/

theorem takeOut_booked (h : HeadId) (s : State) : Booked s (takeOut h s) := by
  unfold takeOut
  split
  next joining => exact (BookStep.leave h (by rw [joining]; exact nofun)).booked
  next inn =>
    split
    · exact (BookStep.leave h (by rw [inn]; exact nofun)).booked
    · refine (BookStep.own h _ (.of_values ?_ rfl rfl (.inl rfl) id ⟨rfl, .inl rfl, .inl rfl, .inl rfl⟩)).booked
      rw [inn]; exact ⟨nofun, nofun⟩
  · exact .refl
  · exact .refl

theorem raiseEquipment_booked (d : EquipmentDetail) (h : HeadId) (s : State) : Booked s (raiseEquipment d h s) :=
  (changeCauses_quiet h _ s).booked.trans (takeOut_booked h _)

theorem raiseRepeatedFaults_booked (h : HeadId) (s : State) : Booked s (raiseRepeatedFaults h s) :=
  (changeCauses_quiet h _ s).booked.trans (takeOut_booked h _)

/-- The consecutive fault count takes a value below the limit (R55). -/
theorem faultCount_booked (h : HeadId) (s : State) (f : Nat → Nat) (below : f (s.head h).record.faultCount < Config.faultLimit) :
    Booked s (modRecord h (fun r => { r with faultCount := f r.faultCount }) s) :=
  (BookStep.own h _ (.of_notes _ _ _ _ _ _ _ fun ⟨_, _, lo, hi, _, stray⟩ => ⟨lo, hi, below, stray⟩)).booked

theorem countFault_booked (h : HeadId) (s : State) : Booked s (countFault h s) := by
  unfold countFault
  split
  next below => exact faultCount_booked h s (· + 1) below
  next => exact (faultCount_booked h s (fun _ => 0) (by decide)).trans (raiseRepeatedFaults_booked h _)

/-! ## Dose end and forced endings -/

theorem learnedLead_le (r : Recipe) (aMax base : Nat) (x : Int) : learnedLead r aMax base x ≤ aMax := by
  unfold learnedLead
  omega

theorem learn_booked (h : HeadId) (s : State) : Booked s (learn h s) := by
  unfold learn
  split
  next tk rev ticket used =>
    split
    next x sampled =>
      split
      next teaches =>
        refine (BookStep.own h _ ⟨Iff.rfl, rfl, rfl, fun _ => .inl, id, fun _ fits => ⟨fun none => ?_, fun rev' some => ?_⟩, fun on => ?_⟩).booked
        · rw [used] at none; cases none
        · obtain rfl : rev = rev' := Option.some.inj (used.symm.trans some)
          obtain ⟨a, -, t, pendingT⟩ := fits.2 rev some
          exact ⟨a, fun v e => (Option.some.inj e) ▸ learnedLead_le _ _ _ _, t, pendingT⟩
        · rw [teaches.2] at on; cases on
      next => exact .refl
    next => exact .refl
  next => exact .refl

theorem reportDoseEnd_booked (h : HeadId) (s : State) : Booked s (reportDoseEnd h s) := by
  unfold reportDoseEnd
  split
  · exact .refl
  · split
    · exact (changeCauses_quiet h _ s).booked.trans (countFault_booked h _)
    · split
      · exact (changeCauses_quiet h _ s).booked.trans (faultCount_booked h _ (fun _ => 0) (by decide))
      · exact .refl

theorem doseEnd_booked (h : HeadId) (s : State) : Booked s (doseEnd h s) :=
  (doseJudged_quiet h s).booked.trans ((learn_booked h _).trans (reportDoseEnd_booked h _))

theorem forceToSnift_booked (r : Reason) (h : HeadId) (s : State) : Booked s (forceToSnift r h s) := by
  cases filling : (s.phase h).filling with
  | false => rw [forceToSnift_other filling]
  | true => rw [forceToSnift_filling filling]; exact (forcePrepared_quiet r h s).booked.trans (doseEnd_booked h _)

theorem equipmentEnding_booked (d : EquipmentDetail) (r : Reason) (h : HeadId) (s : State) : Booked s (equipmentEnding d r h s) :=
  (raiseEquipment_booked d h s).trans (forceToSnift_booked r h _)

theorem flowStill_booked (h : HeadId) (s : State) : Booked s (flowStill h s) := by
  have sampled : Quiet s (modTicket h Ticket.recordSample s) := modTicket_quiet h s
  unfold flowStill
  split
  next settle _ _ =>
    simp only
    split
    · exact (sampled.trans (enterTopUp_quiet (by rw [phase_modTicket, settle]; rfl))).booked
    · exact sampled.booked.trans (doseEnd_booked h _)
  · exact doseEnd_booked h s
  · exact .refl

/-! ## Grants -/

theorem gasGrant_booked (h : HeadId) (s : State) : Booked s (gasGrant h s) := by
  have granted : Booked s (startTimer .equalize h (modSeq h (fun q => { q with gasGranted := true }) s)) :=
    ((modSeq_quiet id).trans (startTimer_quiet _ h _)).booked
  unfold gasGrant; simp only; split
  · exact granted.trans (equipmentEnding_booked _ _ h _)
  · exact granted

theorem takeGrant_booked (k : OpenKind) (h : HeadId) (s : State) : Booked s (takeGrant k h s) := by
  unfold takeGrant
  split
  · exact gasGrant_booked h s
  next pressurize => exact ((enterPhase_quiet fun _ => by rw [pressurize]; rfl).trans (startTimer_quiet _ h _)).booked
  · exact (startTimer_quiet _ h s).booked
  · exact (startTimer_quiet _ h s).booked
  · exact .refl

theorem grant_booked (i : BoostId) (e : Entry) (s : State) : Booked s (grant i e s) :=
  ((putBoosts_quiet _ s).trans ((energise_quiet _ _ _).trans (withdraw_quiet _ _))).booked.trans (takeGrant_booked _ _ _)

theorem arbitrate_booked (s : State) : Booked s (arbitrate s) :=
  arbitrate_keeps (P := Booked s) (fun i e u _ _ booked => booked.trans (grant_booked i e u)) .refl

/-! ## Crossings but infeed and commit -/

theorem closeByCrossing_booked (h : HeadId) (s : State) : Booked s (closeByCrossing h s) := by
  have passed : Quiet s (modSeq h (fun q => { q with closeByPassed := true }) s) := modSeq_quiet id
  unfold closeByCrossing; simp only; split
  · exact .refl
  · exact (passed.trans (forceToSettle_quiet _ h _)).booked
  · exact (passed.trans (forceToSettle_quiet _ h _)).booked
  · exact (passed.trans (forceToSettle_quiet _ h _)).booked
  · exact passed.booked.trans (forceToSnift_booked _ h _)
  · exact passed.booked.trans (forceToSnift_booked _ h _)
  all_goals exact passed.booked

theorem sniftByCrossing_booked (h : HeadId) (s : State) : Booked s (sniftByCrossing h s) := by
  unfold sniftByCrossing; split
  · exact forceToSnift_booked _ h s
  · exact forceToSnift_booked _ h s
  · exact forceToSnift_booked _ h s
  · exact forceToSnift_booked _ h s
  · exact forceToSnift_booked _ h s
  · exact (modTicket_quiet h s).booked.trans (doseEnd_booked h _)
  all_goals exact .refl

theorem dischargeSnift_booked (h : HeadId) (s : State) : Booked s (dischargeSnift h s) := by
  have handed : Booked s (handOver h (raiseFillFault .sniftShort h (modTicket h Ticket.cutShort (stopTimer .snift h (release .snift h s))))) :=
    (((release_quiet .snift h s).trans (stopTimer_quiet _ h _)).trans
      ((modTicket_quiet h _).trans ((changeCauses_quiet h _ _).trans (handOver_quiet h _)))).booked
  have counted (b : Bool) (t : State) (e : Booked s t) : Booked s (if b = true then t else countFault h t) := by
    cases b
    · exact e.trans (countFault_booked h t)
    · exact e
  exact counted _ _ handed

theorem dischargeCrossing_booked (h : HeadId) (s : State) : Booked s (dischargeCrossing h s) := by
  unfold dischargeCrossing; split
  · exact (putLines_quiet _ s).booked
  · exact (handOver_quiet h s).booked
  · exact dischargeSnift_booked h s
  all_goals exact (sniftByCrossing_booked h s).trans (dischargeSnift_booked h _)

/-! ## Commit-angle processing -/

theorem commitPresence_booked (h : HeadId) (s : State) : Booked s (commitPresence h s) := by
  unfold commitPresence; split
  · exact .refl
  · exact (BookStep.own h _ (.of_notes _ _ _ _ _ _ _ fun ⟨_, _, range⟩ => range)).booked

/-- The stray pulse count takes a value within its range (R50, R60). -/
theorem stray_booked (h : HeadId) (s : State) (f : Nat → Nat) (within : f (s.head h).record.stray ≤ Config.strayMax) :
    Booked s (modRecord h (fun r => { r with stray := f r.stray }) s) :=
  (BookStep.own h _ (.of_notes _ _ _ _ _ _ _ fun ⟨_, _, lo, hi, faults, _⟩ => ⟨lo, hi, faults, within⟩)).booked

theorem commitStray_booked (h : HeadId) (s : State) : Booked s (commitStray h s) := by
  have zeroed (u : State) : Booked u (modRecord h (fun r => { r with stray := 0 }) u) := stray_booked h u (fun _ => 0) (by decide)
  unfold commitStray; simp only; split
  · exact (raiseEquipment_booked _ h s).trans (zeroed _)
  · exact zeroed s

theorem takeK_booked {k : Nat} {h : HeadId} {s : State} (range : (s.head h).record.InRange → kInRange k = true) :
    Booked s (takeK k h s) := by
  refine (BookStep.own h _ (.of_values Iff.rfl rfl rfl (.inl rfl) (fun f => ?_)
    ⟨rfl, .inr rfl, .inl rfl, .inr rfl⟩)).booked.trans (changeCauses_quiet h _ _).booked
  obtain ⟨-, -, -, -, faults, stray⟩ := id f
  exact ⟨range f, nofun, by simp, by simp, faults, stray⟩

theorem writeK_booked {k : Nat} (range : kInRange k = true) (h : HeadId) (s : State) : Booked s (writeK k h s) := by
  unfold writeK; split
  · exact takeK_booked fun _ => range
  · exact (BookStep.own h _ (.of_values Iff.rfl rfl rfl (.inl rfl) (fun ⟨k, _, rest⟩ => ⟨k, fun _ e => Option.some.inj e ▸ range, rest⟩)
      ⟨rfl, .inl rfl, .inl rfl, .inl rfl⟩)).booked

theorem commitK_booked (h : HeadId) (s : State) : Booked s (commitK h s) := by
  cases staged : (s.head h).record.stagedK with
  | none => rw [commitK_none staged]
  | some k => rw [commitK_some staged]; exact takeK_booked fun ⟨_, range, _⟩ => range k staged

/-- A return of learning to its starting point fits the revision used (R38, R52). -/
theorem resetLearning_fits {used : Option Revision} (inits : ∀ rev, used = some rev → rev.InitWithin) (r : HeadRecord) :
    (resetLearning used r).Fits used := by
  refine ⟨fun none => ?_, fun rev some => ?_⟩
  · rw [none]; exact ⟨rfl, rfl, rfl, rfl⟩
  · rw [some]; exact ⟨inits rev some, nofun, ⟨by simp [resetLearning], by simp [resetLearning]⟩, nofun⟩

theorem resetLearning_own (s : State) (h : HeadId) (b : Bool) :
    OwnChange s h { resetLearning (s.usedRevision h) (s.head h).record with resetStaged := b } where
  out := Iff.rfl
  slot := rfl
  uses := rfl
  pendingSlot _ := .inl
  range := fun ⟨k, staged, _, _, faults, stray⟩ => ⟨k, staged, by simp [resetLearning], by simp [resetLearning], faults, stray⟩
  values inits _ := resetLearning_fits inits (s.head h).record
  hold _ _ := ⟨rfl, rfl⟩

theorem commitPending_booked (h : HeadId) (s : State) : Booked s (commitPending h s) := by
  refine (BookStep.own h (HeadRecord.committed (s.usedRevision h)) ?_).booked
  cases staged : (s.head h).record.resetStaged with
  | true => rw [committed_reset staged]; exact resetLearning_own s h false
  | false =>
    rw [committed_plain staged]
    refine ⟨Iff.rfl, rfl, rfl, fun _ => .inl, id, fun _ fits => ⟨fun none => ?_, fun rev some => ?_⟩, fun _ _ => ⟨rfl, rfl⟩⟩
    · obtain ⟨a, t, pendingA, pendingT⟩ := fits.1 none
      simp [a, t, pendingA, pendingT]
    · obtain ⟨a, pendingA, t, pendingT⟩ := fits.2 rev some
      refine ⟨?_, nofun, ?_, nofun⟩
      · cases e : (s.head h).record.pendingA with
        | none => exact a
        | some v => exact pendingA v e
      · cases e : (s.head h).record.pendingT with
        | none => exact t
        | some v => exact pendingT v e

theorem commitPending_nothingPending (h : HeadId) (s : State) : ((commitPending h s).head h).record.NothingPending := by
  rw [commitPending_eq, head_modRecord]
  cases staged : (s.head h).record.resetStaged with
  | true => rw [committed_reset staged]; exact ⟨rfl, rfl⟩
  | false => rw [committed_plain staged]; exact ⟨rfl, rfl⟩

theorem commitSlot_nothingPending {h : HeadId} {s : State} (e : (s.head h).record.NothingPending) :
    ((commitSlot h s).head h).record.NothingPending := by
  cases staged : (s.head h).record.pendingSlot with
  | none => rw [commitSlot_none staged]; exact e
  | some n => rw [head_commitSlot staged]; exact e

theorem commitService_booked (h : HeadId) (s : State) : Booked s (commitService h s) := by
  unfold commitService
  split
  next joining =>
    refine (BookStep.own h _ (.of_values ?_ rfl rfl (.inl rfl) id ⟨rfl, .inl rfl, .inl rfl, .inl rfl⟩)).booked
    rw [joining]; exact ⟨nofun, nofun⟩
  next leaving => exact (BookStep.leave h (by rw [leaving]; exact nofun)).booked
  · exact .refl
  · exact .refl

theorem commitCrossing_booked (h : HeadId) (s : State) : Booked s (commitCrossing h s) := by
  have nothing := commitPending_nothingPending h (commitK h (commitStray h (commitPresence h s)))
  exact (commitPresence_booked h s).trans <| (commitStray_booked h _).trans <| (commitK_booked h _).trans <|
    (commitPending_booked h _).trans <| (BookStep.takeSlot h nothing).booked.trans <|
    (BookStep.adopt h (commitSlot_nothingPending nothing)).booked.trans (commitService_booked h _)

/-! ## Crossings at every head -/

theorem infeedCrossing_moves (h : HeadId) (s : State) : Moves s (infeedCrossing h s) := by
  unfold infeedCrossing; simp only; split
  · split
    · exact .single (.seat h)
    · exact (changeCauses_quiet h _ s).moves
  · exact .refl

theorem deliver_moves (z : Zone) (h : HeadId) (s : State) : Moves s (deliver z h s) := by
  cases z with
  | infeed => exact infeedCrossing_moves h s
  | gas => exact (gasCrossing_quiet h s).moves
  | fill => exact (fillCrossing_quiet h s).moves
  | closeBy => exact (closeByCrossing_booked h s).moves
  | sniftBy => exact (sniftByCrossing_booked h s).moves
  | discharge => exact (dischargeCrossing_booked h s).moves
  | commit => exact (commitCrossing_booked h s).moves

theorem crossHead_moves (h : HeadId) (s : State) : Moves s (crossHead h s) := by
  unfold crossHead; split
  · exact .refl
  · exact deliver_moves _ h s

theorem forInstalled_moves {f : HeadId → State → State} (hf : ∀ h s, Moves s (f h s)) (s : State) : Moves s (forInstalled f s) :=
  forInstalled_keeps (P := Moves s) (fun h u moves => moves.trans (hf h u)) .refl

theorem forInstalled_booked {f : HeadId → State → State} (hf : ∀ h s, Booked s (f h s)) (s : State) : Booked s (forInstalled f s) :=
  forInstalled_keeps (P := Booked s) (fun h u booked => booked.trans (hf h u)) .refl

theorem deliverCrossings_moves (s : State) : Moves s (deliverCrossings s) :=
  (forInstalled_moves crossHead_moves s).trans (arbitrate_booked _).moves

theorem abortAll_booked (r : Reason) (s : State) : Booked s (abortAll r s) :=
  (forInstalled_booked (forceToSnift_booked r) s).trans (arbitrate_booked _)

end Sys2Proof.Machine
end

section
/-! SUPPORT. Requests and commands as changes of the books: every command is a chain of them. -/

namespace Sys2Proof.Machine

/-! ## SET HEAD -/

theorem applyK_booked {k : Option Nat} (range : ∀ v, k = some v → kInRange v = true) (h : HeadId) (s : State) : Booked s (applyK k h s) := by
  cases k with
  | none => exact .refl
  | some v => exact writeK_booked (range v rfl) h s

/-- The head's slot, service state and the slots, which the K and reset-learning fields leave. -/
structure Assigned (h : HeadId) (s t : State) : Prop where
  slot : (t.head h).record.slot = (s.head h).record.slot
  service : (t.head h).record.service = (s.head h).record.service
  slots : t.slots = s.slots
  tracker : t.tracker = s.tracker

theorem Assigned.refl (h : HeadId) (s : State) : Assigned h s s := ⟨rfl, rfl, rfl, rfl⟩

theorem Assigned.trans {h : HeadId} {s t u : State} (a : Assigned h s t) (b : Assigned h t u) : Assigned h s u :=
  ⟨b.slot.trans a.slot, b.service.trans a.service, b.slots.trans a.slots, b.tracker.trans a.tracker⟩

theorem modRecord_assigned {h : HeadId} {f : HeadRecord → HeadRecord} {s : State} (slot : (f (s.head h).record).slot = (s.head h).record.slot)
    (service : (f (s.head h).record).service = (s.head h).record.service) : Assigned h s (modRecord h f s) :=
  ⟨by rw [head_modRecord]; exact slot, by rw [head_modRecord]; exact service, rfl, rfl⟩

theorem changeCauses_assigned (h : HeadId) (f : Causes → Causes) (s : State) : Assigned h s (changeCauses h f s) :=
  ⟨by rw [head_changeCauses], by rw [head_changeCauses], rfl, rfl⟩

theorem applyK_assigned (k : Option Nat) (h : HeadId) (s : State) : Assigned h s (applyK k h s) := by
  cases k with
  | none => exact .refl h s
  | some v =>
    unfold applyK writeK
    simp only
    split
    · exact (modRecord_assigned (by rfl) (by rfl)).trans (changeCauses_assigned h _ _)
    · exact modRecord_assigned (by rfl) (by rfl)

theorem applyReset_assigned (b : Bool) (h : HeadId) (s : State) : Assigned h s (applyReset b h s) := by
  unfold applyReset; split
  · exact .refl h s
  · split
    · exact modRecord_assigned (by rfl) (by rfl)
    · exact modRecord_assigned (by rfl) (by rfl)

theorem applyReset_booked (b : Bool) (h : HeadId) (s : State) : Booked s (applyReset b h s) := by
  unfold applyReset; split
  · exact .refl
  · split
    · exact (BookStep.own h _ (resetLearning_own s h (s.head h).record.resetStaged)).booked
    · exact (BookStep.own h _ (.of_notes _ _ _ _ _ _ _ fun ⟨_, _, range⟩ => range)).booked

/-- The slot field on a head that is not OUT has passed check 3 of R44. -/
theorem slotRefusal_none {f : HeadFields} {h : HeadId} {s : State} (passed : slotRefusal f h s = none)
    (member : (s.head h).record.service ≠ .out) : f.slot = .noChange ∨ ∃ n, f.slot = .slot n ∧ s.slotEmpty n = false := by
  rw [slotRefusal, if_neg member] at passed
  cases e : f.slot with
  | noChange => exact .inl rfl
  | noSlot => rw [e] at passed; cases passed
  | slot n =>
    rw [e] at passed
    cases empty : s.slotEmpty n with
    | false => exact .inr ⟨n, rfl, empty⟩
    | true => simp [empty] at passed

/-- An OUT head that is brought in has passed check 5 of R44. -/
theorem joinRefusal_none {f : HeadFields} {h : HeadId} {s : State} (passed : joinRefusal f h s = none) (goIn : f.service = .goIn)
    (out : (s.head h).record.service = .out) : ∃ n, f.slot.applied (s.head h).record.slot = some n ∧ s.slotEmpty n = false := by
  rw [joinRefusal, if_pos ⟨goIn, out⟩] at passed
  cases e : f.slot.applied (s.head h).record.slot with
  | none => rw [e] at passed; cases passed
  | some n =>
    rw [e] at passed
    cases empty : s.slotEmpty n with
    | false => exact ⟨n, rfl, empty⟩
    | true => simp [empty] at passed

theorem slotEmpty_false {s : State} {n : SlotId} (e : s.slotEmpty n = false) : (s.slot n).current.isSome = true := by
  cases current : (s.slot n).current with
  | some rev => rfl
  | none => simp [State.slotEmpty, Slot.state, current] at e

theorem setHeadRefusal_none {f : HeadFields} {h : HeadId} {s : State} (passed : setHeadRefusal f h s = none) :
    slotRefusal f h s = none ∧ equipmentRefusal f h s = none ∧ joinRefusal f h s = none := by
  simpa [setHeadRefusal, Option.or_eq_none_iff] using passed

theorem applySlot_booked {f : HeadFields} {h : HeadId} {s : State} (installed : s.isInstalled h = true)
    (passed : slotRefusal f h s = none) : Booked s (applySlot f.slot h s) := by
  unfold applySlot
  split
  · exact .refl
  next change =>
    split
    next out => exact (BookStep.assign h _ out installed).booked
    next member =>
      obtain same | ⟨n, e, current⟩ := slotRefusal_none passed member
      · exact absurd same change
      · refine (BookStep.own h _ ⟨Iff.rfl, rfl, rfl, fun m staged => .inr ⟨installed, ?_⟩, id, fun _ => id, fun _ => id⟩).booked
        rw [e] at staged
        cases staged
        exact slotEmpty_false current

theorem applySlot_outcome (f : SlotField) (h : HeadId) (s : State) :
    (applySlot f h s).slots = s.slots ∧ (applySlot f h s).tracker = s.tracker ∧
    ((applySlot f h s).head h).record.service = (s.head h).record.service ∧
    ((s.head h).record.service = .out → ((applySlot f h s).head h).record.slot = f.applied (s.head h).record.slot) := by
  unfold applySlot
  split
  next same => subst same; exact ⟨rfl, rfl, rfl, fun _ => rfl⟩
  next change =>
    split
    next out =>
      refine ⟨rfl, rfl, by rw [writeSlot, head_modRecord]; rfl, fun _ => ?_⟩
      rw [writeSlot, head_modRecord]
      cases f with
      | noChange => exact absurd rfl change
      | noSlot => rfl
      | slot n => rfl
    next member => exact ⟨rfl, rfl, by rw [head_modRecord], fun out => absurd out member⟩

theorem applyHeadFields_booked {f : HeadFields} {h : HeadId} {s : State} (range : ∀ v, f.k = some v → kInRange v = true)
    (installed : s.isInstalled h = true) (passed : setHeadRefusal f h s = none) : Booked s (applyHeadFields f h s) := by
  obtain ⟨slotPassed, -, joinPassed⟩ := setHeadRefusal_none passed
  have k := applyK_assigned f.k h s
  have reset := applyReset_assigned f.reset h (applySlot f.slot h (applyK f.k h s))
  obtain ⟨slots, tracker, service, slot⟩ := applySlot_outcome f.slot h (applyK f.k h s)
  have installed' {u : State} (e : u.tracker = s.tracker) : u.isInstalled h = true := by rw [State.isInstalled, e]; exact installed
  have slotPassed' : slotRefusal f h (applyK f.k h s) = none := by
    have empty (n : SlotId) : (applyK f.k h s).slotEmpty n = s.slotEmpty n := by rw [State.slotEmpty, State.slot, k.slots]; rfl
    simp only [slotRefusal, k.service, empty]
    exact slotPassed
  have before : Booked s (applyReset f.reset h (applySlot f.slot h (applyK f.k h s))) :=
    (applyK_booked range h s).trans ((applySlot_booked (installed' k.tracker) slotPassed').trans (applyReset_booked _ h _))
  refine before.trans ?_
  have service' := reset.service.trans (service.trans k.service)
  unfold applyHeadFields
  generalize applyReset f.reset h (applySlot f.slot h (applyK f.k h s)) = u at *
  cases e : f.service with
  | noChange => exact .refl
  | goOut => exact takeOut_booked h u
  | goIn =>
    simp only [applyService, bringIn]
    split
    next out =>
      rw [service'] at out
      obtain ⟨n, applied, nonempty⟩ := joinRefusal_none joinPassed e out
      refine (BookStep.join h n (service'.trans out) (installed' (reset.tracker.trans (tracker.trans k.tracker))) ?_ ?_).booked
      · rw [reset.slot, slot (k.service.trans out), k.slot]; exact applied
      · rw [State.slot, reset.slots, slots, k.slots]; exact slotEmpty_false nonempty
    next leaving =>
      refine (BookStep.own h _ (.of_values ?_ rfl rfl (.inl rfl) id ⟨rfl, .inl rfl, .inl rfl, .inl rfl⟩)).booked
      rw [leaving]; exact ⟨nofun, nofun⟩
    · exact .refl
    · exact .refl

theorem kFieldOf_range {k : Half} {v : Nat} (e : kFieldOf k = some (some v)) : kInRange v = true := by
  unfold kFieldOf at e
  split at e
  · cases e
  · split at e
    next range => cases e; exact range
    next => cases e

/-- The K of an accepted SET HEAD lies in its range (R38, R44). -/
theorem headFieldsOf_range {service : Byte} {k : Half} {slot reset : Byte} {f : HeadFields} (e : headFieldsOf service k slot reset = .ok f) :
    ∀ v, f.k = some v → kInRange v = true := by
  unfold headFieldsOf at e
  split at e
  · cases e
  · split at e
    · cases e
    next kv decoded =>
      split at e
      · cases e
      · split at e
        · cases e
        · cases e
          intro v present
          obtain rfl : kv = some v := present
          exact kFieldOf_range decoded

theorem installedHead_isInstalled {s : State} {n : Nat} {h : HeadId} (e : s.installedHead n = some h) :
    h.val = n ∧ s.isInstalled h = true := by
  unfold State.installedHead at e
  split at e
  · split at e
    next below => cases e; exact ⟨rfl, decide_eq_true below⟩
    next => cases e
  · cases e

/-! ## Recipe requests -/

theorem firstBad_none {checks : List (Nat × Bool)} (e : firstBad checks = none) : ∀ c ∈ checks, c.2 = true := by
  simpa [firstBad] using e

/-- An accepted revision has A_init within A_max (R23). -/
theorem recipeOf_initWithin {b : RevisionBlock} (e : blockFirstBad b = none) (number : Byte) :
    ({ number := number, recipe := recipeOf b } : Revision).InitWithin := by
  have := firstBad_none e (4, within 0 b.aMax.toNat b.aInit.toNat) (by simp)
  simpa [Revision.InitWithin, recipeOf, within] using this

theorem slotState_idle {sl : Slot} (e : sl.state = .empty ∨ sl.state = .ready) : sl.current = none ∨ sl.members = 0 := by
  by_contra c
  obtain ⟨current, members⟩ := not_or.mp c
  have : sl.state = .active := by simp [Slot.state, current, members]
  rw [this] at e
  exact e.elim nofun nofun

theorem slotState_active {sl : Slot} (e : sl.state = .active) : sl.current.isSome = true ∧ sl.members ≠ 0 := by
  unfold Slot.state at e
  split at e
  · cases e
  next current =>
    split at e
    · cases e
    next members => exact ⟨by simpa [Option.isNone_iff_eq_none, Option.isSome_iff_ne_none] using current, members⟩

theorem serveWriteRecipe_booked (slot : Byte) (b : RevisionBlock) (s : State) : Booked s (serveWriteRecipe slot b s).1 := by
  unfold serveWriteRecipe
  split
  · exact .refl
  next n _ =>
    split
    · exact .refl
    next passes =>
      simp only
      split
      next empty => exact (BookStep.current n _ (slotState_idle (.inl empty)) (recipeOf_initWithin passes _)).booked
      next ready => exact (BookStep.current n _ (slotState_idle (.inr ready)) (recipeOf_initWithin passes _)).booked
      next active =>
        obtain ⟨current, members⟩ := slotState_active active
        split
        · exact .refl
        next idle =>
          refine (BookStep.pending n _ current members ?_ (recipeOf_initWithin passes _)).booked
          cases pending : (s.slot n).pending with
          | none => exact .inl rfl
          | some rev => exact .inr (by simpa [pending] using idle)

/-! ## Ticket requests, trim -/

theorem retireMissed_quiet (tag : Tag) (s : State) : Quiet s (retireMissed tag s) := by
  unfold retireMissed; simp only; split
  · exact putTransit_quiet _ s
  · exact (putTransit_quiet _ s).trans (changeGlobals_quiet _ _)

theorem driftAfter_range {tMax : Nat} {v d : Int} (lo : -7 ≤ d) (hi : d ≤ 7) : -7 ≤ driftAfter tMax v d ∧ driftAfter tMax v d ≤ 7 := by
  unfold driftAfter
  split
  · omega
  · split <;> omega

theorem clampTrim_within (rev : Revision) (t : Int) : -(rev.recipe.tMax : Int) ≤ clampTrim rev t ∧ clampTrim rev t ≤ rev.recipe.tMax := by
  unfold clampTrim
  omega

theorem trimHead_booked {rev : Revision} {step : Int} {h : HeadId} {s : State} (used : s.usedRevision h = some rev)
    (off : s.learningHold = false) : Booked s (trimHead rev step h s) := by
  have trimmed (v drift : Int) (range : -7 ≤ (s.head h).record.drift → (s.head h).record.drift ≤ 7 → -7 ≤ drift ∧ drift ≤ 7) :
      Booked s (modRecord h (fun r => { r with pendingT := some (clampTrim rev v), drift := drift }) s) := by
    refine (BookStep.own h _ ⟨Iff.rfl, rfl, rfl, fun _ => .inl, fun range' => ?_, fun _ fits => ⟨fun absent => ?_, fun rev' found => ?_⟩,
      fun on => ?_⟩).booked
    · obtain ⟨k, staged, lo, hi, rest⟩ := id range'
      exact ⟨k, staged, (range lo hi).1, (range lo hi).2, rest⟩
    · rw [used] at absent; cases absent
    · obtain rfl : rev = rev' := Option.some.inj (used.symm.trans found)
      obtain ⟨a, pendingA, t, -⟩ := fits.2 rev found
      exact ⟨a, pendingA, t, fun v e => Option.some.inj e ▸ clampTrim_within rev _⟩
    · rw [off] at on; cases on
  unfold trimHead; simp only; split
  · exact (trimmed _ _ driftAfter_range).trans (changeCauses_quiet h _ _).booked
  · exact trimmed _ _ driftAfter_range

theorem trimFrom_booked (tk : Ticket) (s : State) : Booked s (trimFrom tk s) := by
  unfold trimFrom
  split
  next used =>
    split
    next trims =>
      refine trimHead_booked used ?_
      simp only [State.trims, Bool.and_eq_true, Bool.not_eq_true'] at trims
      exact trims.1.1.1
    next => exact .refl
  · exact .refl

theorem recordVerdict_booked (v : Verdict) (tk : Ticket) (s : State) : Booked s (recordVerdict v tk s) := by
  unfold recordVerdict; simp only
  split
  · exact (putTransit_quiet _ s).booked.trans (trimFrom_booked _ _)
  · exact (putTransit_quiet _ s).booked.trans ((trimFrom_booked _ _).trans (putTransit_quiet _ _).booked)

/-! ## Calibration, resets, attention -/

theorem recordOutcome_booked (h : HeadId) (o : CalOutcome) (k : Option Nat) (tag : Tag) (s : State) : Booked s (recordOutcome h o k tag s) :=
  (BookStep.own h _ (.of_notes _ _ _ _ _ _ _ fun ⟨_, _, range⟩ => range)).booked.trans (changeCauses_quiet h _ _).booked

theorem divider_quiet (d : Option Calibration) (s : State) : Quiet s { s with divider := d } := .of_same rfl rfl rfl rfl

theorem completeDivision_booked (c : Calibration) (s : State) : Booked s (completeDivision c s) := by
  have written : Booked s (if c.outcome c.divided.quotient = .staged then writeK c.divided.quotient c.head s else s) := by
    split
    next staged =>
      refine writeK_booked ?_ c.head s
      cases range : kInRange c.divided.quotient with
      | true => rfl
      | false => rw [Calibration.outcome, if_pos range] at staged; cases staged
    next => exact .refl
  exact written.trans ((divider_quiet none _).booked.trans (recordOutcome_booked _ _ _ _ _))

theorem cancelCalibration_booked (s : State) : Booked s (cancelCalibration s) := by
  unfold cancelCalibration; split
  · exact .refl
  · exact (divider_quiet none s).booked.trans (recordOutcome_booked _ _ _ _ _)

theorem cancelForHead_booked (h : HeadId) (s : State) : Booked s (cancelForHead h s) := by
  unfold cancelForHead; split
  · exact cancelCalibration_booked s
  · exact .refl

/-- A reset drops the staged and pending values (R56, R57), and may zero the drift counter. -/
theorem dropped_booked (h : HeadId) (f : Int → Int) (s : State)
    (range : -7 ≤ (s.head h).record.drift → (s.head h).record.drift ≤ 7 → -7 ≤ f (s.head h).record.drift ∧ f (s.head h).record.drift ≤ 7) :
    Booked s (modRecord h (fun r => { r.dropped with drift := f r.drift }) s) := by
  refine (BookStep.own h _ (.of_values Iff.rfl rfl rfl (.inr rfl) (fun ⟨k, _, lo, hi, _, stray⟩ => ?_)
    ⟨rfl, .inl rfl, .inr rfl, .inr rfl⟩)).booked
  exact ⟨k, nofun, (range lo hi).1, (range lo hi).2, show 0 < Config.faultLimit by decide, stray⟩

theorem resetHead_booked (h : HeadId) (s : State) : Booked s (resetHead h s) :=
  ((withdraw_quiet h s).booked.trans ((forceToSnift_booked .reset h _).trans (requeueSnift_quiet h _).booked)).trans <|
    ((takeOut_booked h _).trans (dropped_booked h (fun _ => 0) _ (by simp))).trans <|
    (changeCauses_quiet h _ _).booked.trans <| (cancelForHead_booked h _).trans (arbitrate_booked _)

theorem resetLine_booked (s : State) : Booked s (resetLine s) := by
  have sequencers : Booked s (resetSequencers s) := (resetArbiter_quiet s).booked.trans <|
    (forInstalled_booked (forceToSnift_booked .reset) _).trans (forInstalled_booked (fun h u => (requeueSnift_quiet h u).booked) _)
  have records (u : State) : Booked u (resetRecords u) :=
    forInstalled_booked (fun h u => (takeOut_booked h u).trans (dropped_booked h id _ fun lo hi => ⟨lo, hi⟩)) u
  have causes (u : State) : Booked u (clearAllCauses u) := by
    have heads : Booked u (forInstalled (fun h => modCauses h (fun _ => .clear)) u) :=
      forInstalled_booked (fun h u => (modCauses_quiet h _ u).booked) u
    have globals : Quiet (forInstalled (fun h => modCauses h (fun _ => .clear)) u) (clearAllCauses u) := .of_same rfl rfl rfl rfl
    exact heads.trans globals.booked
  exact sequencers.trans <| (records _).trans <| (putTransit_quiet [] _).booked.trans <| (causes _).trans <|
    (cancelCalibration_booked _).trans (arbitrate_booked _)

theorem clearHead_booked (kinds : Byte) (h : HeadId) (s : State) : Booked s (clearHead kinds h s) := by
  unfold clearHead; simp only; split
  · exact (changeCauses_quiet h _ s).booked.trans
      (BookStep.own h _ (.of_notes _ _ _ _ _ _ _ fun ⟨_, _, _, _, rest⟩ => ⟨by simp, by simp, rest⟩)).booked
  · exact (changeCauses_quiet h _ s).booked

/-! ## Requests -/

theorem serve_booked (r : Request) (s : State) : Booked s (serve r s).1 := by
  cases r with
  | readStatus => exact .refl
  | readHead head =>
    simp only [serve, serveReadHead]
    split
    · exact .refl
    · have drawn : Quiet s { s with freeReads := s.freeReads + 1 } := .of_same rfl rfl rfl rfl
      exact (drawn.trans (changeCauses_quiet _ _ _)).booked
  | readRecipe slot => simp only [serve, serveReadRecipe]; split <;> exact .refl
  | readTicket selector number => exact .refl
  | findTickets head slot location disposition verdictPresent startAfter => exact .refl
  | setLine f =>
    simp only [serve, serveSetLine]
    split
    next out =>
      split
      · exact .refl
      · exact (BookStep.reline _ (installed_all_out.mp out)).booked.trans (arbitrate_booked _)
    next => exact .refl
  | writeRecipe slot block => exact serveWriteRecipe_booked slot block s
  | eraseRecipe slot =>
    simp only [serve, serveEraseRecipe]
    split
    · exact .refl
    next n _ =>
      split
      · exact .refl
      next unused => exact (BookStep.erase n (by simpa using unused)).booked
  | setHead head service k slot resetLearning =>
    simp only [serve, serveSetHead]
    split
    · exact .refl
    next h named =>
      split
      · exact .refl
      next f decoded =>
        split
        · exact .refl
        next passed => exact applyHeadFields_booked (headFieldsOf_range decoded) (installedHead_isInstalled named).2 passed
  | headReset head =>
    simp only [serve, serveHeadReset]
    split
    · exact .refl
    · exact resetHead_booked _ s
  | lineReset =>
    simp only [serve, serveLineReset]
    exact resetLine_booked s
  | abortFill head =>
    simp only [serve, serveAbortFill]
    split
    · exact abortAll_booked _ s
    · split
      · exact .refl
      · exact (forceToSnift_booked _ _ s).trans (arbitrate_booked _)
  | verdict tag level =>
    simp only [serve, serveVerdict]
    split
    · exact .refl
    · split
      · exact .refl
      · exact (retireMissed_quiet _ s).booked.trans (recordVerdict_booked _ _ _)
  | keep tag =>
    simp only [serve, serveKeep]
    split
    · exact .refl
    · split
      · exact .refl
      · split
        · exact .refl
        · split
          · exact (putTransit_quiet _ s).booked
          · exact .refl
  | retire tag =>
    simp only [serve, serveRetire]
    split
    · exact .refl
    · split
      · exact .refl
      · exact (putTransit_quiet _ s).booked
  | calibrate tag w force =>
    simp only [serve, serveCalibrate]
    split
    · exact .refl
    · split
      · exact .refl
      · split
        · exact .refl
        · split
          · exact .refl
          · split
            · exact .refl
            · exact ((divider_quiet _ s).trans (putTransit_quiet _ _)).booked
  | holdLearning hold =>
    simp only [serve, serveHoldLearning]
    split
    · exact .refl
    · exact BookStep.hold.booked
    · exact BookStep.unhold.booked
  | clearAttention target kinds =>
    simp only [serve, serveClearAttention]
    split
    · split
      · exact .refl
      · exact (changeGlobals_quiet _ s).booked
    · split
      · exact .refl
      · split
        · exact .refl
        · split
          · exact .refl
          · exact clearHead_booked kinds _ s
  | setMask kinds =>
    have masked : Quiet s { s with masks := kinds } := .of_same rfl rfl rfl rfl
    exact (masked.trans (judgeLine_quiet _)).booked

theorem replied_booked (kind : Byte) {s : State} {served : State × Reply} (e : Booked s served.1) : Booked s (replied kind served) :=
  e.trans (Quiet.of_same (s := served.1) (t := replied kind served) rfl rfl rfl rfl).booked

theorem link_quiet (l : Link) (s : State) : Quiet s { s with link := l } := .of_same rfl rfl rfl rfl

theorem serveNext_booked (s : State) : Booked s (serveNext s) := by
  have served (f : Frame) : Booked s (serveFrame f s) := by
    unfold serveFrame; split
    · exact replied_booked _ .refl
    · exact replied_booked _ (serve_booked _ s)
  unfold serveNext; split
  · exact .refl
  next f _ _ => exact (served f).trans (link_quiet _ _).booked

theorem takeByte_booked (b : Byte) (s : State) : Booked s (takeByte b s) := by
  unfold takeByte frameArrives
  simp only
  split
  · exact (link_quiet _ s).booked
  · split
    · split
      · exact ((link_quiet _ s).trans (link_quiet _ _)).booked.trans (serveNext_booked _)
      · exact ((link_quiet _ s).trans (link_quiet _ _)).booked
    · exact (link_quiet _ s).booked

/-! ## Pulses and tracker events -/

theorem Phase.filling_of_counting {p : Phase} (e : p.counting = true) : p.filling = true := by
  cases p <;> first | rfl | cases e

/-- A forced ending straight to SNIFT ends the fill (R98). -/
theorem forceToSnift_phase {r : Reason} {h : HeadId} {s : State} (filling : (s.phase h).filling = true) :
    (forceToSnift r h s).phase h = .snift := by
  rw [forceToSnift_filling filling, State.phase, works_seq (plant_works (doseEnd_plant h _) h), head_doseJudged]

theorem glitchPulse_moves {tk : Ticket} {h : HeadId} {s : State} (held : (s.head h).ticket = some tk)
    (filling : (s.phase h).filling = true) : Moves s (glitchPulse tk h s) := by
  unfold glitchPulse
  split
  next last =>
    have ended : Booked (countGlitch h s) (equipmentEnding .meterNoise .meterNoise h (countGlitch h s)) := equipmentEnding_booked _ _ h _
    refine (Relation.ReflTransGen.single (Move.lastGlitch h tk held last ended ?_)).trans (arbitrate_booked _).moves
    have phase : (raiseEquipment .meterNoise h (countGlitch h s)).phase h = s.phase h := by
      have plant : (raiseEquipment .meterNoise h (countGlitch h s)).plant = (countGlitch h s).plant :=
        (takeOut_plant h _).trans (changeCauses_plant h _ _)
      rw [State.phase, works_seq (plant_works plant h)]
      exact phase_modTicket _ h s
    rw [equipmentEnding, forceToSnift_phase (by rw [phase]; exact filling)]
    rfl
  next more => exact .single (.glitch h tk held filling more)

theorem countedPulse_booked {tk : Ticket} {h : HeadId} {s : State} (held : (s.head h).ticket = some tk)
    (filling : (s.phase h).filling = true) : Booked s (countedPulse tk h s) := by
  have counted := countPulse_quiet held
  unfold countedPulse
  split
  · exact counted.booked
  · exact (counted.trans (takeDoseCrossing_quiet _ (by rw [countPulse_phase]; exact filling))).booked.trans (arbitrate_booked _)

theorem meterPulse_moves (h : HeadId) (s : State) : Moves s (meterPulse h s) := by
  unfold meterPulse
  split
  next counting =>
    have filling := Phase.filling_of_counting counting
    split
    · exact .refl
    next tk held =>
      split
      · exact glitchPulse_moves held filling
      · exact (countedPulse_booked held filling).moves
  next => exact (stray_booked h s (fun n => min (n + 1) Config.strayMax) (Nat.min_le_right _ _)).moves

theorem tracker_quiet {k : Tracker} {s : State} (line : k.line = s.tracker.line) : Quiet s { s with tracker := k } :=
  .of_same rfl rfl rfl line

theorem crossingStep_moves (s : State) : Moves s (crossingStep s) :=
  (tracker_quiet (k := s.tracker.step) rfl).moves.trans (deliverCrossings_moves _)

theorem forwardStep_moves (s : State) : Moves s (forwardStep s) := by
  cases m : s.tracker.motion with
  | unreferenced => rw [forwardStep_unreferenced m]
  | tracking => rw [forwardStep_tracking m]; exact crossingStep_moves s
  | backing =>
    rw [forwardStep_backing m]
    refine (tracker_quiet ?_).moves
    unfold Tracker.payBack; split <;> rfl

theorem reverseStep_booked (s : State) : Booked s (reverseStep s) := by
  have aborted (u : State) : Booked u (reverseAbort u) := (changeGlobals_quiet _ u).booked.trans (abortAll_booked _ _)
  cases m : s.tracker.motion with
  | unreferenced => rw [reverseStep_unreferenced m]
  | tracking => rw [reverseStep_tracking m]; exact (tracker_quiet (k := s.tracker.turnBack) rfl).booked.trans (aborted _)
  | backing =>
    have back : Quiet s { s with tracker := s.tracker.goBack } := by
      refine tracker_quiet ?_
      unfold Tracker.goBack; split <;> rfl
    rw [reverseStep_backing m]
    split
    · exact back.booked.trans (aborted _)
    · exact back.booked

theorem referencingDischarge_booked (h : HeadId) (s : State) : Booked s (referencingDischarge h s) := by
  unfold referencingDischarge; simp only; split
  · exact dischargeCrossing_booked h s
  · exact .refl

theorem catchUp_moves : ∀ (k : Nat) (s : State), Moves s (catchUp k s)
  | 0, _ => .refl
  | k + 1, s => (crossingStep_moves s).trans (catchUp_moves k _)

theorem angleAbort_booked (k : Nat) (s : State) : Booked s (angleAbort k s) := by
  unfold angleAbort; split
  · exact abortAll_booked _ s
  · exact .refl

theorem mismatchedIndex_moves (s : State) : Moves s (mismatchedIndex s) := by
  have raised : Booked s (angleAbort (mismatch s.tracker.angle)
      (raiseAngleFault { s with tracker := { s.tracker with lastIndexError := indexError s.tracker.angle } })) :=
    ((tracker_quiet (s := s) (k := { s.tracker with lastIndexError := indexError s.tracker.angle }) rfl).trans
      (changeGlobals_quiet _ _)).booked.trans (angleAbort_booked _ _)
  unfold mismatchedIndex; simp only; split
  · exact raised.moves.trans (tracker_quiet (by rfl)).moves
  · exact raised.moves.trans (catchUp_moves _ _)

theorem indexEvent_moves (s : State) : Moves s (indexEvent s) := by
  cases m : s.tracker.motion with
  | unreferenced =>
    rw [indexEvent_unreferenced m]
    exact ((tracker_quiet (k := s.tracker.reference) rfl).booked.trans
      (forInstalled_booked referencingDischarge_booked _)).moves.trans (deliverCrossings_moves _)
  | tracking =>
    by_cases zero : s.tracker.angle = 0
    · rw [indexEvent_confirmed m zero]
    · rw [indexEvent_mismatched m zero]; exact mismatchedIndex_moves s
  | backing => rw [indexEvent_backing m]

/-! ## Commands -/

theorem takeExpiry_booked (n : TimerName) {act : HeadId → State → State} (ha : ∀ h s, Booked s (act h s)) (h : HeadId) (s : State) :
    Booked s (takeExpiry n act h s) := by
  unfold takeExpiry; split
  · exact (stopTimer_quiet n h s).booked.trans ((ha h _).trans (arbitrate_booked _))
  · exact .refl

theorem countedEdge_booked (h : HeadId) (s : State) : Booked s (countedEdge h s) := by
  unfold countedEdge; split
  · exact (equalize_quiet h s).booked.trans (arbitrate_booked _)
  · exact (equalize_quiet h s).booked

theorem execPowerOn_booked {t : Time} {s u : State} (e : execPowerOn t s = .next u) : Booked s u := by
  cases e
  refine .single (.restart (fun h => ⟨(s.head h).presence, (s.head h).pressureEqual, ?_⟩) (fun n => ?_) rfl rfl)
  · exact Vector.getElem_map (xs := s.heads) _ h.isLt
  · exact slot_reset n

/-- Every command is a chain of changes of the books, fills opened and glitches counted. -/
theorem exec_moves {c : Instr} {s u : State} (e : exec c s = .next u) : Moves s u := by
  have now (t : Time) : Quiet s (s.advance t) := advance_quiet s t
  have request (r : Request) (t : Time) (e : exec (requestCommand t r) s = .next u) : Moves s u := by
    rw [exec_requestCommand] at e
    cases e
    exact ((now t).booked.trans (replied_booked _ (serve_booked r _))).moves
  have expiry (n : TimerName) {act : HeadId → State → State} (ha : ∀ h s, Booked s (act h s)) (t : Time) (h : HeadId) :
      Moves s (takeExpiry n act h (s.advance t)) := ((now t).booked.trans (takeExpiry_booked n ha h _)).moves
  have encoder (t : Time) (x : Encoder) : Quiet s { s.advance t with encoder := x } := .of_same rfl rfl rfl rfl
  cases c with
  | powerOn t => exact (execPowerOn_booked e).moves
  | forwardStep t => cases e; exact (encoder t _).moves.trans (forwardStep_moves _)
  | reverseStep t => cases e; exact ((encoder t _).booked.trans (reverseStep_booked _)).moves
  | directionlessChange t => cases e; exact (encoder t _).moves
  | indexEvent t => cases e; exact (now t).moves.trans (indexEvent_moves _)
  | meterPulse t h =>
    cases e
    split
    · exact (now t).moves.trans (meterPulse_moves h _)
    · exact (now t).moves
  | presenceEdge t h level => cases e; exact ((now t).trans (modHead_quiet rfl fun tk e => ⟨tk, e, rfl, id⟩)).moves
  | pressureEqualEdge t h level =>
    have leveled : Quiet s (modHead h (fun x => { x with pressureEqual := level }) (s.advance t)) :=
      (now t).trans (modHead_quiet rfl fun tk e => ⟨tk, e, rfl, id⟩)
    cases e
    split
    · exact (leveled.booked.trans (countedEdge_booked h _)).moves
    · exact leveled.moves
  | equalizeExpiry t h => cases e; exact expiry _ (forceToSnift_booked _) t h
  | startFlowExpiry t h => cases e; exact expiry _ (fun h s => (forceToSettle_quiet _ h s).booked) t h
  | stallExpiry t h => cases e; exact expiry _ (fun h s => (forceToSettle_quiet _ h s).booked) t h
  | flowStillExpiry t h => cases e; exact expiry _ flowStill_booked t h
  | settleLimitExpiry t h => cases e; exact expiry _ (equipmentEnding_booked _ _) t h
  | sniftExpiry t h => cases e; exact expiry _ (fun h s => (sniftDone_quiet h s).booked) t h
  | boostCompletion t i =>
    simp only [exec, execBoostCompletion] at e
    split at e
    · cases e; exact (now t).moves
    · cases e
      split
      · exact (((now t).trans (completeBoost_quiet _ _ _)).booked.trans (arbitrate_booked _)).moves
      · exact (now t).moves
  | dwellEnd t h p =>
    simp only [exec, execDwellEnd] at e
    split at e
    · cases e; exact (now t).moves
    · cases e
      split
      · exact (((now t).trans (modPilots_quiet h _ _)).booked.trans (arbitrate_booked _)).moves
      · exact (now t).moves
  | divisionCompletion t =>
    simp only [exec, execDivisionCompletion] at e
    split at e
    · cases e; exact (now t).moves
    · cases e; exact ((now t).booked.trans (completeDivision_booked _ _)).moves
  | byteReceived t b => cases e; exact ((now t).booked.trans (takeByte_booked b _)).moves
  | interbyteGap t =>
    cases e
    split
    · exact ((now t).trans (link_quiet _ _)).moves
    · exact (now t).moves
  | answerEnd t =>
    cases e
    split
    · exact (((now t).trans (link_quiet _ _)).booked.trans (serveNext_booked _)).moves
    · exact (now t).moves
  | malformed t kind body =>
    cases e
    split
    · exact ((now t).booked.trans (replied_booked _ .refl)).moves
    · exact (now t).moves
  | readStatus t => exact request .readStatus t e
  | readHead t head => exact request (.readHead head) t e
  | readRecipe t slot => exact request (.readRecipe slot) t e
  | readTicket t selector number => exact request (.readTicket selector number) t e
  | findTickets t head slot location disposition verdictPresent startAfter =>
    exact request (.findTickets head slot location disposition verdictPresent startAfter) t e
  | setLine t fields => exact request (.setLine fields) t e
  | writeRecipe t slot block => exact request (.writeRecipe slot block) t e
  | eraseRecipe t slot => exact request (.eraseRecipe slot) t e
  | setHead t head service k slot resetLearning => exact request (.setHead head service k slot resetLearning) t e
  | headReset t head => exact request (.headReset head) t e
  | lineReset t => exact request .lineReset t e
  | abortFill t head => exact request (.abortFill head) t e
  | verdict t tag level => exact request (.verdict tag level) t e
  | keep t tag => exact request (.keep tag) t e
  | retire t tag => exact request (.retire tag) t e
  | calibrate t tag w force => exact request (.calibrate tag w force) t e
  | holdLearning t hold => exact request (.holdLearning hold) t e
  | clearAttention t target kinds => exact request (.clearAttention target kinds) t e
  | setMask t kinds => exact request (.setMask kinds) t e

/-- What every change keeps, every step keeps. -/
theorem keptByStep_of_moves {P : State → Prop} (quiet : ∀ s t, Quiet s t → P s → P t) (move : ∀ s t, Move s t → P s → P t) :
    KeptByStep P := by
  have moves {s t : State} (e : Moves s t) (hs : P s) : P t := by
    induction e with
    | refl => exact hs
    | tail _ last ih => exact move _ _ last ih
  intro s u hs e
  unfold step at e
  split at e
  · cases e; exact hs
  next c rest _ => exact moves (exec_moves e) (quiet s _ (.of_same rfl rfl rfl rfl) hs)

end Sys2Proof.Machine
end

section
/-! SUPPORT. What every step keeps of the books, reduced to their changes; the ranges of the record's items (R38, R50, R55, R62) and the learning
hold (R148). -/

namespace Sys2Proof.Machine

/-! ## Invariants of the books -/

/-- The two states have the same books. -/
structure SameBooks (s t : State) : Prop where
  record : ∀ j, (t.head j).record = (s.head j).record
  slots : t.slots = s.slots
  hold : t.learningHold = s.learningHold
  line : t.tracker.line = s.tracker.line

theorem Quiet.sameBooks {s t : State} (e : Quiet s t) : SameBooks s t := ⟨e.record, e.slots, e.hold, e.line⟩

theorem countGlitch_sameBooks (h : HeadId) (s : State) : SameBooks s (countGlitch h s) := by
  refine ⟨fun j => ?_, rfl, rfl, rfl⟩
  by_cases e : j = h
  · subst e; rw [countGlitch, modTicket, head_modHead_self]
  · rw [countGlitch, modTicket, head_modHead_ne e]

/-- A fill that begins notes in the record that the presence sensor has not released since, and draws a ticket without a glitch (R62, R80). -/
theorem seat_cases (h : HeadId) (s : State) : seat h s = s ∨ ∃ tk q, tk.glitches = 0 ∧ seat h s = putTagCounter (s.nextTag + 1)
    (setHead h { s.head h with
      record := { (s.head h).record with presenceReleased := false }, seq := q, ticket := some tk } s) := by
  unfold seat
  split
  next n rev _ _ => exact .inr ⟨newTicket s.nextTag h n (s.head h).record rev, _, rfl, rfl⟩
  next => exact .inl rfl

theorem seat_sameBooks (h : HeadId) (s : State) :
    ∃ b, SameBooks (modRecord h (fun r => { r with presenceReleased := b }) s) (seat h s) := by
  have record (b : Bool) (j : HeadId) : ((modRecord h (fun r => { r with presenceReleased := b }) s).head j).record =
      if j = h then { (s.head h).record with presenceReleased := b } else (s.head j).record := by
    by_cases e : j = h
    · subst e; rw [head_modRecord, if_pos rfl]
    · rw [head_modRecord_ne e, if_neg e]
  obtain stays | ⟨tk, q, -, seated⟩ := seat_cases h s
  · refine ⟨(s.head h).record.presenceReleased, fun j => ?_, ?_, ?_, ?_⟩ <;> rw [stays]
    · rw [record]; split <;> simp_all
    all_goals rfl
  · refine ⟨false, fun j => ?_, ?_, ?_, ?_⟩ <;> rw [seated]
    · rw [record, head_putTagCounter, head_setHead]; split <;> rfl
    all_goals rfl

/-- An invariant of the books that every change of the books keeps, every step keeps. -/
theorem keptByStep_of_books {P : State → Prop} (same : ∀ {s t}, SameBooks s t → P s → P t) (step : ∀ {s t}, BookStep s t → P s → P t) :
    KeptByStep P := by
  refine keptByStep_of_moves (fun s t q => same q.sameBooks) fun s t move hs => ?_
  cases move with
  | book e => exact step e hs
  | seat h =>
    obtain ⟨b, books⟩ := seat_sameBooks h s
    exact same books (step (.own h _ (.of_notes _ _ _ _ _ _ _ fun ⟨_, _, range⟩ => range)) hs)
  | glitch h tk _ _ _ => exact same (countGlitch_sameBooks h s) hs
  | lastGlitch h tk _ _ ended _ => exact ended.keeps (fun _ _ => step) (same (countGlitch_sameBooks h s) hs)

/-! ## Tame changes of a record -/

/-- The change leaves the ranges, and brings nothing pending. -/
structure Tame (r r' : HeadRecord) : Prop where
  range : r.InRange → r'.InRange
  nothing : r.NothingPending → r'.NothingPending

theorem Tame.refl (r : HeadRecord) : Tame r r := ⟨id, id⟩

theorem Tame.trans {r r' r'' : HeadRecord} (a : Tame r r') (b : Tame r' r'') : Tame r r'' :=
  ⟨fun f => b.range (a.range f), fun f => b.nothing (a.nothing f)⟩

theorem Tame.of_eq {r r' : HeadRecord} (e : r' = r) : Tame r r' := e ▸ .refl r

theorem alignRecord_tame (rev : Revision) (r : HeadRecord) : Tame r (alignRecord rev r) where
  range := id
  nothing f := by obtain ⟨a, t⟩ := f; simp [HeadRecord.NothingPending, alignRecord, a, t]

/-- The power-on record lies in the ranges and holds nothing pending. -/
theorem tame_powerOn (r : HeadRecord) : Tame r .powerOn := by
  refine ⟨fun _ => ⟨by decide, nofun, ?_⟩, fun _ => ⟨rfl, rfl⟩⟩
  simp [HeadRecord.powerOn]

theorem Head.promoted_tame (n : SlotId) (rev : Revision) (x : Head) : Tame x.record (x.promoted n rev).record := by
  unfold Head.promoted
  split
  · exact .refl _
  · split
    · exact ⟨id, id⟩
    · exact alignRecord_tame rev x.record

/-- Every head's record has changed tamely. -/
def AllTame (s t : State) : Prop := ∀ j, Tame (s.head j).record (t.head j).record

theorem AllTame.refl (s : State) : AllTame s s := fun _ => .refl _
theorem AllTame.trans {s t u : State} (a : AllTame s t) (b : AllTame t u) : AllTame s u := fun j => (a j).trans (b j)

theorem modRecord_tame {h : HeadId} {f : HeadRecord → HeadRecord} {s : State} (tame : Tame (s.head h).record (f (s.head h).record)) :
    AllTame s (modRecord h f s) := by
  intro j
  by_cases e : j = h
  · subst e; rw [head_modRecord]; exact tame
  · rw [head_modRecord_ne e]; exact .refl _

theorem mapHeads_tame {f : Head → Head} (tame : ∀ x, Tame x.record (f x).record) (s : State) : AllTame s (mapHeads f s) := by
  intro j
  rw [head_mapHeads]
  exact tame _

theorem leaveCounts_tame (n : SlotId) (had : Bool) (s : State) : AllTame s (leaveCounts n had s) := by
  intro j
  obtain ⟨-, -, heads⟩ | ⟨rev, -, -, -, heads⟩ := leaveCounts_cases n had s
  · rw [heads]; exact .refl _
  · rw [heads]; exact Head.promoted_tame n rev _

theorem alignHead_tame (h : HeadId) (s : State) : AllTame s (alignHead h s) := by
  unfold alignHead; split
  · exact .refl s
  · split
    · exact .refl s
    · exact modRecord_tame (alignRecord_tame _ _)

theorem becomeOut_tame (h : HeadId) (s : State) : AllTame s (becomeOut h s) := by
  have marked : AllTame s (markOut h s) := modRecord_tame ⟨id, id⟩
  cases slot : (s.head h).record.slot with
  | none => rw [becomeOut_noSlot slot]; exact marked
  | some n => rw [becomeOut_eq slot]; exact (marked.trans (leaveCounts_tame n _ _)).trans (alignHead_tame h _)

theorem becomeJoining_tame (h : HeadId) (s : State) : AllTame s (becomeJoining h s) := by
  have joined : AllTame s (modRecord h (fun r => { r with service := .joining, usesPending := false }) s) := modRecord_tame ⟨id, id⟩
  unfold becomeJoining; simp only; split
  · exact joined
  · exact joined

theorem moveCounts_tame (h : HeadId) (n : SlotId) (s : State) : AllTame s (moveCounts h n s) := by
  have left : AllTame s (leaveOld h s) := by
    unfold leaveOld; split
    · exact .refl s
    · exact leaveCounts_tame _ _ s
  by_cases stays : (s.head h).record.service = .out ∨ (s.head h).record.slot = some n
  · rw [moveCounts_stays stays]; exact .refl s
  · obtain ⟨member, other⟩ := not_or.mp stays
    rw [moveCounts_moves member other]
    have joined : AllTame (leaveOld h s) (modSlot n Slot.joinedAtCommit (leaveOld h s)) := fun _ => .refl _
    exact (left.trans joined).trans (modRecord_tame ⟨id, id⟩)

theorem commitSlot_tame (h : HeadId) (s : State) : AllTame s (commitSlot h s) := by
  cases staged : (s.head h).record.pendingSlot with
  | none => rw [commitSlot_none staged]; exact .refl s
  | some n =>
    have taken : AllTame s (slotTaken h n s) := (moveCounts_tame h n s).trans (modRecord_tame ⟨id, id⟩)
    rw [commitSlot_some staged]
    refine taken.trans (modRecord_tame ⟨fun f => ?_, id⟩)
    obtain ⟨k, stagedK, -, -, rest⟩ := f
    exact ⟨k, stagedK, by simp [HeadRecord.restarted], by simp [HeadRecord.restarted], rest⟩

theorem commitAdopt_cases (h : HeadId) (s : State) : commitAdopt h s = s ∨ ∃ n rev, (s.head h).record.slot = some n ∧
    (s.slot n).pending = some rev ∧ (s.head h).record.service ≠ .out ∧ (s.head h).record.usesPending = false ∧
    commitAdopt h s = promoteIfDone n (adopted h n rev s) := by
  by_cases out : (s.head h).record.service = .out
  · exact .inl (commitAdopt_stays (.inl out))
  cases uses : (s.head h).record.usesPending with
  | true => exact .inl (commitAdopt_stays (.inr (.inl uses)))
  | false =>
    cases slot : (s.head h).record.slot with
    | none => exact .inl (commitAdopt_stays (.inr (.inr fun n e => by rw [slot] at e; cases e)))
    | some n =>
      cases pending : (s.slot n).pending with
      | none => exact .inl (commitAdopt_stays (.inr (.inr fun m e => by rw [slot] at e; cases e; exact pending)))
      | some rev => exact .inr ⟨n, rev, rfl, pending, out, rfl, commitAdopt_adopts slot pending out uses⟩

theorem commitAdopt_tame (h : HeadId) (s : State) : AllTame s (commitAdopt h s) := by
  have promoted (n : SlotId) (u : State) : AllTame u (promoteIfDone n u) := by
    intro j
    unfold promoteIfDone
    split
    next done =>
      obtain ⟨rev, pending⟩ := Option.isSome_iff_exists.mp done.1
      rw [head_promote pending]; exact Head.promoted_tame n rev _
    next => exact .refl _
  obtain stays | ⟨n, rev, -, -, -, -, adopts⟩ := commitAdopt_cases h s
  · rw [stays]; exact .refl s
  · have adopted : AllTame s (adopted h n rev s) := by
      have taken : AllTame s (modRecord h (HeadRecord.adopting rev) s) := modRecord_tame ⟨id, id⟩
      exact taken.trans (t := modRecord h (HeadRecord.adopting rev) s) fun _ => .refl _
    rw [adopts]
    exact adopted.trans (promoted n _)

theorem commitAdopt_allTables (h : HeadId) (s : State) : TablesOnly s (commitAdopt h s) := by
  obtain stays | ⟨n, rev, slot, pending, member, uses, -⟩ := commitAdopt_cases h s
  · rw [stays]; exact .refl s
  · exact commitAdopt_tablesOnly slot pending member uses

theorem resetLearning_tame (rev : Option Revision) (r : HeadRecord) : Tame r (resetLearning rev r) :=
  ⟨fun ⟨k, staged, _, _, rest⟩ => ⟨k, staged, by simp [resetLearning], by simp [resetLearning], rest⟩, fun _ => ⟨rfl, rfl⟩⟩

theorem writeSlot_tame (sl : Option SlotId) (h : HeadId) (s : State) : AllTame s (writeSlot sl h s) :=
  modRecord_tame (Tame.trans (resetLearning_tame (sl.bind fun n => (s.slot n).current) _) ⟨id, id⟩)

theorem alignOut_tame (n : SlotId) (rev : Revision) (s : State) : AllTame s (alignOut n rev s) := by
  refine mapHeads_tame (fun x => ?_) s
  split
  · exact alignRecord_tame rev x.record
  · exact .refl _

theorem relined_tame (l : LineSetup) (s : State) : AllTame s (relined l s) := by
  intro j
  rw [head_relined]
  split
  · exact tame_powerOn _
  · exact .refl _

theorem dropPending_tame (s : State) : AllTame s (dropPending s) := by
  intro j
  rw [dropPending, head_mapHeads]
  exact ⟨id, fun _ => ⟨rfl, rfl⟩⟩

/-! ## The ranges (R38, R50, R55) -/

theorem BookStep.inRange {s t : State} (e : BookStep s t) (hs : ∀ j, (s.head j).record.InRange) (j : HeadId) : (t.head j).record.InRange := by
  have tame {u : State} (a : AllTame s u) : (u.head j).record.InRange := (a j).range (hs j)
  cases e with
  | quiet q => rw [q.record]; exact hs j
  | own h f own =>
    by_cases same : j = h
    · subst same; rw [head_modRecord]; exact own.range (hs j)
    · rw [head_modRecord_ne same]; exact hs j
  | leave h _ => exact tame (becomeOut_tame h s)
  | join h n _ _ _ _ => exact tame (becomeJoining_tame h s)
  | takeSlot h _ => exact tame (commitSlot_tame h s)
  | adopt h _ => exact tame (commitAdopt_tame h s)
  | assign h sl _ _ => exact tame (writeSlot_tame sl h s)
  | current n rev _ _ => exact tame (AllTame.trans (fun _ => .refl _) (alignOut_tame n rev _))
  | pending n rev _ _ _ _ => exact hs j
  | erase n _ => exact hs j
  | hold => exact tame (dropPending_tame s)
  | unhold => exact hs j
  | reline l _ => exact tame (relined_tame l s)
  | restart heads _ _ _ =>
    obtain ⟨presence, pressure, e⟩ := heads j
    rw [e]; exact (tame_powerOn _).range (hs j)

theorem Booked.inRange {s t : State} (e : Booked s t) (hs : ∀ j, (s.head j).record.InRange) : ∀ j, (t.head j).record.InRange :=
  e.keeps (fun _ _ e hs => e.inRange hs) hs

/-! ## The glitch count (R62, R81) -/

/-- A ticket's glitch count is at most 16, and below 16 while its fill is under way. -/
def Head.GlitchesInRange (x : Head) : Prop := ∀ tk, x.ticket = some tk →
  tk.glitches ≤ Config.glitchLimit ∧ (x.seq.phase.filling = true → tk.glitches < Config.glitchLimit)

theorem FillKept.glitchesInRange {x y : Head} (e : FillKept x y) (hx : x.GlitchesInRange) : y.GlitchesInRange := by
  intro tk' held'
  obtain ⟨tk, held, same, phase⟩ := e tk' held'
  obtain ⟨most, below⟩ := hx tk held
  rw [same]
  exact ⟨most, fun f => below (phase f)⟩

theorem recordsInRange_iff {s : State} : RecordsInRange s ↔ (∀ h, (s.head h).record.InRange) ∧ ∀ h, (s.head h).GlitchesInRange := by
  refine ⟨fun f => ⟨fun h => ?_, fun h => ?_⟩, fun ⟨f, g⟩ h => ?_⟩
  · obtain ⟨k, staged, lo, hi, faults, stray, -⟩ := f h
    exact ⟨k, staged, lo, hi, faults, stray⟩
  · obtain ⟨-, -, -, -, -, -, glitches⟩ := f h
    exact glitches
  · obtain ⟨k, staged, lo, hi, faults, stray⟩ := f h
    exact ⟨k, staged, lo, hi, faults, stray, g h⟩

theorem Booked.recordsInRange {s t : State} (e : Booked s t) (hs : RecordsInRange s) : RecordsInRange t := by
  obtain ⟨records, glitches⟩ := recordsInRange_iff.mp hs
  exact recordsInRange_iff.mpr ⟨e.inRange records, fun h => (e.fillKept h).glitchesInRange (glitches h)⟩

theorem countGlitch_inRange {h : HeadId} {s : State} (hs : RecordsInRange s) (j : HeadId) : ((countGlitch h s).head j).record.InRange := by
  rw [(countGlitch_sameBooks h s).record]
  exact (recordsInRange_iff.mp hs).1 j

theorem seat_recordsInRange {h : HeadId} {s : State} (hs : RecordsInRange s) : RecordsInRange (seat h s) := by
  obtain ⟨records, glitches⟩ := recordsInRange_iff.mp hs
  refine recordsInRange_iff.mpr ⟨fun j => ?_, fun j => ?_⟩
  · obtain ⟨b, books⟩ := seat_sameBooks h s
    rw [books.record]
    exact (modRecord_tame (f := fun r => { r with presenceReleased := b }) ⟨id, id⟩ j).range (records j)
  · obtain stays | ⟨tk, q, none, seated⟩ := seat_cases h s
    · rw [stays]; exact glitches j
    · rw [seated, head_putTagCounter, head_setHead]
      split
      · intro tk' held
        cases held
        rw [none]
        exact ⟨by decide, fun _ => by decide⟩
      · exact glitches j

theorem countGlitch_recordsInRange {h : HeadId} {tk : Ticket} {s : State} (held : (s.head h).ticket = some tk)
    (filling : (s.phase h).filling = true) (more : tk.glitches + 1 ≠ Config.glitchLimit) (hs : RecordsInRange s) :
    RecordsInRange (countGlitch h s) := by
  refine recordsInRange_iff.mpr ⟨countGlitch_inRange hs, fun j tk' held' => ?_⟩
  by_cases e : j = h
  · subst e
    have below := ((recordsInRange_iff.mp hs).2 j tk held).2 filling
    rw [countGlitch, modTicket, head_modHead_self, held] at held'
    cases held'
    have : tk.glitches + 1 < Config.glitchLimit := by omega
    exact ⟨this.le, fun _ => this⟩
  · rw [countGlitch, modTicket, head_modHead_ne e] at held' ⊢
    exact (recordsInRange_iff.mp hs).2 j tk' held'

/-- The sixteenth glitch ends the fill it is counted on. -/
theorem lastGlitch_recordsInRange {h : HeadId} {tk : Ticket} {s t : State} (held : (s.head h).ticket = some tk)
    (last : tk.glitches + 1 = Config.glitchLimit) (ended : Booked (countGlitch h s) t) (ceased : (t.phase h).filling = false)
    (hs : RecordsInRange s) : RecordsInRange t := by
  refine recordsInRange_iff.mpr ⟨ended.inRange (countGlitch_inRange hs), fun j tk' held' => ?_⟩
  obtain ⟨tk'', counted, same, phase⟩ := ended.fillKept j tk' held'
  rw [same]
  by_cases e : j = h
  · subst e
    rw [countGlitch, modTicket, head_modHead_self, held] at counted
    cases counted
    refine ⟨last.le, fun f => ?_⟩
    rw [State.phase] at ceased
    rw [ceased] at f; cases f
  · rw [countGlitch, modTicket, head_modHead_ne e] at counted phase
    obtain ⟨most, below⟩ := (recordsInRange_iff.mp hs).2 j tk'' counted
    exact ⟨most, fun f => below (phase f)⟩

theorem recordsInRange_kept : KeptByStep RecordsInRange := by
  have book {s t : State} (e : BookStep s t) (hs : RecordsInRange s) : RecordsInRange t := e.booked.recordsInRange hs
  refine keptByStep_of_moves (fun s t q => book (.quiet q)) fun s t move hs => ?_
  cases move with
  | book e => exact book e hs
  | seat h => exact seat_recordsInRange hs
  | glitch h tk held filling more => exact countGlitch_recordsInRange held filling more hs
  | lastGlitch h tk held last ended ceased => exact lastGlitch_recordsInRange held last ended ceased hs

/-! ## The learning hold (R148) -/

theorem BookStep.holdDropsPending {s t : State} (e : BookStep s t) (hs : HoldDropsPending s) : HoldDropsPending t := by
  intro on j
  have tame {u : State} (a : AllTame s u) (hold : u.learningHold = s.learningHold) (on : u.learningHold = true) :
      (u.head j).record.NothingPending := (a j).nothing (hs (hold ▸ on) j)
  have tables {u : State} (a : AllTame s u) (only : TablesOnly s u) (on : u.learningHold = true) : (u.head j).record.NothingPending :=
    tame a (by rw [only]) on
  cases e with
  | quiet q => rw [q.record]; exact hs (q.hold ▸ on) j
  | own h f own =>
    by_cases same : j = h
    · subst same; rw [head_modRecord]; exact own.hold on (hs on j)
    · rw [head_modRecord_ne same]; exact hs on j
  | leave h _ => exact tables (becomeOut_tame h s) (becomeOut_tablesOnly h s) on
  | join h n _ _ slot _ => exact tables (becomeJoining_tame h s) (by rw [becomeJoining_eq slot]; rfl) on
  | takeSlot h nothing =>
    cases staged : (s.head h).record.pendingSlot with
    | none => rw [commitSlot_none staged] at on ⊢; exact hs on j
    | some n => exact tables (commitSlot_tame h s) (commitSlot_tablesOnly staged) on
  | adopt h nothing => exact tables (commitAdopt_tame h s) (commitAdopt_allTables h s) on
  | assign h sl _ _ => exact tame (writeSlot_tame sl h s) rfl on
  | current n rev _ _ => exact tame (AllTame.trans (fun _ => .refl _) (alignOut_tame n rev _)) rfl on
  | pending n rev _ _ _ _ => exact hs on j
  | erase n _ => exact hs on j
  | hold =>
    have dropped : ((dropPending s).head j).record.NothingPending := by rw [dropPending, head_mapHeads]; exact ⟨rfl, rfl⟩
    exact dropped
  | unhold => cases on
  | reline l _ => exact tame (relined_tame l s) (by rw [relined_eq]; rfl) on
  | restart _ _ off _ => rw [off] at on; cases on

theorem holdDropsPending_kept : KeptByStep HoldDropsPending :=
  keptByStep_of_books (fun e hs on j => by rw [e.record]; exact hs (e.hold ▸ on) j) fun e => e.holdDropsPending

end Sys2Proof.Machine
end

section
/-! SUPPORT. The counts of a slot agree with its members (R18, R19, R20), a departure and its promotion taken one after the other. -/

namespace Sys2Proof.Machine

/-! ## Counting heads -/

/-- How many heads satisfy the predicate. -/
def tally (p : HeadId → Bool) : Nat := ((List.finRange 96).filter p).length

theorem tally_none {p : HeadId → Bool} (none : ∀ j, p j = false) : tally p = 0 := by
  simp [tally, none]

/-- A head is counted apart from the others. -/
theorem tally_but (p : HeadId → Bool) (h : HeadId) : tally p = tally (fun j => decide (j ≠ h) && p j) + (p h).toNat := by
  have perm : (List.finRange 96).Perm (h :: (List.finRange 96).erase h) := List.perm_cons_erase (List.mem_finRange h)
  have others : ((List.finRange 96).erase h).countP p = ((List.finRange 96).erase h).countP (fun j => decide (j ≠ h) && p j) := by
    refine List.countP_congr fun j mem => ?_
    have : j ≠ h := ((List.nodup_finRange 96).mem_erase_iff.mp mem).1
    simp [this]
  simp only [tally, ← List.countP_eq_length_filter]
  rw [perm.countP_eq, perm.countP_eq, List.countP_cons, List.countP_cons, others]
  cases p h <;> simp

/-- Where one predicate implies another and no more heads satisfy the second, both say the same. -/
theorem tally_eq_imp {p q : HeadId → Bool} (sub : ∀ j, p j = true → q j = true) (e : tally p = tally q) (j : HeadId) : p j = q j := by
  have rest : tally (fun i => decide (i ≠ j) && p i) ≤ tally (fun i => decide (i ≠ j) && q i) := by
    simp only [tally, ← List.countP_eq_length_filter]
    refine List.countP_mono_left fun i _ both => ?_
    obtain ⟨ne, sat⟩ := (Bool.and_eq_true _ _).mp both
    exact (Bool.and_eq_true _ _).mpr ⟨ne, sub i sat⟩
  rw [tally_but p j, tally_but q j] at e
  cases hp : p j with
  | true => exact (sub j hp).symm
  | false =>
    cases hq : q j with
    | false => rfl
    | true => rw [hp, hq] at e; exact absurd e (Nat.ne_of_lt (Nat.lt_succ_of_le rest))

/-! ## A slot's counts -/

/-- The slot counts `m` members and `a` adopters; the last other may have gone, the promotion still to come (R33, R34). -/
def Slot.CountedOpen (sl : Slot) (m a : Nat) : Prop :=
  sl.members = m ∧ (0 < m → sl.current.isSome = true) ∧ (sl.pending.isSome = true → sl.adopted = a ∧ sl.unadopted + a = m) ∧
  (sl.pending = none → sl.adopted = 0 ∧ sl.unadopted = 0 ∧ a = 0)

/-- The slot counts `m` members and `a` adopters, and with a pending revision some other is left (R18, R19, R20). -/
def Slot.Counted (sl : Slot) (m a : Nat) : Prop := sl.CountedOpen m a ∧ (sl.pending.isSome = true → 0 < sl.unadopted)

namespace Slot
variable {sl : Slot} {m a : Nat} {rev : Revision}

theorem Counted.left {had : Bool} (c : sl.Counted (m + 1) (a + had.toNat)) : (sl.left had).CountedOpen m a := by
  obtain ⟨⟨members, current, pending, none⟩, others⟩ := c
  refine ⟨by simp [Slot.left, members], fun _ => current (Nat.succ_pos m), fun e => ?_, fun e => ?_⟩
  · have present : sl.pending.isSome = true := e
    obtain ⟨adopted, sum⟩ := pending present
    have some := others present
    cases had
    · simp [Slot.left, present] at adopted sum ⊢; omega
    · simp [Slot.left, present] at adopted sum ⊢; omega
  · have e : sl.pending = Option.none := e
    obtain ⟨adopted, unadopted, zero⟩ := none e
    simp [Slot.left, e, adopted, unadopted]; omega

theorem CountedOpen.counted (c : sl.CountedOpen m a) (stays : sl.pending = none ∨ sl.unadopted ≠ 0) : sl.Counted m a := by
  refine ⟨c, fun e => ?_⟩
  obtain none | some := stays
  · rw [none] at e; cases e
  · omega

/-- A promotion leaves the members, and no adopters (R34). -/
theorem CountedOpen.promoted (c : sl.CountedOpen m a) : (sl.promoted rev).Counted m 0 :=
  ⟨⟨c.1, fun _ => rfl, nofun, fun _ => ⟨rfl, rfl, rfl⟩⟩, nofun⟩

/-- A slot that an OUT head joins (R27). -/
def joined (sl : Slot) : Slot :=
  { sl with members := sl.members + 1, unadopted := if sl.pending.isSome then sl.unadopted + 1 else sl.unadopted }

theorem Counted.joined (c : sl.Counted m a) (some : sl.current.isSome = true) : sl.joined.Counted (m + 1) a := by
  obtain ⟨⟨members, -, pending, none⟩, others⟩ := c
  refine ⟨⟨congrArg (· + 1) members, fun _ => some, fun e => ?_, fun e => ?_⟩, fun e => ?_⟩
  · obtain ⟨adopted, sum⟩ := pending e
    have e : sl.pending.isSome = true := e
    simp [Slot.joined, e, adopted]; omega
  · have e : sl.pending = Option.none := e
    simpa [Slot.joined, e] using none e
  · have e : sl.pending.isSome = true := e
    simp [Slot.joined, e]

theorem Counted.joinedAtCommit (c : sl.Counted m a) (some : sl.current.isSome = true) :
    sl.joinedAtCommit.Counted (m + 1) (a + sl.pending.isSome.toNat) := by
  obtain ⟨⟨members, -, pending, none⟩, others⟩ := c
  refine ⟨⟨congrArg (· + 1) members, fun _ => some, fun e => ?_, fun e => ?_⟩, others⟩
  · obtain ⟨adopted, sum⟩ := pending e
    have e : sl.pending.isSome = true := e
    simp [Slot.joinedAtCommit, e, adopted]; omega
  · have e : sl.pending = Option.none := e
    simpa [Slot.joinedAtCommit, e] using none e

theorem Counted.adoptedByOne (c : sl.Counted m a) (some : sl.pending.isSome = true) : sl.adoptedByOne.CountedOpen m (a + 1) := by
  obtain ⟨⟨members, current, pending, none⟩, others⟩ := c
  obtain ⟨adopted, sum⟩ := pending some
  have other := others some
  refine ⟨members, current, fun _ => ?_, fun e => ?_⟩
  · simp [Slot.adoptedByOne, adopted]; omega
  · rw [show sl.pending = Option.none from e] at some; cases some

end Slot

/-! ## Members among some heads -/

/-- The slot's members among the heads that `q` picks. -/
def State.membersIn (s : State) (q : HeadId → Bool) (n : SlotId) : Nat := tally fun j => q j && s.memberOf n j
/-- The slot's adopters among them. -/
def State.adoptersIn (s : State) (q : HeadId → Bool) (n : SlotId) : Nat := tally fun j => q j && s.adopterOf n j

/-- Every slot's counts agree with the heads that `q` picks. -/
def CountedIn (q : HeadId → Bool) (s : State) : Prop := ∀ n, (s.slot n).Counted (s.membersIn q n) (s.adoptersIn q n)

/-- Every head. -/
def anyHead : HeadId → Bool := fun _ => true
/-- Every head but one. -/
def allBut (h : HeadId) : HeadId → Bool := fun j => decide (j ≠ h)

theorem allBut_ne {h j : HeadId} (e : allBut h j = true) : j ≠ h := of_decide_eq_true e

section
variable {s t : State} {q : HeadId → Bool} {n : SlotId}

theorem membersIn_congr (e : ∀ j, q j = true → t.memberOf n j = s.memberOf n j) : t.membersIn q n = s.membersIn q n := by
  refine congrArg tally (funext fun j => ?_)
  cases picked : q j with
  | false => rfl
  | true => rw [e j picked]

theorem adoptersIn_congr (e : ∀ j, q j = true → t.adopterOf n j = s.adopterOf n j) : t.adoptersIn q n = s.adoptersIn q n := by
  refine congrArg tally (funext fun j => ?_)
  cases picked : q j with
  | false => rfl
  | true => rw [e j picked]

theorem adoptersIn_none (e : ∀ j, q j = true → s.adopterOf n j = false) : s.adoptersIn q n = 0 := by
  refine tally_none fun j => ?_
  cases picked : q j with
  | false => rfl
  | true => rw [e j picked]; rfl

theorem membersIn_anyHead (s : State) (h : HeadId) (n : SlotId) :
    s.membersIn anyHead n = s.membersIn (allBut h) n + (s.memberOf n h).toNat := tally_but _ h
theorem adoptersIn_anyHead (s : State) (h : HeadId) (n : SlotId) :
    s.adoptersIn anyHead n = s.adoptersIn (allBut h) n + (s.adopterOf n h).toNat := tally_but _ h

end

/-- The last clauses of the invariant: every head in service has a slot, a pending slot has a current revision (R35), and heads that are not
installed are OUT without a pending slot. -/
def PlacesLegal (s : State) : Prop :=
  (∀ h, (s.head h).record.service ≠ .out → (s.head h).record.slot.isSome = true) ∧
  (∀ h n, (s.head h).record.pendingSlot = some n → (s.slot n).current.isSome = true) ∧
  ∀ h, s.isInstalled h = false → (s.head h).record.service = .out ∧ (s.head h).record.pendingSlot = none

theorem membersCounted_iff {s : State} : MembersCounted s ↔ CountedIn anyHead s ∧ PlacesLegal s := by
  refine and_congr_left fun _ => forall_congr' fun n => ?_
  refine ⟨fun ⟨members, current, pending, free⟩ => ?_, fun ⟨⟨members, current, pending, free⟩, others⟩ => ?_⟩
  · exact ⟨⟨members, current, fun e => ⟨(pending e).1, (pending e).2.1⟩, free⟩, fun e => (pending e).2.2⟩
  · exact ⟨members, current, fun e => ⟨(pending e).1, (pending e).2, others e⟩, free⟩

/-! ## Changes that leave members where they are -/

/-- The head's service state, slot and pending slot stand. -/
structure SamePlace (r r' : HeadRecord) : Prop where
  service : r'.service = r.service
  slot : r'.slot = r.slot
  pendingSlot : r'.pendingSlot = r.pendingSlot

theorem SamePlace.refl (r : HeadRecord) : SamePlace r r := ⟨rfl, rfl, rfl⟩
theorem SamePlace.trans {r r' r'' : HeadRecord} (a : SamePlace r r') (b : SamePlace r' r'') : SamePlace r r'' :=
  ⟨b.service.trans a.service, b.slot.trans a.slot, b.pendingSlot.trans a.pendingSlot⟩

theorem Head.promoted_place (n : SlotId) (rev : Revision) (x : Head) : SamePlace x.record (x.promoted n rev).record := by
  unfold Head.promoted
  split
  · exact .refl _
  · split <;> exact ⟨rfl, rfl, rfl⟩

section
variable {s t : State} {j : HeadId} {n : SlotId}

theorem memberOf_congr (out : (t.head j).record.service = .out ↔ (s.head j).record.service = .out)
    (slot : (t.head j).record.slot = (s.head j).record.slot) : t.memberOf n j = s.memberOf n j := by
  simp only [State.memberOf, slot, ne_eq, out]

theorem SamePlace.memberOf (e : SamePlace (s.head j).record (t.head j).record) : t.memberOf n j = s.memberOf n j :=
  memberOf_congr (by rw [e.service]) e.slot

theorem adopterOf_congr (member : t.memberOf n j = s.memberOf n j) (uses : (t.head j).record.usesPending = (s.head j).record.usesPending) :
    t.adopterOf n j = s.adopterOf n j := by rw [State.adopterOf, State.adopterOf, member, uses]

theorem memberOf_out (out : (s.head j).record.service = .out) : s.memberOf n j = false := by simp [State.memberOf, out]
theorem adopterOf_out (out : (s.head j).record.service = .out) : s.adopterOf n j = false := by
  rw [State.adopterOf, memberOf_out out]; rfl

theorem memberOf_elsewhere (other : (s.head j).record.slot ≠ some n) : s.memberOf n j = false := by simp [State.memberOf, other]
theorem adopterOf_elsewhere (other : (s.head j).record.slot ≠ some n) : s.adopterOf n j = false := by
  rw [State.adopterOf, memberOf_elsewhere other]; rfl

theorem memberOf_self (member : (s.head j).record.service ≠ .out) (slot : (s.head j).record.slot = some n) : s.memberOf n j = true :=
  decide_eq_true ⟨member, slot⟩
theorem adopterOf_self (member : (s.head j).record.service ≠ .out) (slot : (s.head j).record.slot = some n) :
    s.adopterOf n j = (s.head j).record.usesPending := by rw [State.adopterOf, memberOf_self member slot]; rfl

end

/-! ## Promotion -/

/-- A promotion or none: the slot and the heads. -/
theorem promoteIfDone_cases (n : SlotId) (s : State) :
    (((s.slot n).pending = none ∨ (s.slot n).unadopted ≠ 0) ∧ promoteIfDone n s = s) ∨
    ∃ rev, (s.slot n).pending = some rev ∧ (s.slot n).unadopted = 0 ∧ (promoteIfDone n s).slot n = (s.slot n).promoted rev ∧
      ∀ j, (promoteIfDone n s).head j = (s.head j).promoted n rev := by
  by_cases stays : (s.slot n).pending = none ∨ (s.slot n).unadopted ≠ 0
  · exact .inl ⟨stays, promoteIfDone_stays stays⟩
  · obtain ⟨some, zero⟩ := not_or.mp stays
    obtain ⟨rev, pending⟩ := Option.ne_none_iff_exists'.mp some
    have zero := not_not.mp zero
    refine .inr ⟨rev, pending, zero, ?_, fun j => ?_⟩ <;> rw [promoteIfDone_promotes pending zero]
    · rw [slot_promote pending, if_pos rfl]
    · exact head_promote pending j

/-- A promoted slot has no adopters, and other slots keep theirs (R34). -/
theorem promoted_adopterOf {s t : State} {n : SlotId} {rev : Revision} {j : HeadId} (heads : t.head j = (s.head j).promoted n rev) (m : SlotId) :
    t.adopterOf m j = (decide (m ≠ n) && s.adopterOf m j) := by
  have place : SamePlace (s.head j).record (t.head j).record := heads ▸ Head.promoted_place n rev _
  by_cases slot : (s.head j).record.slot = some n
  · by_cases out : (s.head j).record.service = .out
    · rw [adopterOf_out (place.service.trans out), adopterOf_out out, Bool.and_false]
    · by_cases same : m = n
      · subst same
        rw [adopterOf_self (by rw [place.service]; exact out) (place.slot.trans slot), heads, Head.promoted_member slot out]
        simp
      · have other : (s.head j).record.slot ≠ some m := by rw [slot]; exact fun e => same (Option.some.inj e).symm
        rw [adopterOf_elsewhere (by rw [place.slot]; exact other), adopterOf_elsewhere other, Bool.and_false]
  · rw [adopterOf_congr (place.memberOf (n := m)) (by rw [heads, Head.promoted_elsewhere slot])]
    by_cases same : m = n
    · subst same; rw [adopterOf_elsewhere slot, Bool.and_false]
    · simp [same]

/-- A promotion where the last other has gone makes the counts agree again (R34). -/
theorem promoteIfDone_counted {q : HeadId → Bool} {n : SlotId} {s : State} (rest : ∀ m, m ≠ n →
    (s.slot m).Counted (s.membersIn q m) (s.adoptersIn q m)) (here : (s.slot n).CountedOpen (s.membersIn q n) (s.adoptersIn q n)) :
    CountedIn q (promoteIfDone n s) := by
  intro m
  obtain ⟨stays, same⟩ | ⟨rev, pending, zero, slot, heads⟩ := promoteIfDone_cases n s
  · rw [same]
    by_cases e : m = n
    · subst e; exact here.counted stays
    · exact rest m e
  · have members : (promoteIfDone n s).membersIn q m = s.membersIn q m :=
      membersIn_congr fun j _ => SamePlace.memberOf (heads j ▸ Head.promoted_place n rev _)
    rw [members]
    by_cases e : m = n
    · subst e
      rw [slot, adoptersIn_none fun j _ => by rw [promoted_adopterOf (heads j)]; simp]
      exact here.promoted
    · rw [slot_promoteIfDone_ne e, adoptersIn_congr (s := s) fun j _ => by rw [promoted_adopterOf (heads j)]; simp [e]]
      exact rest m e

theorem promoteIfDone_place (n : SlotId) (s : State) (j : HeadId) :
    SamePlace (s.head j).record ((promoteIfDone n s).head j).record := by
  obtain ⟨-, same⟩ | ⟨rev, -, -, -, heads⟩ := promoteIfDone_cases n s
  · rw [same]; exact .refl _
  · rw [heads]; exact Head.promoted_place n rev _

theorem promoteIfDone_current {n m : SlotId} {s : State} (some : (s.slot m).current.isSome = true) :
    ((promoteIfDone n s).slot m).current.isSome = true := by
  by_cases e : m = n
  · subst e
    obtain ⟨-, same⟩ | ⟨rev, -, -, slot, -⟩ := promoteIfDone_cases m s
    · rw [same]; exact some
    · rw [slot]; rfl
  · rw [slot_promoteIfDone_ne e]; exact some

/-! ## A departure -/

theorem leaveCounts_place (o : SlotId) (had : Bool) (s : State) (j : HeadId) :
    SamePlace (s.head j).record ((leaveCounts o had s).head j).record :=
  promoteIfDone_place o (modSlot o (fun sl => sl.left had) s) j

theorem leaveCounts_current {o m : SlotId} {had : Bool} {s : State} (some : (s.slot m).current.isSome = true) :
    ((leaveCounts o had s).slot m).current.isSome = true := by
  refine promoteIfDone_current ?_
  rw [slot_modSlot]
  split
  next e => subst e; exact some
  next => exact some

/-- The counts of every slot, one head counted apart. -/
theorem CountedIn.apart {s : State} (c : CountedIn anyHead s) (h : HeadId) (n : SlotId) :
    (s.slot n).Counted (s.membersIn (allBut h) n + (s.memberOf n h).toNat) (s.adoptersIn (allBut h) n + (s.adopterOf n h).toNat) := by
  rw [← membersIn_anyHead, ← adoptersIn_anyHead]; exact c n

theorem CountedIn.of_apart {s : State} {h : HeadId} (c : ∀ n, (s.slot n).Counted (s.membersIn (allBut h) n + (s.memberOf n h).toNat)
    (s.adoptersIn (allBut h) n + (s.adopterOf n h).toNat)) : CountedIn anyHead s := by
  intro n
  rw [membersIn_anyHead s h, adoptersIn_anyHead s h]; exact c n

/-- An OUT head is not counted. -/
theorem CountedIn.without_out {s : State} {h : HeadId} (c : CountedIn anyHead s) (out : (s.head h).record.service = .out) :
    CountedIn (allBut h) s := by
  intro n
  simpa [memberOf_out out, adopterOf_out out] using c.apart h n

theorem CountedIn.with_out {s : State} {h : HeadId} (c : CountedIn (allBut h) s) (out : (s.head h).record.service = .out) :
    CountedIn anyHead s := by
  refine .of_apart (h := h) fun n => ?_
  simpa [memberOf_out out, adopterOf_out out] using c n

/-- Counts that concern neither the slots nor the heads picked. -/
theorem CountedIn.congr {q : HeadId → Bool} {s t : State} (c : CountedIn q s) (slots : t.slots = s.slots)
    (member : ∀ n j, q j = true → t.memberOf n j = s.memberOf n j) (adopter : ∀ n j, q j = true → t.adopterOf n j = s.adopterOf n j) :
    CountedIn q t := by
  intro n
  rw [membersIn_congr (member n), adoptersIn_congr (adopter n), State.slot, slots]
  exact c n

theorem memberOf_head {s t : State} {j : HeadId} (e : t.head j = s.head j) (n : SlotId) : t.memberOf n j = s.memberOf n j := by
  simp only [State.memberOf, e]
theorem adopterOf_head {s t : State} {j : HeadId} (e : t.head j = s.head j) (n : SlotId) : t.adopterOf n j = s.adopterOf n j := by
  simp only [State.adopterOf, State.memberOf, e]

theorem CountedIn.of_others {h : HeadId} {s t : State} (c : CountedIn (allBut h) s) (slots : t.slots = s.slots)
    (heads : ∀ j, j ≠ h → t.head j = s.head j) : CountedIn (allBut h) t :=
  c.congr slots (fun n j e => memberOf_head (heads j (allBut_ne e)) n) fun n j e => adopterOf_head (heads j (allBut_ne e)) n

/-- A member has left the slot it has, which is not yet promoted (R28, R29). -/
theorem departed_counted {h : HeadId} {o : SlotId} {s u : State} (c : CountedIn anyHead s) (member : (s.head h).record.service ≠ .out)
    (slot : (s.head h).record.slot = some o) (slots : u.slots = s.slots) (heads : ∀ j, j ≠ h → u.head j = s.head j) :
    (∀ m, m ≠ o → (u.slot m).Counted (u.membersIn (allBut h) m) (u.adoptersIn (allBut h) m)) ∧
    ((u.slot o).left (s.head h).record.usesPending).CountedOpen (u.membersIn (allBut h) o) (u.adoptersIn (allBut h) o) := by
  have members (m : SlotId) : u.membersIn (allBut h) m = s.membersIn (allBut h) m :=
    membersIn_congr fun j e => memberOf_head (heads j (allBut_ne e)) m
  have adopters (m : SlotId) : u.adoptersIn (allBut h) m = s.adoptersIn (allBut h) m :=
    adoptersIn_congr fun j e => adopterOf_head (heads j (allBut_ne e)) m
  have same (m : SlotId) : u.slot m = s.slot m := by rw [State.slot, slots]; rfl
  refine ⟨fun m ne => ?_, ?_⟩
  · have other : (s.head h).record.slot ≠ some m := by rw [slot]; exact fun e => ne (Option.some.inj e).symm
    rw [same, members, adopters]
    simpa [memberOf_elsewhere other, adopterOf_elsewhere other] using c.apart h m
  · rw [same, members, adopters]
    refine Slot.Counted.left ?_
    simpa [memberOf_self member slot, adopterOf_self member slot] using c.apart h o

/-- A member counted out of the slot it has (R28, R29). -/
theorem leaveCounts_departed {h : HeadId} {o : SlotId} {s u : State} (c : CountedIn anyHead s) (member : (s.head h).record.service ≠ .out)
    (slot : (s.head h).record.slot = some o) (slots : u.slots = s.slots) (heads : ∀ j, j ≠ h → u.head j = s.head j) :
    CountedIn (allBut h) (leaveCounts o (s.head h).record.usesPending u) := by
  obtain ⟨rest, left⟩ := departed_counted c member slot slots heads
  rw [leaveCounts_eq]
  refine promoteIfDone_counted (fun m ne => ?_) ?_
  · rw [slot_modSlot_ne ne]; exact rest m ne
  · rw [slot_modSlot_self]; exact left

end Sys2Proof.Machine
end

section
/-! SUPPORT. Every change of the books keeps the slots' counts (R18, R19, R20). -/

namespace Sys2Proof.Machine

/-! ## Places -/

/-- Heads in service keep a slot, pending slots and current revisions stand, but for what is newly checked on an installed head. -/
structure PlacesKept (s t : State) : Prop where
  member : ∀ j, (t.head j).record.service ≠ .out →
    ((s.head j).record.service ≠ .out ∧ ((s.head j).record.slot.isSome = true → (t.head j).record.slot.isSome = true)) ∨
    (s.isInstalled j = true ∧ (t.head j).record.slot.isSome = true)
  pendingSlot : ∀ j n, (t.head j).record.pendingSlot = some n →
    (s.head j).record.pendingSlot = some n ∨ s.isInstalled j = true ∧ (s.slot n).current.isSome = true
  current : ∀ n, (s.slot n).current.isSome = true → (t.slot n).current.isSome = true
  line : t.tracker.line = s.tracker.line

theorem PlacesKept.legal {s t : State} (e : PlacesKept s t) (hs : PlacesLegal s) : PlacesLegal t := by
  obtain ⟨slots, pendings, absent⟩ := hs
  refine ⟨fun j member => ?_, fun j n staged => ?_, fun j away => ?_⟩
  · obtain ⟨before, keeps⟩ | ⟨-, some⟩ := e.member j member
    · exact keeps (slots j before)
    · exact some
  · obtain before | ⟨-, some⟩ := e.pendingSlot j n staged
    · exact e.current n (pendings j n before)
    · exact e.current n some
  · have away' : s.isInstalled j = false := by rw [State.isInstalled, ← e.line]; exact away
    obtain ⟨out, none⟩ := absent j away'
    refine ⟨?_, Option.eq_none_iff_forall_ne_some.mpr fun n staged => ?_⟩
    · by_contra member
      obtain ⟨before, -⟩ | ⟨installed, -⟩ := e.member j member
      · exact before out
      · rw [installed] at away'; cases away'
    · obtain before | ⟨installed, -⟩ := e.pendingSlot j n staged
      · rw [none] at before; cases before
      · rw [installed] at away'; cases away'

theorem PlacesKept.of_same {s t : State} (heads : ∀ j, SamePlace (s.head j).record (t.head j).record)
    (current : ∀ n, (s.slot n).current.isSome = true → (t.slot n).current.isSome = true) (line : t.tracker.line = s.tracker.line) :
    PlacesKept s t where
  member j member := .inl ⟨by rw [← (heads j).service]; exact member, fun some => by rw [(heads j).slot]; exact some⟩
  pendingSlot j n e := .inl (by rw [← (heads j).pendingSlot]; exact e)
  current := current
  line := line

/-- One head's place changes, to OUT or to another slot at most; the others' stand. -/
theorem PlacesKept.of_one {h : HeadId} {s t : State} (others : ∀ j, j ≠ h → SamePlace (s.head j).record (t.head j).record)
    (service : (t.head h).record.service ≠ .out → (s.head h).record.service ≠ .out)
    (slot : (s.head h).record.slot.isSome = true → (t.head h).record.slot.isSome = true)
    (pendingSlot : ∀ n, (t.head h).record.pendingSlot = some n → (s.head h).record.pendingSlot = some n)
    (current : ∀ n, (s.slot n).current.isSome = true → (t.slot n).current.isSome = true) (line : t.tracker.line = s.tracker.line) :
    PlacesKept s t where
  member j member := .inl <| by
    by_cases e : j = h
    · subst e; exact ⟨service member, slot⟩
    · exact ⟨by rw [← (others j e).service]; exact member, fun some => by rw [(others j e).slot]; exact some⟩
  pendingSlot j n staged := .inl <| by
    by_cases e : j = h
    · subst e; exact pendingSlot n staged
    · rw [← (others j e).pendingSlot]; exact staged
  current := current
  line := line

/-! ## A head that becomes OUT or JOINING -/

theorem SamePlace.of_eq {x y : Head} (e : y = x) : SamePlace x.record y.record := e ▸ .refl _

/-- The head that has become OUT keeps slot and pending slot. -/
theorem becomeOut_self (h : HeadId) (s : State) : ((becomeOut h s).head h).record.service = .out ∧
    ((becomeOut h s).head h).record.slot = (s.head h).record.slot ∧
    ((becomeOut h s).head h).record.pendingSlot = (s.head h).record.pendingSlot := by
  cases slot : (s.head h).record.slot with
  | none => rw [becomeOut_noSlot slot, head_markOut]; exact ⟨rfl, slot, rfl⟩
  | some o =>
    cases current : ((becomeOut h s).slot o).current with
    | none => rw [head_becomeOut_none slot current]; exact ⟨rfl, slot, rfl⟩
    | some rev => rw [head_becomeOut_some slot current]; exact ⟨rfl, slot, rfl⟩

section
variable {h : HeadId} {o : SlotId} {s : State} (slot : (s.head h).record.slot = some o)
include slot

theorem head_becomeOut_ne {j : HeadId} (ne : j ≠ h) :
    (becomeOut h s).head j = (leaveCounts o (s.head h).record.usesPending (markOut h s)).head j := by
  rw [becomeOut_eq slot, head_alignHead_ne ne]

theorem becomeOut_slots : (becomeOut h s).slots = (leaveCounts o (s.head h).record.usesPending (markOut h s)).slots :=
  slots_ext fun m => slot_becomeOut slot m

theorem becomeOut_placesKept : PlacesKept s (becomeOut h s) := by
  obtain ⟨out, slot', pendingSlot⟩ := becomeOut_self h s
  refine .of_one (h := h) (fun j ne => ?_) (fun member => absurd out member) (by rw [slot']; exact id) (fun n e => pendingSlot ▸ e)
    (fun n some => ?_) (by rw [becomeOut_tablesOnly h s])
  · rw [head_becomeOut_ne slot ne]
    exact (SamePlace.of_eq (head_markOut_ne ne s)).trans (leaveCounts_place o _ _ j)
  · rw [slot_becomeOut slot]; exact leaveCounts_current some

theorem becomeOut_counted (member : (s.head h).record.service ≠ .out) (c : CountedIn anyHead s) : CountedIn anyHead (becomeOut h s) := by
  have departed := leaveCounts_departed c member slot (u := markOut h s) rfl fun j ne => head_markOut_ne ne s
  exact (departed.of_others (becomeOut_slots slot) fun j ne => head_becomeOut_ne slot ne).with_out (becomeOut_self h s).1

theorem head_becomeJoining (j : HeadId) : (becomeJoining h s).head j =
    if j = h then { s.head h with record := { (s.head h).record with service := .joining, usesPending := false } } else s.head j := by
  rw [becomeJoining_eq slot]
  exact head_setHead h j _ s

theorem slot_becomeJoining (m : SlotId) : (becomeJoining h s).slot m = if m = o then (s.slot o).joined else s.slot m := by
  rw [becomeJoining_eq slot]
  exact slot_modSlot o m Slot.joined s

theorem becomeJoining_placesKept (installed : s.isInstalled h = true) : PlacesKept s (becomeJoining h s) := by
  refine ⟨fun j member => ?_, fun j n staged => .inl ?_, fun n some => ?_, by rw [becomeJoining_eq slot]; rfl⟩
  · rw [head_becomeJoining slot] at member ⊢
    split
    next e => subst e; exact .inr ⟨installed, by rw [slot]; rfl⟩
    next ne => rw [if_neg ne] at member; exact .inl ⟨member, id⟩
  · rw [head_becomeJoining slot] at staged
    split at staged
    next e => subst e; exact staged
    next => exact staged
  · rw [slot_becomeJoining slot]
    split
    next e => subst e; exact some
    next => exact some

theorem becomeJoining_counted (out : (s.head h).record.service = .out) (current : (s.slot o).current.isSome = true)
    (c : CountedIn anyHead s) : CountedIn anyHead (becomeJoining h s) := by
  have others (j : HeadId) (e : allBut h j = true) : (becomeJoining h s).head j = s.head j := by
    rw [head_becomeJoining slot, if_neg (allBut_ne e)]
  refine .of_apart (h := h) fun m => ?_
  have before := c.without_out out m
  rw [slot_becomeJoining slot, membersIn_congr (s := s) fun j e => memberOf_head (others j e) m,
    adoptersIn_congr (s := s) fun j e => adopterOf_head (others j e) m]
  have self := head_becomeJoining slot h
  rw [if_pos rfl] at self
  by_cases e : m = o
  · subst e
    have slot' : ((becomeJoining h s).head h).record.slot = some m := by rw [self]; exact slot
    have member : ((becomeJoining h s).head h).record.service ≠ .out := by rw [self]; exact nofun
    rw [if_pos rfl, memberOf_self member slot', adopterOf_self member slot', self]
    exact before.joined current
  · have other : ((becomeJoining h s).head h).record.slot ≠ some m := by
      rw [self]; exact fun c => e (Option.some.inj (c.symm.trans slot))
    rw [if_neg e, memberOf_elsewhere other, adopterOf_elsewhere other]
    exact before

end

/-! ## A change of slot at commit (R29, R53) -/

theorem leaveOld_place (h : HeadId) (s : State) (j : HeadId) : SamePlace (s.head j).record ((leaveOld h s).head j).record := by
  unfold leaveOld; split
  · exact .refl _
  · exact leaveCounts_place _ _ s j

theorem leaveOld_current {h : HeadId} {s : State} {n : SlotId} (some : (s.slot n).current.isSome = true) :
    ((leaveOld h s).slot n).current.isSome = true := by
  unfold leaveOld; split
  · exact some
  · exact leaveCounts_current some

section
variable {h : HeadId} {n : SlotId} {s : State} (staged : (s.head h).record.pendingSlot = some n)
include staged

theorem commitSlot_self : ((commitSlot h s).head h).record.service = (s.head h).record.service ∧
    ((commitSlot h s).head h).record.slot = some n ∧ ((commitSlot h s).head h).record.pendingSlot = none := by
  rw [head_commitSlot staged]; exact ⟨rfl, rfl, rfl⟩

/-- The counts stand where a head is not in service, or on its pending slot already (R29). -/
theorem commitSlot_sameCounts (stays : (s.head h).record.service = .out ∨ (s.head h).record.slot = some n) :
    (commitSlot h s).slots = s.slots ∧ (∀ j, j ≠ h → (commitSlot h s).head j = s.head j) ∧
    ((commitSlot h s).head h).record.usesPending = (s.head h).record.usesPending := by
  refine ⟨?_, fun j ne => ?_, ?_⟩
  · rw [commitSlot_slots staged, moveCounts_stays stays]
  · rw [head_commitSlot_ne staged ne, moveCounts_stays stays]
  · rw [head_commitSlot staged, moveCounts_stays stays]

/-- A member that changes its slot: the other heads, the slots, and the revision it uses (R29). -/
theorem commitSlot_moved (member : (s.head h).record.service ≠ .out) (other : (s.head h).record.slot ≠ some n) :
    (∀ j, j ≠ h → (commitSlot h s).head j = (leaveOld h s).head j) ∧
    (∀ m, (commitSlot h s).slot m = if m = n then ((leaveOld h s).slot n).joinedAtCommit else (leaveOld h s).slot m) ∧
    ((commitSlot h s).head h).record.usesPending = ((leaveOld h s).slot n).pending.isSome := by
  refine ⟨fun j ne => ?_, fun m => ?_, ?_⟩
  · rw [head_commitSlot_ne staged ne, head_moveCounts_ne member other ne]
  · rw [State.slot, commitSlot_slots staged, slot_leaveOld_other other]; exact slot_moveCounts member other m
  · rw [head_commitSlot staged, slot_leaveOld_other other]; exact usesPending_moveCounts member other

theorem commitSlot_placesKept : PlacesKept s (commitSlot h s) := by
  obtain ⟨service, slot, pendingSlot⟩ := commitSlot_self staged
  have line : (commitSlot h s).tracker.line = s.tracker.line := by rw [commitSlot_tablesOnly staged]
  by_cases stays : (s.head h).record.service = .out ∨ (s.head h).record.slot = some n
  · obtain ⟨slots, heads, -⟩ := commitSlot_sameCounts staged stays
    refine .of_one (h := h) (fun j ne => .of_eq (heads j ne)) (by rw [service]; exact id) (fun _ => by rw [slot]; rfl)
      (fun m e => by rw [pendingSlot] at e; cases e) (fun m some => by rw [State.slot, slots]; exact some) line
  · obtain ⟨member, other⟩ := not_or.mp stays
    obtain ⟨heads, slots, -⟩ := commitSlot_moved staged member other
    refine .of_one (h := h) (fun j ne => (heads j ne) ▸ leaveOld_place h s j) (by rw [service]; exact id) (fun _ => by rw [slot]; rfl)
      (fun m e => by rw [pendingSlot] at e; cases e) (fun m some => ?_) line
    rw [slots]
    split
    next e => subst e; exact leaveOld_current some
    next => exact leaveOld_current some

theorem commitSlot_counted (legal : PlacesLegal s) (c : CountedIn anyHead s) : CountedIn anyHead (commitSlot h s) := by
  obtain ⟨service, slot, -⟩ := commitSlot_self staged
  by_cases stays : (s.head h).record.service = .out ∨ (s.head h).record.slot = some n
  · obtain ⟨slots, heads, uses⟩ := commitSlot_sameCounts staged stays
    have member (m : SlotId) (j : HeadId) : (commitSlot h s).memberOf m j = s.memberOf m j := by
      by_cases e : j = h
      · subst e
        obtain out | same := stays
        · rw [memberOf_out out, memberOf_out (service.trans out)]
        · exact memberOf_congr (by rw [service]) (slot.trans same.symm)
      · exact memberOf_head (heads j e) m
    refine c.congr slots (fun m j _ => member m j) fun m j _ => adopterOf_congr (member m j) ?_
    by_cases e : j = h
    · subst e; exact uses
    · rw [heads j e]
  · obtain ⟨member, other⟩ := not_or.mp stays
    obtain ⟨heads, slots, uses⟩ := commitSlot_moved staged member other
    obtain ⟨o, slotBefore⟩ := Option.isSome_iff_exists.mp (legal.1 h member)
    have departed : CountedIn (allBut h) (leaveOld h s) := by
      rw [leaveOld_some slotBefore]
      exact leaveCounts_departed c member slotBefore rfl fun _ _ => rfl
    have current : ((leaveOld h s).slot n).current.isSome = true := leaveOld_current (legal.2.1 h n staged)
    have member' : ((commitSlot h s).head h).record.service ≠ .out := by rw [service]; exact member
    refine .of_apart (h := h) fun m => ?_
    rw [slots, membersIn_congr (s := leaveOld h s) fun j e => memberOf_head (heads j (allBut_ne e)) m,
      adoptersIn_congr (s := leaveOld h s) fun j e => adopterOf_head (heads j (allBut_ne e)) m]
    by_cases e : m = n
    · subst e
      rw [if_pos rfl, memberOf_self member' slot, adopterOf_self member' slot, uses]
      exact (departed m).joinedAtCommit current
    · have other' : ((commitSlot h s).head h).record.slot ≠ some m := by rw [slot]; exact fun c => e (Option.some.inj c).symm
      rw [if_neg e, memberOf_elsewhere other', adopterOf_elsewhere other']
      exact departed m

end

/-! ## An adoption (R33, R54) -/

section
variable {h : HeadId} {n : SlotId} {rev : Revision} {s : State} (slot : (s.head h).record.slot = some n)
  (pending : (s.slot n).pending = some rev) (member : (s.head h).record.service ≠ .out) (uses : (s.head h).record.usesPending = false)

theorem adopted_place (j : HeadId) : SamePlace (s.head j).record ((adopted h n rev s).head j).record := by
  by_cases e : j = h
  · subst e; rw [head_adopted]; exact ⟨rfl, rfl, rfl⟩
  · exact .of_eq (head_adopted_ne e)

theorem adopted_current {m : SlotId} (some : (s.slot m).current.isSome = true) : ((adopted h n rev s).slot m).current.isSome = true := by
  rw [slot_adopted]
  split
  next e => subst e; exact some
  next => exact some

include slot pending member uses

/-- The adopter is counted as one, before any promotion (R33). -/
theorem adopted_counted (c : CountedIn anyHead s) (m : SlotId) :
    ((adopted h n rev s).slot m).CountedOpen ((adopted h n rev s).membersIn anyHead m) ((adopted h n rev s).adoptersIn anyHead m) ∧
    (m ≠ n → ((adopted h n rev s).slot m).Counted ((adopted h n rev s).membersIn anyHead m) ((adopted h n rev s).adoptersIn anyHead m)) := by
  have before := c.apart h m
  have same (j : HeadId) (e : allBut h j = true) : (adopted h n rev s).head j = s.head j := head_adopted_ne (allBut_ne e)
  have self : (adopted h n rev s).head h = _ := head_adopted
  have slot' : ((adopted h n rev s).head h).record.slot = some n := by rw [self]; exact slot
  have member' : ((adopted h n rev s).head h).record.service ≠ .out := by rw [self]; exact member
  rw [membersIn_anyHead _ h, adoptersIn_anyHead _ h, slot_adopted, membersIn_congr (s := s) fun j e => memberOf_head (same j e) m,
    adoptersIn_congr (s := s) fun j e => adopterOf_head (same j e) m]
  by_cases e : m = n
  · subst e
    rw [if_pos rfl, memberOf_self member' slot', adopterOf_self member' slot', self]
    rw [memberOf_self member slot, adopterOf_self member slot, uses] at before
    exact ⟨before.adoptedByOne (by rw [pending]; rfl), fun ne => absurd rfl ne⟩
  · have other : (s.head h).record.slot ≠ some m := by rw [slot]; exact fun c => e (Option.some.inj c).symm
    have other' : ((adopted h n rev s).head h).record.slot ≠ some m := by rw [slot']; exact fun c => e (Option.some.inj c).symm
    rw [if_neg e, memberOf_elsewhere other', adopterOf_elsewhere other']
    rw [memberOf_elsewhere other, adopterOf_elsewhere other] at before
    exact ⟨before.1, fun _ => before⟩

end

theorem commitAdopt_counted {h : HeadId} {s : State} (c : CountedIn anyHead s) : CountedIn anyHead (commitAdopt h s) := by
  obtain stays | ⟨n, rev, slot, pending, member, uses, adopts⟩ := commitAdopt_cases h s
  · rw [stays]; exact c
  · rw [adopts]
    have counted := adopted_counted slot pending member uses c
    exact promoteIfDone_counted (fun m ne => (counted m).2 ne) (counted n).1

theorem commitAdopt_placesKept (h : HeadId) (s : State) : PlacesKept s (commitAdopt h s) := by
  have line : (commitAdopt h s).tracker.line = s.tracker.line := by rw [commitAdopt_allTables h s]
  obtain stays | ⟨n, rev, -, -, -, -, adopts⟩ := commitAdopt_cases h s
  · rw [stays]; exact .of_same (fun _ => .refl _) (fun _ => id) rfl
  · refine .of_same (fun j => ?_) (fun m some => ?_) line <;> rw [adopts]
    · exact (adopted_place j).trans (promoteIfDone_place n _ j)
    · exact promoteIfDone_current (adopted_current some)

/-! ## A head's own record, the slot field -/

/-- Where the slots stand, and every head's service state, slot and adoption but one OUT head's slot, the counts stand. -/
theorem CountedIn.of_records {s t : State} (c : CountedIn anyHead s) (slots : t.slots = s.slots)
    (heads : ∀ j, ((t.head j).record.service = .out ∧ (s.head j).record.service = .out) ∨
      ((t.head j).record.service = .out ↔ (s.head j).record.service = .out) ∧ (t.head j).record.slot = (s.head j).record.slot ∧
      (t.head j).record.usesPending = (s.head j).record.usesPending) : CountedIn anyHead t := by
  have member (m : SlotId) (j : HeadId) : t.memberOf m j = s.memberOf m j := by
    obtain ⟨out', out⟩ | ⟨service, slot, -⟩ := heads j
    · rw [memberOf_out out, memberOf_out out']
    · exact memberOf_congr service slot
  refine c.congr slots (fun m j _ => member m j) fun m j _ => ?_
  obtain ⟨out', out⟩ | ⟨service, slot, uses⟩ := heads j
  · rw [adopterOf_out out, adopterOf_out out']
  · exact adopterOf_congr (member m j) uses

theorem own_placesKept {s : State} {h : HeadId} {f : HeadRecord → HeadRecord} (own : OwnChange s h (f (s.head h).record)) :
    PlacesKept s (modRecord h f s) := by
  refine ⟨fun j member => .inl ?_, fun j n staged => ?_, fun _ => id, rfl⟩ <;> by_cases e : j = h
  · subst e
    rw [head_modRecord] at member ⊢
    exact ⟨fun out => member (own.out.mpr out), fun some => own.slot ▸ some⟩
  · rw [head_modRecord_ne e] at member ⊢; exact ⟨member, id⟩
  · subst e; rw [head_modRecord] at staged; exact own.pendingSlot n staged
  · rw [head_modRecord_ne e] at staged; exact .inl staged

theorem own_counted {s : State} {h : HeadId} {f : HeadRecord → HeadRecord} (own : OwnChange s h (f (s.head h).record))
    (c : CountedIn anyHead s) : CountedIn anyHead (modRecord h f s) := by
  refine c.of_records rfl fun j => .inr ?_
  by_cases e : j = h
  · subst e; rw [head_modRecord]; exact ⟨own.out, own.slot, own.uses⟩
  · rw [head_modRecord_ne e]; exact ⟨Iff.rfl, rfl, rfl⟩

theorem head_writeSlot (sl : Option SlotId) (h : HeadId) (s : State) : ((writeSlot sl h s).head h).record =
    { resetLearning (sl.bind fun n => (s.slot n).current) (s.head h).record with
      slot := sl, pendingSlot := none, usesPending := false, adoptedRev := (sl.bind fun n => (s.slot n).current).map (·.number)
      resetStaged := false } := by
  rw [writeSlot, head_modRecord]

theorem head_writeSlot_ne {sl : Option SlotId} {h j : HeadId} (ne : j ≠ h) (s : State) : (writeSlot sl h s).head j = s.head j :=
  head_modRecord_ne ne _ s

section
variable {s : State} {h : HeadId} {sl : Option SlotId} (out : (s.head h).record.service = .out)
include out

theorem writeSlot_out : ((writeSlot sl h s).head h).record.service = .out := by rw [head_writeSlot]; exact out

theorem writeSlot_placesKept : PlacesKept s (writeSlot sl h s) := by
  refine ⟨fun j member => .inl ?_, fun j n staged => .inl ?_, fun _ => id, rfl⟩ <;> by_cases e : j = h
  · subst e; exact absurd (writeSlot_out out) member
  · rw [head_writeSlot_ne e] at member ⊢; exact ⟨member, id⟩
  · subst e; rw [head_writeSlot] at staged; cases staged
  · rw [head_writeSlot_ne e] at staged; exact staged

theorem writeSlot_counted (c : CountedIn anyHead s) : CountedIn anyHead (writeSlot sl h s) := by
  refine c.of_records rfl fun j => ?_
  by_cases e : j = h
  · subst e; exact .inl ⟨writeSlot_out out, out⟩
  · rw [head_writeSlot_ne e]; exact .inr ⟨Iff.rfl, rfl, rfl⟩

end

/-! ## Recipe requests -/

/-- A slot without a current revision, or without members, has no member, no adopter and nothing pending. -/
theorem Slot.Counted.idle {sl : Slot} {m a : Nat} (c : sl.Counted m a) (idle : sl.current = none ∨ sl.members = 0) :
    m = 0 ∧ a = 0 ∧ sl.pending = none := by
  obtain ⟨⟨members, current, pending, free⟩, others⟩ := c
  have zero : m = 0 := by
    obtain none | zero := idle
    · by_contra some
      have := current (Nat.pos_of_ne_zero some)
      rw [none] at this; cases this
    · exact members.symm.trans zero
  have none : sl.pending = none := by
    cases e : sl.pending with
    | none => rfl
    | some rev =>
      have some : sl.pending.isSome = true := by rw [e]; rfl
      obtain ⟨-, sum⟩ := pending some
      have := others some
      omega
  exact ⟨zero, (free none).2.2, none⟩

/-- A slot whose pending revision no member has adopted has no adopter. -/
theorem Slot.Counted.noAdopter {sl : Slot} {m a : Nat} (c : sl.Counted m a) (free : sl.pending = none ∨ sl.adopted = 0) : a = 0 := by
  obtain ⟨⟨-, -, pending, none⟩, -⟩ := c
  obtain absent | zero := free
  · exact (none absent).2.2
  · cases e : sl.pending with
    | none => exact (none e).2.2
    | some rev => exact (pending (by rw [e]; rfl)).1.symm.trans zero

theorem slot_writeCurrent (n m : SlotId) (rev : Revision) (s : State) :
    (writeCurrent n rev s).slot m = if m = n then { s.slot n with counter := rev.number, current := some rev } else s.slot m :=
  slot_modSlot n m (fun sl => { sl with counter := rev.number, current := some rev }) s

theorem head_writeCurrent (n : SlotId) (rev : Revision) (s : State) (j : HeadId) : (writeCurrent n rev s).head j =
    if (s.head j).record.slot = some n ∧ (s.head j).record.service = .out then (s.head j).aligned rev else s.head j := by
  rw [writeCurrent, alignOut, head_mapHeads, head_modSlot]; rfl

theorem writeCurrent_place (n : SlotId) (rev : Revision) (s : State) (j : HeadId) :
    SamePlace (s.head j).record ((writeCurrent n rev s).head j).record := by
  rw [head_writeCurrent]; split
  · exact ⟨rfl, rfl, rfl⟩
  · exact .refl _

theorem writeCurrent_placesKept (n : SlotId) (rev : Revision) (s : State) : PlacesKept s (writeCurrent n rev s) := by
  refine .of_same (writeCurrent_place n rev s) (fun m some => ?_) rfl
  rw [slot_writeCurrent]; split
  · rfl
  · exact some

theorem writeCurrent_counted {n : SlotId} {rev : Revision} {s : State} (c : CountedIn anyHead s) : CountedIn anyHead (writeCurrent n rev s) := by
  intro m
  have member (j : HeadId) : (writeCurrent n rev s).memberOf m j = s.memberOf m j := (writeCurrent_place n rev s j).memberOf
  have adopter (j : HeadId) : (writeCurrent n rev s).adopterOf m j = s.adopterOf m j := by
    by_cases out : (s.head j).record.service = .out
    · rw [adopterOf_out out, adopterOf_out ((writeCurrent_place n rev s j).service.trans out)]
    · rw [adopterOf_congr (member j)]
      rw [head_writeCurrent, if_neg (fun both => out both.2)]
  rw [membersIn_congr fun j _ => member j, adoptersIn_congr fun j _ => adopter j, slot_writeCurrent]
  split
  next e =>
    subst e
    obtain ⟨⟨members, -, rest⟩, others⟩ := c m
    exact ⟨⟨members, fun _ => rfl, rest⟩, others⟩
  next => exact c m

theorem slot_writePending (n m : SlotId) (rev : Revision) (s : State) : (writePending n rev s).slot m =
    if m = n then { s.slot n with counter := rev.number, pending := some rev, unadopted := (s.slot n).members, adopted := 0 } else s.slot m :=
  slot_modSlot n m _ s

theorem writePending_placesKept (n : SlotId) (rev : Revision) (s : State) : PlacesKept s (writePending n rev s) := by
  refine .of_same (fun _ => .refl _) (fun m some => ?_) rfl
  rw [slot_writePending]; split
  next e => subst e; exact some
  next => exact some

theorem writePending_counted {n : SlotId} {rev : Revision} {s : State} (members : (s.slot n).members ≠ 0)
    (free : (s.slot n).pending = none ∨ (s.slot n).adopted = 0) (c : CountedIn anyHead s) : CountedIn anyHead (writePending n rev s) := by
  intro m
  have same := c m
  rw [slot_writePending]
  show Slot.Counted _ (s.membersIn anyHead m) (s.adoptersIn anyHead m)
  split
  next e =>
    subst e
    have zero := same.noAdopter free
    obtain ⟨⟨count, current, -⟩, -⟩ := same
    exact ⟨⟨count, current, fun _ => ⟨zero.symm, by rw [zero]; exact count⟩, nofun⟩, fun _ => Nat.pos_of_ne_zero members⟩
  next => exact same

/-! ## Erasure -/

/-- An erased slot loses its current revision (R35). -/
def eraseSlot (n : SlotId) (s : State) : State := modSlot n (fun sl => { sl with current := none }) s

theorem slot_eraseSlot (n m : SlotId) (s : State) : (eraseSlot n s).slot m = if m = n then { s.slot n with current := none } else s.slot m :=
  slot_modSlot n m _ s

theorem slotInUse_false {s : State} {n : SlotId} (unused : s.slotInUse n = false) {j : HeadId} (installed : s.isInstalled j = true) :
    (s.head j).record.slot ≠ some n ∧ (s.head j).record.pendingSlot ≠ some n := by
  have := List.any_eq_false.mp unused j (mem_installed.mpr installed)
  simpa [not_or] using this

theorem unused_noMember {s : State} {n : SlotId} (legal : PlacesLegal s) (unused : s.slotInUse n = false) (j : HeadId) :
    s.memberOf n j = false := by
  cases installed : s.isInstalled j with
  | true => exact memberOf_elsewhere (slotInUse_false unused installed).1
  | false => exact memberOf_out (legal.2.2 j installed).1

theorem eraseSlot_counted {s : State} {n : SlotId} (legal : PlacesLegal s) (unused : s.slotInUse n = false) (c : CountedIn anyHead s) :
    CountedIn anyHead (eraseSlot n s) := by
  intro m
  rw [slot_eraseSlot]
  show Slot.Counted _ (s.membersIn anyHead m) (s.adoptersIn anyHead m)
  split
  next e =>
    subst e
    have zero : s.membersIn anyHead m = 0 := tally_none fun j => by rw [unused_noMember legal unused]; rfl
    obtain ⟨⟨members, -, rest⟩, others⟩ := c m
    exact ⟨⟨members, fun pos => absurd pos (by omega), rest⟩, others⟩
  next => exact c m

theorem eraseSlot_places {s : State} {n : SlotId} (legal : PlacesLegal s) (unused : s.slotInUse n = false) : PlacesLegal (eraseSlot n s) := by
  obtain ⟨slots, pendings, absent⟩ := id legal
  refine ⟨slots, fun j m staged => ?_, absent⟩
  have before : (s.head j).record.pendingSlot = some m := staged
  have other : m ≠ n := by
    intro e
    rw [e] at before
    cases installed : s.isInstalled j with
    | true => exact (slotInUse_false unused installed).2 before
    | false => rw [(absent j installed).2] at before; cases before
  rw [slot_eraseSlot, if_neg other]
  exact pendings j m before

/-! ## Line setup, power-on -/

section
variable {s : State} {l : LineSetup} (installedOut : ∀ h, s.isInstalled h = true → (s.head h).record.service = .out)
  (legal : PlacesLegal s)
include installedOut legal

/-- SET LINE is accepted while every head is OUT (R4). -/
theorem everyHead_out (j : HeadId) : (s.head j).record.service = .out := by
  cases installed : s.isInstalled j with
  | true => exact installedOut j installed
  | false => exact (legal.2.2 j installed).1

theorem relined_out (j : HeadId) : ((relined l s).head j).record.service = .out := by
  rw [head_relined]; split
  · rfl
  · exact everyHead_out installedOut legal j

theorem relined_counted (c : CountedIn anyHead s) : CountedIn anyHead (relined l s) :=
  c.of_records (by rw [relined_eq]; rfl) fun j => .inl ⟨relined_out installedOut legal j, everyHead_out installedOut legal j⟩

theorem relined_places : PlacesLegal (relined l s) := by
  have out (j : HeadId) := relined_out (l := l) installedOut legal j
  have slots : (relined l s).slots = s.slots := by rw [relined_eq]; rfl
  have staged (j : HeadId) (n : SlotId) (e : ((relined l s).head j).record.pendingSlot = some n) :
      ¬(s.isInstalled j = true ∧ l.headCount ≤ j.val) ∧ (s.head j).record.pendingSlot = some n := by
    rw [head_relined] at e
    split at e
    · cases e
    next kept => exact ⟨kept, e⟩
  refine ⟨fun j member => absurd (out j) member, fun j n e => ?_, fun j away => ⟨out j, ?_⟩⟩
  · rw [State.slot, slots]; exact legal.2.1 j n (staged j n e).2
  · refine Option.eq_none_iff_forall_ne_some.mpr fun n e => ?_
    obtain ⟨kept, before⟩ := staged j n e
    have beyond : l.headCount ≤ j.val := by
      rw [State.isInstalled, relined_tracker] at away
      exact Nat.not_lt.mp (of_decide_eq_false away)
    have absent : s.isInstalled j = false := Bool.eq_false_iff.mpr fun installed => kept ⟨installed, beyond⟩
    rw [(legal.2.2 j absent).2] at before; cases before

end

section
variable {t : State} (heads : ∀ h, ∃ presence pressure, t.head h = Head.powerOn presence pressure) (slots : ∀ n, t.slot n = .powerOn)
include heads

theorem record_powerOn (h : HeadId) : (t.head h).record = .powerOn := by
  obtain ⟨presence, pressure, e⟩ := heads h
  rw [e]; rfl

include slots

theorem membersCounted_powerOn : MembersCounted t := by
  have nobody (n : SlotId) (j : HeadId) : t.memberOf n j = false := memberOf_out (by rw [record_powerOn heads]; rfl)
  refine membersCounted_iff.mpr ⟨fun n => ?_, fun h member => ?_, fun h n staged => ?_, fun h _ => ?_⟩
  · have members : t.membersIn anyHead n = 0 := tally_none fun j => by rw [nobody]; rfl
    have adopters : t.adoptersIn anyHead n = 0 := adoptersIn_none fun j _ => by rw [State.adopterOf, nobody]; rfl
    rw [slots, members, adopters]
    exact ⟨⟨rfl, nofun, nofun, fun _ => ⟨rfl, rfl, rfl⟩⟩, nofun⟩
  · rw [record_powerOn heads] at member; exact absurd rfl member
  · rw [record_powerOn heads] at staged; cases staged
  · rw [record_powerOn heads]; exact ⟨rfl, rfl⟩

end

/-! ## Every change -/

theorem SameBooks.membersCounted {s t : State} (e : SameBooks s t) (hs : MembersCounted s) : MembersCounted t := by
  obtain ⟨counted, legal⟩ := membersCounted_iff.mp hs
  refine membersCounted_iff.mpr ⟨counted.of_records e.slots fun j => .inr (by rw [e.record]; exact ⟨Iff.rfl, rfl, rfl⟩), ?_⟩
  exact (PlacesKept.of_same (fun j => by rw [e.record]; exact .refl _) (fun n => by rw [State.slot, State.slot, e.slots]; exact id) e.line).legal legal

theorem dropPending_sameMembers {s : State} (hs : MembersCounted s) : MembersCounted { dropPending s with learningHold := true } := by
  obtain ⟨counted, legal⟩ := membersCounted_iff.mp hs
  have record (j : HeadId) : ((dropPending s).head j).record = { (s.head j).record with pendingA := none, pendingT := none } := by
    rw [dropPending, head_mapHeads]
  have places : PlacesKept s (dropPending s) := .of_same (fun j => by rw [record]; exact ⟨rfl, rfl, rfl⟩) (fun _ => id) rfl
  have counts : CountedIn anyHead (dropPending s) := counted.of_records rfl fun j => .inr (by rw [record]; exact ⟨Iff.rfl, rfl, rfl⟩)
  exact membersCounted_iff.mpr ⟨counts, places.legal legal⟩

theorem BookStep.membersCounted {s t : State} (e : BookStep s t) (hs : MembersCounted s) : MembersCounted t := by
  obtain ⟨counted, legal⟩ := membersCounted_iff.mp hs
  cases e with
  | quiet q => exact q.sameBooks.membersCounted hs
  | own h f own => exact membersCounted_iff.mpr ⟨own_counted own counted, (own_placesKept own).legal legal⟩
  | leave h member =>
    obtain ⟨o, slot⟩ := Option.isSome_iff_exists.mp (legal.1 h member)
    exact membersCounted_iff.mpr ⟨becomeOut_counted slot member counted, (becomeOut_placesKept slot).legal legal⟩
  | join h n out installed slot current =>
    exact membersCounted_iff.mpr ⟨becomeJoining_counted slot out current counted, (becomeJoining_placesKept slot installed).legal legal⟩
  | takeSlot h _ =>
    cases staged : (s.head h).record.pendingSlot with
    | none => rw [commitSlot_none staged]; exact hs
    | some n => exact membersCounted_iff.mpr ⟨commitSlot_counted staged legal counted, (commitSlot_placesKept staged).legal legal⟩
  | adopt h _ => exact membersCounted_iff.mpr ⟨commitAdopt_counted counted, (commitAdopt_placesKept h s).legal legal⟩
  | assign h sl out _ => exact membersCounted_iff.mpr ⟨writeSlot_counted out counted, (writeSlot_placesKept out).legal legal⟩
  | current n rev _ _ => exact membersCounted_iff.mpr ⟨writeCurrent_counted counted, (writeCurrent_placesKept n rev s).legal legal⟩
  | pending n rev _ members free _ =>
    exact membersCounted_iff.mpr ⟨writePending_counted members free counted, (writePending_placesKept n rev s).legal legal⟩
  | erase n unused => exact membersCounted_iff.mpr ⟨eraseSlot_counted legal unused counted, eraseSlot_places legal unused⟩
  | hold => exact dropPending_sameMembers hs
  | unhold => exact hs
  | reline l out => exact membersCounted_iff.mpr ⟨relined_counted out legal counted, relined_places out legal⟩
  | restart heads slots _ _ => exact membersCounted_powerOn heads slots

/-- Settles O59: a step is a chain of changes of the books (`exec_moves`), and each kind of change keeps the counts (`BookStep.membersCounted`). -/
theorem slotsCountTheirMembers : Obligations.SlotsCountTheirMembers :=
  keptByStep_of_books (fun e => e.membersCounted) fun e => e.membersCounted

end Sys2Proof.Machine
end

section
/-! SUPPORT. Working and pending A and T fit the revision a head uses (R38), and A_init lies within A_max in every revision (R23). -/

namespace Sys2Proof.Machine

/-! ## The clauses of the invariant -/

/-- In every revision of every slot A_init lies within A_max (R23). -/
def RevisionsLegal (s : State) : Prop := ∀ n rev, (s.slot n).current = some rev ∨ (s.slot n).pending = some rev → rev.InitWithin

/-- Heads that are not installed hold no slot. -/
def AbsentBare (s : State) : Prop := ∀ h, s.isInstalled h = false → (s.head h).record.slot = none

/-- The head's values fit the revision it uses (R38). -/
def FitsAt (s : State) (h : HeadId) : Prop := (s.head h).record.Fits (s.usedRevision h)

theorem valuesFollowRevision_iff {s : State} :
    ValuesFollowRevision s ↔ MembersCounted s ∧ RevisionsLegal s ∧ AbsentBare s ∧ ∀ h, FitsAt s h := Iff.rfl

/-! ## The revision used -/

/-- A head whose record stands uses the same revision while its slot's revisions stand. -/
theorem usedRevision_keeps {s t : State} {j : HeadId} (record : (t.head j).record = (s.head j).record)
    (revisions : ∀ n, (s.head j).record.slot = some n → (t.slot n).current = (s.slot n).current ∧ (t.slot n).pending = (s.slot n).pending) :
    t.usedRevision j = s.usedRevision j := by
  simp only [State.usedRevision, record]
  cases slot : (s.head j).record.slot with
  | none => rfl
  | some n =>
    obtain ⟨current, pending⟩ := revisions n slot
    simp only [current, pending]

theorem FitsAt.keeps {s t : State} {j : HeadId} (f : FitsAt s j) (record : (t.head j).record = (s.head j).record)
    (revisions : ∀ n, (s.head j).record.slot = some n → (t.slot n).current = (s.slot n).current ∧ (t.slot n).pending = (s.slot n).pending) :
    FitsAt t j := by
  rw [FitsAt, record, usedRevision_keeps record revisions]; exact f

theorem FitsAt.of_head {s t : State} {j : HeadId} (f : FitsAt s j) (head : t.head j = s.head j) (slots : t.slots = s.slots) : FitsAt t j :=
  f.keeps (congrArg Head.record head) fun n _ => by rw [State.slot, slots]; exact ⟨rfl, rfl⟩

/-- The revision used is one of the slot's. -/
theorem usedRevision_initWithin {s : State} (legal : RevisionsLegal s) {h : HeadId} {rev : Revision} (used : s.usedRevision h = some rev) :
    rev.InitWithin := by
  unfold State.usedRevision at used
  simp only at used
  split at used
  · cases used
  next n _ =>
    split at used
    · exact legal n rev (.inr used)
    · exact legal n rev (.inl used)

/-! ## Records that fit -/

/-- A head aligned with a revision fits it (R24). -/
theorem alignRecord_fits (rev : Revision) (r : HeadRecord) : (alignRecord rev r).Fits (some rev) := by
  refine ⟨nofun, fun rev' e => ?_⟩
  obtain rfl := Option.some.inj e
  refine ⟨Nat.min_le_right _ _, fun a e => ?_, clampTrim_within rev r.t, fun t e => ?_⟩
  · obtain ⟨v, -, rfl⟩ := Option.map_eq_some_iff.mp e
    exact Nat.min_le_right _ _
  · obtain ⟨v, -, rfl⟩ := Option.map_eq_some_iff.mp e
    exact clampTrim_within rev v

theorem HeadRecord.NothingPending.lead {r : HeadRecord} (f : r.NothingPending) {P : Nat → Prop} : ∀ a, r.pendingA = some a → P a :=
  fun a e => by rw [f.1] at e; cases e
theorem HeadRecord.NothingPending.trim {r : HeadRecord} (f : r.NothingPending) {P : Int → Prop} : ∀ t, r.pendingT = some t → P t :=
  fun t e => by rw [f.2] at e; cases e

/-- A member that adopts a revision fits it (R33, R54). -/
theorem adopting_fits (rev : Revision) {r : HeadRecord} (nothing : r.NothingPending) : (r.adopting rev).Fits (some rev) := by
  refine ⟨nofun, fun rev' e => ?_⟩
  obtain rfl := Option.some.inj e
  exact ⟨Nat.min_le_right _ _, nothing.lead, clampTrim_within rev r.t, nothing.trim⟩

/-- A record whose values start again under a revision fits it (R53). -/
theorem restarted_fits {used : Option Revision} (inits : ∀ rev, used = some rev → rev.InitWithin) {r : HeadRecord}
    (nothing : r.NothingPending) : (r.restarted used).Fits used := by
  refine ⟨fun absent => ?_, fun rev found => ?_⟩
  · rw [absent]; exact ⟨rfl, rfl, nothing⟩
  · rw [found]
    exact ⟨inits rev found, nothing.lead, ⟨by simp [HeadRecord.restarted], by simp [HeadRecord.restarted]⟩, nothing.trim⟩

theorem powerOn_fits : HeadRecord.powerOn.Fits none := ⟨fun _ => ⟨rfl, rfl, rfl, rfl⟩, nofun⟩

theorem fitsAt_powerOn {s : State} {j : HeadId} (record : (s.head j).record = .powerOn) : FitsAt s j := by
  rw [FitsAt, usedRevision_noSlot (by rw [record]; rfl), record]; exact powerOn_fits

/-! ## Promotion -/

/-- The pending revisions are kept or promoted: no new revision comes in (R34). -/
theorem RevisionsLegal.promoteIfDone {s : State} (legal : RevisionsLegal s) (n : SlotId) : RevisionsLegal (promoteIfDone n s) := by
  intro m rev e
  obtain ⟨-, same⟩ | ⟨rev', pending, -, slot, -⟩ := promoteIfDone_cases n s
  · rw [same] at e; exact legal m rev e
  · by_cases at' : m = n
    · subst at'
      rw [slot] at e
      obtain e | e := e
      · exact legal m rev (.inr (pending.trans e))
      · cases e
    · rw [slot_promoteIfDone_ne at'] at e; exact legal m rev e

theorem RevisionsLegal.of_slots {s t : State} (legal : RevisionsLegal s)
    (same : ∀ n, (t.slot n).current = (s.slot n).current ∧ (t.slot n).pending = (s.slot n).pending) : RevisionsLegal t := by
  intro n rev e
  rw [(same n).1, (same n).2] at e
  exact legal n rev e

/-- Where the last other has gone, every member picked is an adopter. -/
theorem adopters_all {q : HeadId → Bool} {n : SlotId} {s : State} (c : (s.slot n).CountedOpen (s.membersIn q n) (s.adoptersIn q n))
    (some : (s.slot n).pending.isSome = true) (zero : (s.slot n).unadopted = 0) {j : HeadId} (picked : q j = true)
    (member : s.memberOf n j = true) : s.adopterOf n j = true := by
  obtain ⟨-, -, pending, -⟩ := c
  obtain ⟨-, sum⟩ := pending some
  have same := tally_eq_imp (p := fun j => q j && s.adopterOf n j) (q := fun j => q j && s.memberOf n j) (fun i both => ?_)
    (show s.adoptersIn q n = s.membersIn q n by omega) j
  · simpa [picked, member] using same
  · simp only [State.adopterOf, Bool.and_eq_true] at both ⊢
    exact ⟨both.1, both.2.1⟩

/-- A promotion finds every member on the revision it makes current, and aligns the OUT heads (R24, R34). -/
theorem promoteIfDone_fits {q : HeadId → Bool} {n : SlotId} {s : State}
    (c : (s.slot n).CountedOpen (s.membersIn q n) (s.adoptersIn q n)) {j : HeadId} (picked : q j = true) (f : FitsAt s j) :
    FitsAt (promoteIfDone n s) j := by
  obtain ⟨-, same⟩ | ⟨rev, pending, zero, slot, heads⟩ := promoteIfDone_cases n s
  · rw [same]; exact f
  · by_cases here : (s.head j).record.slot = some n
    · have slot' : ((promoteIfDone n s).head j).record.slot = some n := by rw [heads]; exact (Head.promoted_place n rev _).slot.trans here
      have current : ((promoteIfDone n s).slot n).current = some rev := by rw [slot]; rfl
      by_cases out : (s.head j).record.service = .out
      · have aligned := (heads j).trans (Head.promoted_out here out)
        rw [FitsAt, usedRevision_current slot' (.inl (by rw [aligned]; exact out)), current, aligned]
        exact alignRecord_fits rev _
      · have member := (heads j).trans (Head.promoted_member here out)
        have adopter := adopters_all c (by rw [pending]; rfl) zero picked (memberOf_self out here)
        rw [adopterOf_self out here] at adopter
        rw [FitsAt, usedRevision_pending here out adopter, pending] at f
        rw [FitsAt, usedRevision_current slot' (.inr (by rw [member])), current, member]
        exact f
    · refine f.keeps (by rw [heads, Head.promoted_elsewhere here]) fun m e => ?_
      rw [slot_promoteIfDone_ne fun same => here (by rw [e, same])]
      exact ⟨rfl, rfl⟩

/-! ## A departure -/

theorem leftSlot_revisions (o : SlotId) (had : Bool) (s : State) (m : SlotId) :
    ((modSlot o (fun sl => sl.left had) s).slot m).current = (s.slot m).current ∧
    ((modSlot o (fun sl => sl.left had) s).slot m).pending = (s.slot m).pending := by
  rw [slot_modSlot]
  split
  next e => subst e; exact ⟨rfl, rfl⟩
  next => exact ⟨rfl, rfl⟩

theorem RevisionsLegal.leaveCounts {s : State} (legal : RevisionsLegal s) (o : SlotId) (had : Bool) :
    RevisionsLegal (leaveCounts o had s) := (legal.of_slots (leftSlot_revisions o had s)).promoteIfDone o

/-- The heads that stay fit their revisions, whether or not the departure promotes (R28, R34). -/
theorem leaveCounts_fits {h : HeadId} {o : SlotId} {s u : State} (c : CountedIn anyHead s) (member : (s.head h).record.service ≠ .out)
    (slot : (s.head h).record.slot = some o) (slots : u.slots = s.slots) (heads : ∀ j, j ≠ h → u.head j = s.head j) {j : HeadId}
    (ne : j ≠ h) (f : FitsAt s j) : FitsAt (leaveCounts o (s.head h).record.usesPending u) j := by
  have departed := (departed_counted c member slot slots heads).2
  rw [leaveCounts_eq]
  refine promoteIfDone_fits (q := allBut h) ?_ (decide_eq_true ne) ?_
  · rw [slot_modSlot_self]; exact departed
  · exact (f.of_head (heads j ne) slots).keeps rfl fun m _ => leftSlot_revisions o _ u m

theorem memberOf_current {s : State} (c : CountedIn anyHead s) {h : HeadId} {n : SlotId} (member : s.memberOf n h = true) :
    (s.slot n).current.isSome = true := by
  obtain ⟨⟨-, current, -⟩, -⟩ := c.apart h n
  rw [member] at current
  exact current (Nat.succ_pos _)

section
variable {h : HeadId} {o : SlotId} {s : State} (member : (s.head h).record.service ≠ .out) (slot : (s.head h).record.slot = some o)
  (c : CountedIn anyHead s)
include member slot c

theorem becomeOut_fits (fits : ∀ j, FitsAt s j) (j : HeadId) : FitsAt (becomeOut h s) j := by
  by_cases e : j = h
  · subst e
    obtain ⟨out, slot', -⟩ := becomeOut_self j s
    have some := (becomeOut_placesKept slot).current o (memberOf_current c (memberOf_self member slot))
    obtain ⟨rev, current⟩ := Option.isSome_iff_exists.mp some
    rw [FitsAt, usedRevision_current (slot'.trans slot) (.inl out), current, head_becomeOut_some slot current]
    exact alignRecord_fits rev _
  · have left := leaveCounts_fits (u := markOut h s) c member slot rfl (fun j ne => head_markOut_ne ne s) e (fits j)
    exact left.of_head (head_becomeOut_ne slot e) (becomeOut_slots slot)

end

/-! ## A change of slot at commit, an adoption -/

theorem leaveOld_fits {h : HeadId} {s : State} (c : CountedIn anyHead s) (member : (s.head h).record.service ≠ .out) {j : HeadId}
    (ne : j ≠ h) (f : FitsAt s j) : FitsAt (leaveOld h s) j := by
  cases slot : (s.head h).record.slot with
  | none => rw [leaveOld_none slot]; exact f
  | some o => rw [leaveOld_some slot]; exact leaveCounts_fits c member slot rfl (fun _ _ => rfl) ne f

section
variable {h : HeadId} {n : SlotId} {s : State} (staged : (s.head h).record.pendingSlot = some n)
include staged

theorem RevisionsLegal.commitSlot (legal : RevisionsLegal s) : RevisionsLegal (commitSlot h s) := by
  by_cases stays : (s.head h).record.service = .out ∨ (s.head h).record.slot = some n
  · obtain ⟨slots, -, -⟩ := commitSlot_sameCounts staged stays
    exact legal.of_slots fun m => by rw [State.slot, slots]; exact ⟨rfl, rfl⟩
  · obtain ⟨member, other⟩ := not_or.mp stays
    obtain ⟨-, slots, -⟩ := commitSlot_moved staged member other
    have left : RevisionsLegal (leaveOld h s) := by
      unfold leaveOld; split
      · exact legal
      · exact legal.leaveCounts _ _
    refine left.of_slots fun m => ?_
    rw [slots]
    split
    next e => subst e; exact ⟨rfl, rfl⟩
    next => exact ⟨rfl, rfl⟩

theorem commitSlot_fits (c : CountedIn anyHead s) (legal : RevisionsLegal s) (nothing : (s.head h).record.NothingPending)
    (fits : ∀ j, FitsAt s j) (j : HeadId) : FitsAt (commitSlot h s) j := by
  by_cases e : j = h
  · subst e
    have restarted := restarted_fits (fun rev => usedRevision_initWithin (RevisionsLegal.commitSlot staged legal) (h := j)) nothing
    rw [FitsAt, head_commitSlot staged]
    exact restarted
  · by_cases stays : (s.head h).record.service = .out ∨ (s.head h).record.slot = some n
    · obtain ⟨slots, heads, -⟩ := commitSlot_sameCounts staged stays
      exact (fits j).of_head (heads j e) slots
    · obtain ⟨member, other⟩ := not_or.mp stays
      obtain ⟨heads, slots, -⟩ := commitSlot_moved staged member other
      refine (leaveOld_fits c member e (fits j)).keeps (by rw [heads j e]) fun m _ => ?_
      rw [slots]
      split
      next e => subst e; exact ⟨rfl, rfl⟩
      next => exact ⟨rfl, rfl⟩

end

theorem adopted_revisions {h : HeadId} {n : SlotId} {rev : Revision} {s : State} (m : SlotId) :
    ((adopted h n rev s).slot m).current = (s.slot m).current ∧ ((adopted h n rev s).slot m).pending = (s.slot m).pending := by
  rw [slot_adopted]
  split
  next e => subst e; exact ⟨rfl, rfl⟩
  next => exact ⟨rfl, rfl⟩

theorem RevisionsLegal.commitAdopt {s : State} (legal : RevisionsLegal s) (h : HeadId) : RevisionsLegal (commitAdopt h s) := by
  obtain stays | ⟨n, rev, -, -, -, -, adopts⟩ := commitAdopt_cases h s
  · rw [stays]; exact legal
  · rw [adopts]; exact (legal.of_slots adopted_revisions).promoteIfDone n

theorem commitAdopt_fits {h : HeadId} {s : State} (c : CountedIn anyHead s) (nothing : (s.head h).record.NothingPending)
    (fits : ∀ j, FitsAt s j) (j : HeadId) : FitsAt (commitAdopt h s) j := by
  obtain stays | ⟨n, rev, slot, pending, member, uses, adopts⟩ := commitAdopt_cases h s
  · rw [stays]; exact fits j
  · rw [adopts]
    refine promoteIfDone_fits (q := anyHead) (adopted_counted slot pending member uses c n).1 rfl ?_
    by_cases e : j = h
    · subst e
      have self : (adopted j n rev s).head j = _ := head_adopted
      rw [FitsAt, usedRevision_pending (by rw [self]; exact slot) (by rw [self]; exact member) (by rw [self]; rfl),
        pending_adopted pending, self]
      exact adopting_fits rev nothing
    · exact (fits j).keeps (by rw [head_adopted_ne e]) fun m _ => adopted_revisions m

/-! ## Other changes -/

theorem own_fits {s : State} {h : HeadId} {f : HeadRecord → HeadRecord} (own : OwnChange s h (f (s.head h).record))
    (legal : RevisionsLegal s) (fits : ∀ j, FitsAt s j) (j : HeadId) : FitsAt (modRecord h f s) j := by
  by_cases e : j = h
  · subst e
    have used : (modRecord j f s).usedRevision j = s.usedRevision j := by
      simp only [State.usedRevision, head_modRecord, own.slot, own.uses, ne_eq, own.out]; rfl
    rw [FitsAt, used, head_modRecord]
    exact own.values (fun rev => usedRevision_initWithin legal) (fits j)
  · exact (fits j).of_head (head_modRecord_ne e _ s) rfl

theorem becomeJoining_fits {h : HeadId} {n : SlotId} {s : State} (slot : (s.head h).record.slot = some n)
    (out : (s.head h).record.service = .out) (fits : ∀ j, FitsAt s j) (j : HeadId) : FitsAt (becomeJoining h s) j := by
  have revisions (m : SlotId) : ((becomeJoining h s).slot m).current = (s.slot m).current ∧
      ((becomeJoining h s).slot m).pending = (s.slot m).pending := by
    rw [slot_becomeJoining slot]
    split
    next e => subst e; exact ⟨rfl, rfl⟩
    next => exact ⟨rfl, rfl⟩
  have head := head_becomeJoining slot j
  by_cases e : j = h
  · subst e
    rw [if_pos rfl] at head
    have before : (s.head j).record.Fits (s.slot n).current := usedRevision_current slot (.inl out) ▸ fits j
    rw [FitsAt, usedRevision_current (n := n) (by rw [head]; exact slot) (.inr (by rw [head])), (revisions n).1, head]
    exact before
  · rw [if_neg e] at head
    exact (fits j).keeps (by rw [head]) fun m _ => revisions m

theorem writeSlot_fits {s : State} {h : HeadId} {sl : Option SlotId} (out : (s.head h).record.service = .out) (legal : RevisionsLegal s)
    (fits : ∀ j, FitsAt s j) (j : HeadId) : FitsAt (writeSlot sl h s) j := by
  by_cases e : j = h
  · subst e
    have used : (writeSlot sl j s).usedRevision j = sl.bind fun n => (s.slot n).current := by
      cases sl with
      | none => exact usedRevision_noSlot (by rw [head_writeSlot])
      | some n => exact usedRevision_current (by rw [head_writeSlot]) (.inl (writeSlot_out out))
    rw [FitsAt, used, head_writeSlot]
    refine resetLearning_fits (fun rev found => ?_) (s.head j).record
    obtain ⟨n, -, current⟩ := Option.bind_eq_some_iff.mp found
    exact legal n rev (.inl current)
  · exact (fits j).of_head (head_writeSlot_ne e s) rfl

theorem memberOf_none {s : State} {n : SlotId} (none : s.membersIn anyHead n = 0) (j : HeadId) : s.memberOf n j = false := by
  rw [membersIn_anyHead s j] at none
  cases e : s.memberOf n j with
  | false => rfl
  | true => rw [e] at none; cases none

theorem adopterOf_none {s : State} {n : SlotId} (none : s.adoptersIn anyHead n = 0) (j : HeadId) : s.adopterOf n j = false := by
  rw [adoptersIn_anyHead s j] at none
  cases e : s.adopterOf n j with
  | false => rfl
  | true => rw [e] at none; cases none

/-- A revision that becomes current at once finds no member, and aligns the OUT heads (R24, R25, R26). -/
theorem writeCurrent_fits {s : State} {n : SlotId} {rev : Revision} (c : CountedIn anyHead s)
    (idle : (s.slot n).current = none ∨ (s.slot n).members = 0) (fits : ∀ j, FitsAt s j) (j : HeadId) : FitsAt (writeCurrent n rev s) j := by
  have head := head_writeCurrent n rev s j
  by_cases here : (s.head j).record.slot = some n
  · have out : (s.head j).record.service = .out := by
      by_contra member
      have none := memberOf_none ((c n).idle idle).1 j
      rw [memberOf_self member here] at none; cases none
    rw [if_pos ⟨here, out⟩] at head
    rw [FitsAt, usedRevision_current (n := n) (by rw [head]; exact here) (.inl (by rw [head]; exact out)), head, slot_writeCurrent, if_pos rfl]
    exact alignRecord_fits rev _
  · rw [if_neg fun both => here both.1] at head
    refine (fits j).keeps (by rw [head]) fun m e => ?_
    rw [slot_writeCurrent, if_neg fun same => here (by rw [e, same])]
    exact ⟨rfl, rfl⟩

/-- A revision that becomes pending is used by nobody yet (R30, R31). -/
theorem writePending_fits {s : State} {n : SlotId} {rev : Revision} (c : CountedIn anyHead s)
    (free : (s.slot n).pending = none ∨ (s.slot n).adopted = 0) (fits : ∀ j, FitsAt s j) (j : HeadId) : FitsAt (writePending n rev s) j := by
  by_cases here : (s.head j).record.slot = some n
  · have plain : (s.head j).record.service = .out ∨ (s.head j).record.usesPending = false := by
      by_cases out : (s.head j).record.service = .out
      · exact .inl out
      · refine .inr ?_
        rw [← adopterOf_self out here]
        exact adopterOf_none ((c n).noAdopter free) j
    have used : (writePending n rev s).usedRevision j = (s.slot n).current := by
      rw [usedRevision_current (s := writePending n rev s) here plain, slot_writePending, if_pos rfl]
    have before : (s.head j).record.Fits (s.slot n).current := usedRevision_current here plain ▸ fits j
    rw [FitsAt, used]
    exact before
  · refine (fits j).keeps rfl fun m e => ?_
    rw [slot_writePending, if_neg fun same => here (by rw [e, same])]
    exact ⟨rfl, rfl⟩

theorem eraseSlot_fits {s : State} {n : SlotId} (bare : AbsentBare s) (unused : s.slotInUse n = false) (fits : ∀ j, FitsAt s j)
    (j : HeadId) : FitsAt (eraseSlot n s) j := by
  refine (fits j).keeps rfl fun m slot => ?_
  have other : m ≠ n := by
    intro e
    rw [e] at slot
    cases installed : s.isInstalled j with
    | true => exact (slotInUse_false unused installed).1 slot
    | false => rw [bare j installed] at slot; cases slot
  rw [slot_eraseSlot, if_neg other]
  exact ⟨rfl, rfl⟩

theorem dropPending_fits {s : State} {j : HeadId} (f : FitsAt s j) : FitsAt (dropPending s) j := by
  have record : ((dropPending s).head j).record = { (s.head j).record with pendingA := none, pendingT := none } := by
    rw [dropPending, head_mapHeads]
  have used : (dropPending s).usedRevision j = s.usedRevision j :=
    usedRevision_congr (by rw [record]) (by rw [record]) (by rw [record]) rfl
  rw [FitsAt, used, record]
  have stand : ValuesStand (s.head j).record { (s.head j).record with pendingA := none, pendingT := none } :=
    ⟨rfl, .inl rfl, .inr rfl, .inr rfl⟩
  exact stand.fits f

theorem relined_fits {s : State} {l : LineSetup} {j : HeadId} (f : FitsAt s j) : FitsAt (relined l s) j := by
  have head := head_relined l s j
  split at head
  · exact fitsAt_powerOn (by rw [head]; rfl)
  · exact f.of_head head (by rw [relined_eq]; rfl)

/-! ## Heads that are not installed -/

theorem AbsentBare.keeps {s t : State} (bare : AbsentBare s) (line : t.tracker.line = s.tracker.line)
    (slots : ∀ j, s.isInstalled j = false → (t.head j).record.slot = (s.head j).record.slot) : AbsentBare t := by
  intro j away
  have away' : s.isInstalled j = false := by rw [State.isInstalled, ← line]; exact away
  rw [slots j away']
  exact bare j away'

theorem becomeOut_bare {h : HeadId} {o : SlotId} {s : State} (slot : (s.head h).record.slot = some o) (bare : AbsentBare s) :
    AbsentBare (becomeOut h s) := by
  refine bare.keeps (by rw [becomeOut_tablesOnly h s]) fun j _ => ?_
  by_cases e : j = h
  · subst e; exact (becomeOut_self j s).2.1
  · rw [head_becomeOut_ne slot e]
    exact ((SamePlace.of_eq (head_markOut_ne e s)).trans (leaveCounts_place o _ _ j)).slot

theorem commitSlot_bare {h : HeadId} {n : SlotId} {s : State} (staged : (s.head h).record.pendingSlot = some n) (places : PlacesLegal s)
    (bare : AbsentBare s) : AbsentBare (commitSlot h s) := by
  refine bare.keeps (by rw [commitSlot_tablesOnly staged]) fun j away => ?_
  have other : j ≠ h := by
    rintro rfl
    rw [(places.2.2 j away).2] at staged; cases staged
  by_cases stays : (s.head h).record.service = .out ∨ (s.head h).record.slot = some n
  · rw [(commitSlot_sameCounts staged stays).2.1 j other]
  · obtain ⟨member, moves⟩ := not_or.mp stays
    rw [(commitSlot_moved staged member moves).1 j other]
    exact (leaveOld_place h s j).slot

theorem commitAdopt_bare {s : State} (h : HeadId) (bare : AbsentBare s) : AbsentBare (commitAdopt h s) := by
  refine bare.keeps (by rw [commitAdopt_allTables h s]) fun j _ => ?_
  obtain stays | ⟨n, rev, -, -, -, -, adopts⟩ := commitAdopt_cases h s
  · rw [stays]
  · rw [adopts]; exact ((adopted_place j).trans (promoteIfDone_place n _ j)).slot

theorem writeSlot_bare {s : State} {h : HeadId} {sl : Option SlotId} (installed : s.isInstalled h = true) (bare : AbsentBare s) :
    AbsentBare (writeSlot sl h s) := by
  refine bare.keeps rfl fun j away => ?_
  rw [head_writeSlot_ne]
  rintro rfl
  rw [installed] at away; cases away

theorem relined_bare {s : State} {l : LineSetup} (bare : AbsentBare s) : AbsentBare (relined l s) := by
  intro j away
  rw [State.isInstalled, relined_tracker] at away
  have beyond : l.headCount ≤ j.val := Nat.not_lt.mp (of_decide_eq_false away)
  rw [head_relined]
  split
  · rfl
  next kept => exact bare j (Bool.eq_false_iff.mpr fun installed => kept ⟨installed, beyond⟩)

/-! ## Every change -/

theorem SameBooks.valuesFollowRevision {s t : State} (e : SameBooks s t) (hs : ValuesFollowRevision s) : ValuesFollowRevision t := by
  obtain ⟨members, legal, bare, fits⟩ := valuesFollowRevision_iff.mp hs
  have slot (n : SlotId) : t.slot n = s.slot n := by rw [State.slot, e.slots]; rfl
  refine ⟨e.membersCounted members, legal.of_slots fun n => by rw [slot]; exact ⟨rfl, rfl⟩,
    bare.keeps e.line fun j _ => by rw [e.record], fun h => (fits h).keeps (e.record h) fun n _ => by rw [slot]; exact ⟨rfl, rfl⟩⟩

theorem BookStep.revisionsLegal {s t : State} (e : BookStep s t) (members : MembersCounted s) (legal : RevisionsLegal s) :
    RevisionsLegal t := by
  obtain ⟨-, places⟩ := membersCounted_iff.mp members
  cases e with
  | quiet q => exact legal.of_slots fun n => by rw [State.slot, q.slots]; exact ⟨rfl, rfl⟩
  | own h f own => exact legal
  | leave h member =>
    obtain ⟨o, slot⟩ := Option.isSome_iff_exists.mp (places.1 h member)
    have marked : RevisionsLegal (markOut h s) := legal
    exact (marked.leaveCounts o _).of_slots fun n => by rw [slot_becomeOut slot]; exact ⟨rfl, rfl⟩
  | join h n _ _ slot _ =>
    refine legal.of_slots fun m => ?_
    rw [slot_becomeJoining slot]
    split
    next e => subst e; exact ⟨rfl, rfl⟩
    next => exact ⟨rfl, rfl⟩
  | takeSlot h _ =>
    cases staged : (s.head h).record.pendingSlot with
    | none => rw [commitSlot_none staged]; exact legal
    | some n => exact RevisionsLegal.commitSlot staged legal
  | adopt h _ => exact legal.commitAdopt h
  | assign h sl _ _ => exact legal
  | current n rev _ within =>
    intro m rev' e
    rw [slot_writeCurrent] at e
    split at e
    next at' =>
      subst at'
      obtain e | e := e
      · exact Option.some.inj e ▸ within
      · exact legal m rev' (.inr e)
    next => exact legal m rev' e
  | pending n rev _ _ _ within =>
    intro m rev' e
    rw [slot_writePending] at e
    split at e
    next at' =>
      subst at'
      obtain e | e := e
      · exact legal m rev' (.inl e)
      · exact Option.some.inj e ▸ within
    next => exact legal m rev' e
  | erase n _ =>
    intro m rev' e
    have slot := slot_eraseSlot n m s
    rw [eraseSlot] at slot
    rw [slot] at e
    split at e
    next at' =>
      subst at'
      obtain e | e := e
      · cases e
      · exact legal m rev' (.inr e)
    next => exact legal m rev' e
  | hold => exact legal
  | unhold => exact legal
  | reline l _ => exact legal.of_slots fun n => by rw [relined_eq]; exact ⟨rfl, rfl⟩
  | restart _ slots _ _ =>
    intro n rev e
    rw [slots] at e
    exact e.elim nofun nofun

theorem BookStep.absentBare {s t : State} (e : BookStep s t) (members : MembersCounted s) (bare : AbsentBare s) : AbsentBare t := by
  obtain ⟨-, places⟩ := membersCounted_iff.mp members
  cases e with
  | quiet q => exact bare.keeps q.line fun j _ => by rw [q.record]
  | own h f own =>
    refine bare.keeps rfl fun j _ => ?_
    by_cases e : j = h
    · subst e; rw [head_modRecord]; exact own.slot
    · rw [head_modRecord_ne e]
  | leave h member =>
    obtain ⟨o, slot⟩ := Option.isSome_iff_exists.mp (places.1 h member)
    exact becomeOut_bare slot bare
  | join h n _ _ slot _ =>
    refine bare.keeps (by rw [becomeJoining_eq slot]; rfl) fun j _ => ?_
    rw [head_becomeJoining slot]
    split
    next e => subst e; rfl
    next => rfl
  | takeSlot h _ =>
    cases staged : (s.head h).record.pendingSlot with
    | none => rw [commitSlot_none staged]; exact bare
    | some n => exact commitSlot_bare staged places bare
  | adopt h _ => exact commitAdopt_bare h bare
  | assign h sl _ installed => exact writeSlot_bare installed bare
  | current n rev _ _ => exact bare.keeps rfl fun j _ => (writeCurrent_place n rev s j).slot
  | pending n rev _ _ _ _ => exact bare
  | erase n _ => exact bare
  | hold =>
    have dropped : AbsentBare (dropPending s) := bare.keeps rfl fun j _ => by rw [dropPending, head_mapHeads]
    exact dropped
  | unhold => exact bare
  | reline l _ => exact relined_bare bare
  | restart heads _ _ _ => exact fun j _ => by rw [record_powerOn heads]; rfl

theorem BookStep.fits {s t : State} (e : BookStep s t) (hs : ValuesFollowRevision s) (j : HeadId) : FitsAt t j := by
  obtain ⟨members, legal, bare, fits⟩ := valuesFollowRevision_iff.mp hs
  obtain ⟨counted, places⟩ := membersCounted_iff.mp members
  cases e with
  | quiet q => exact (fits j).keeps (q.record j) fun n _ => by rw [State.slot, q.slots]; exact ⟨rfl, rfl⟩
  | own h f own => exact own_fits own legal fits j
  | leave h member =>
    obtain ⟨o, slot⟩ := Option.isSome_iff_exists.mp (places.1 h member)
    exact becomeOut_fits member slot counted fits j
  | join h n out _ slot _ => exact becomeJoining_fits slot out fits j
  | takeSlot h nothing =>
    cases staged : (s.head h).record.pendingSlot with
    | none => rw [commitSlot_none staged]; exact fits j
    | some n => exact commitSlot_fits staged counted legal nothing fits j
  | adopt h nothing => exact commitAdopt_fits counted nothing fits j
  | assign h sl out _ => exact writeSlot_fits out legal fits j
  | current n rev idle _ => exact writeCurrent_fits counted idle fits j
  | pending n rev _ _ free _ => exact writePending_fits counted free fits j
  | erase n unused => exact eraseSlot_fits bare unused fits j
  | hold =>
    have dropped : FitsAt (dropPending s) j := dropPending_fits (fits j)
    exact dropped
  | unhold => exact fits j
  | reline l _ => exact relined_fits (fits j)
  | restart heads _ _ _ => exact fitsAt_powerOn (record_powerOn heads j)

theorem BookStep.valuesFollowRevision {s t : State} (e : BookStep s t) (hs : ValuesFollowRevision s) : ValuesFollowRevision t := by
  obtain ⟨members, legal, bare, -⟩ := valuesFollowRevision_iff.mp hs
  exact valuesFollowRevision_iff.mpr ⟨e.membersCounted members, e.revisionsLegal members legal, e.absentBare members bare, e.fits hs⟩

/-- Settles O58: the ranges with the glitch count by `recordsInRange_kept`, the learning hold by `holdDropsPending_kept`, and the values as the
counts, change by change. -/
theorem recordsStayInRange : Obligations.RecordsStayInRange :=
  ⟨recordsInRange_kept, keptByStep_of_books (fun e => e.valuesFollowRevision) fun e => e.valuesFollowRevision, holdDropsPending_kept⟩

end Sys2Proof.Machine
end

section
/-! SUPPORT. WRITE RECIPE and ERASE RECIPE (R22 to R35): the field pass, and what an accepted request writes. -/

namespace Sys2Proof.Machine

/-! ## The field pass of a revision block (R22, R23) -/

/-- The numbered checks of WRITE RECIPE (R22, R23). -/
def blockChecks (b : RevisionBlock) : List (Nat × Bool) :=
  [(1, within 1000 250000 b.vt.toNat), (2, decide (b.s.toNat < b.vt.toNat)), (3, within 0 5000 b.aMax.toNat),
   (4, within 0 b.aMax.toNat b.aInit.toNat), (5, within 1 500 b.aStepMax.toNat), (6, within 0 6 b.g.toNat),
   (7, within 0 2000 b.tMax.toNat && decide (b.aMax.toNat + b.tMax.toNat < b.vt.toNat)), (8, within 0 6 b.gt.toNat),
   (9, true), (10, within 0 20000 b.rLo.toNat), (11, within 0 20000 b.rHi.toNat),
   (12, (flagOf b.learning).isSome), (13, (flagOf b.topUp).isSome), (14, within 0 5000 b.u.toNat),
   (15, within 0 2000 b.aTop.toNat && (decide (b.topUp ≠ 1#8) || decide (b.aTop.toNat < b.u.toNat))),
   (16, within 100 20000 b.tEq.toNat), (17, within 10 20000 b.tStart.toNat), (18, within 10 5000 b.tStall.toNat),
   (19, within 10 5000 b.tStill.toNat), (20, within 100 20000 b.tSettleMax.toNat), (21, within 50 20000 b.tSnift.toNat)]

theorem blockFirstBad_eq (b : RevisionBlock) : blockFirstBad b = firstBad (blockChecks b) := rfl

theorem blockChecks_numbers (b : RevisionBlock) : (blockChecks b).map (·.1) = List.range' 1 21 := rfl

/-- A flag field passes where it is 0 or 1 (R197). -/
theorem flagOf_isSome (b : Byte) : (flagOf b).isSome = true ↔ b.toNat ≤ 1 := by
  rw [flagOf]
  by_cases off : b = 0#8
  · subst off; decide
  · by_cases on : b = 1#8
    · subst on; decide
    · rw [if_neg off, if_neg on]
      have : b.toNat ≠ 0 := fun e => off (BitVec.eq_of_toNat_eq e)
      have : b.toNat ≠ 1 := fun e => on (BitVec.eq_of_toNat_eq e)
      refine ⟨nofun, fun small => ?_⟩
      omega

theorem blockChecks_test (b : RevisionBlock) : ∀ c ∈ blockChecks b, c.2 = true ↔ blockFieldOk b c.1 := by
  have topUp : b.topUp ≠ 1#8 ∨ b.aTop.toNat < b.u.toNat ↔ (b.topUp = 1#8 → b.aTop.toNat < b.u.toNat) := imp_iff_not_or.symm
  simp only [blockChecks, List.forall_mem_cons, blockFieldOk, within, flagOf_isSome, Bool.and_eq_true, Bool.or_eq_true, decide_eq_true_eq,
    topUp, Nat.zero_le, true_and]
  simp

theorem blockFirstBad_some {b : RevisionBlock} {i : Nat} (lo : 1 ≤ i) (hi : i ≤ 21) (bad : ¬blockFieldOk b i)
    (before : ∀ j, 1 ≤ j → j < i → blockFieldOk b j) : blockFirstBad b = some i := by
  rw [blockFirstBad_eq]
  refine firstBad_eq_some (blockChecks_test b) ?_ ?_ bad ?_ <;> rw [blockChecks_numbers]
  · decide
  · rw [List.mem_range'_1]; omega
  · intro j hj less
    rw [List.mem_range'_1] at hj
    exact before j hj.1 less

theorem blockFirstBad_none {b : RevisionBlock} (all : ∀ i, blockFieldOk b i) : blockFirstBad b = none :=
  firstBad_eq_none (blockChecks_test b) fun j _ => all j

/-! ## The slot named -/

theorem slotOf_none {b : Byte} (high : 8 ≤ b.toNat) : slotOf b = none := dif_neg (Nat.not_lt.mpr high)

theorem slotOf_some {b : Byte} {n : SlotId} (named : b.toNat = n.val) : slotOf b = some n := by
  have below : b.toNat < 8 := named ▸ n.isLt
  rw [slotOf, dif_pos below]
  exact congrArg some (Fin.ext named)

theorem slotState_active_iff {sl : Slot} : sl.state = .active ↔ sl.current.isSome = true ∧ sl.members ≠ 0 := by
  refine ⟨slotState_active, fun ⟨current, members⟩ => ?_⟩
  obtain ⟨rev, current⟩ := Option.isSome_iff_exists.mp current
  simp [Slot.state, current, members]

/-! ## WRITE RECIPE -/

section
variable {slot : Byte} {b : RevisionBlock} {n : SlotId} {s : State} (named : slot.toNat = n.val)
include named

theorem serveWriteRecipe_badField {i : Nat} (bad : blockFirstBad b = some i) : serveWriteRecipe slot b s = (s, .badField i) := by
  simp only [serveWriteRecipe, slotOf_some named, bad]

section
variable (passes : blockFirstBad b = none)
include passes

theorem serveWriteRecipe_current (idle : (s.slot n).current = none ∨ (s.slot n).members = 0) : serveWriteRecipe slot b s =
    (writeCurrent n { number := (s.slot n).counter + 1, recipe := recipeOf b } s, .done) := by
  have inactive : (s.slot n).state ≠ .active := by
    rw [ne_eq, slotState_active_iff]
    rintro ⟨some, members⟩
    obtain absent | zero := idle
    · rw [absent] at some; cases some
    · exact members zero
  simp only [serveWriteRecipe, slotOf_some named, passes]
  cases state : (s.slot n).state with
  | empty => rfl
  | ready => rfl
  | active => exact absurd state inactive

section
variable (current : (s.slot n).current.isSome = true) (members : (s.slot n).members ≠ 0)
include current members

theorem serveWriteRecipe_pending (free : (s.slot n).pending = none ∨ (s.slot n).adopted = 0) : serveWriteRecipe slot b s =
    (writePending n { number := (s.slot n).counter + 1, recipe := recipeOf b } s, .done) := by
  simp only [serveWriteRecipe, slotOf_some named, passes, slotState_active_iff.mpr ⟨current, members⟩]
  refine if_neg ?_
  rintro ⟨some, adopted⟩
  obtain absent | zero := free
  · rw [absent] at some; cases some
  · exact adopted zero

theorem serveWriteRecipe_busy (pending : (s.slot n).pending.isSome = true) (adopted : (s.slot n).adopted ≠ 0) :
    serveWriteRecipe slot b s = (s, .plain .revisionBusy) := by
  simp only [serveWriteRecipe, slotOf_some named, passes, slotState_active_iff.mpr ⟨current, members⟩]
  exact if_pos ⟨pending, adopted⟩

end
end

/-! ## ERASE RECIPE -/

omit named in
theorem slotInUse_iff : s.slotInUse n = true ↔
    ∃ h, s.isInstalled h = true ∧ ((s.head h).record.slot = some n ∨ (s.head h).record.pendingSlot = some n) := by
  simp only [State.slotInUse, List.any_eq_true, decide_eq_true_eq, mem_installed]

end

theorem exec_writeRecipe (t : Time) (slot : Byte) (b : RevisionBlock) (s : State) :
    exec (.writeRecipe t slot b) s = .next (replied 0x07 (serveWriteRecipe slot b (s.advance t))) := rfl

theorem exec_eraseRecipe (t : Time) (slot : Byte) (s : State) :
    exec (.eraseRecipe t slot) s = .next (replied 0x08 (serveEraseRecipe slot (s.advance t))) := rfl

/-- Settles O37: the field pass by `firstBad_eq_some` and `firstBad_eq_none`, then the slot's state, whose writes are `writeCurrent` and
`writePending`. -/
theorem recipeRequestsServed : Obligations.RecipeRequestsServed := by
  refine ⟨fun t slot b s => ⟨fun high => ?_, fun n named => ⟨fun i lo hi bad before => ?_, fun all idle => ?_,
    fun all current members free => ?_, fun all current members pending adopted => ?_⟩⟩, fun t slot s => ⟨fun high => ?_,
    fun n named => ⟨fun used => ?_, fun unused => ?_⟩⟩⟩
  · rw [exec_writeRecipe, serveWriteRecipe, slotOf_none high]; rfl
  · rw [exec_writeRecipe, serveWriteRecipe_badField named (blockFirstBad_some lo hi bad before)]; rfl
  · refine ⟨writeCurrent n { number := (s.slot n).counter + 1, recipe := recipeOf b } (s.advance t), ?_, rfl, fun h => ?_, rfl⟩
    · rw [exec_writeRecipe, serveWriteRecipe_current (s := s.advance t) named (blockFirstBad_none all) idle]; rfl
    · exact head_writeCurrent n _ (s.advance t) h
  · rw [exec_writeRecipe, serveWriteRecipe_pending (s := s.advance t) named (blockFirstBad_none all) current members free]; rfl
  · rw [exec_writeRecipe, serveWriteRecipe_busy (s := s.advance t) named (blockFirstBad_none all) current members pending adopted]; rfl
  · rw [exec_eraseRecipe, serveEraseRecipe, slotOf_none high]; rfl
  · have inUse : (s.advance t).slotInUse n = true := slotInUse_iff (s := s.advance t) |>.mpr used
    rw [exec_eraseRecipe, serveEraseRecipe, slotOf_some named]
    simp only [inUse, if_true]
    rfl
  · have free : (s.advance t).slotInUse n = false := Bool.eq_false_iff.mpr fun inUse => unused (slotInUse_iff.mp inUse)
    rw [exec_eraseRecipe, serveEraseRecipe, slotOf_some named]
    simp only [free]
    rfl

end Sys2Proof.Machine
end

section
/-! SUPPORT. The reading requests (R17, R22, R127 to R130): lengths of the images, READ TICKET, the search of FIND TICKETS and its page. -/

namespace Sys2Proof.Machine

/-! ## Lengths of the images (R198, R200, R201) -/

@[simp] theorem be1_length (v : Nat) : (be1 v).length = 1 := rfl
@[simp] theorem be2_length (v : Nat) : (be2 v).length = 2 := rfl
@[simp] theorem be4_length (v : Nat) : (be4 v).length = 4 := rfl
@[simp] theorem se2_length (v : Int) : (se2 v).length = 2 := rfl
@[simp] theorem se4_length (v : Int) : (se4 v).length = 4 := rfl
@[simp] theorem flagByte_length (b : Bool) : (flagByte b).length = 1 := rfl

@[simp] theorem Recipe.block_length (r : Recipe) : r.block.length = 42 := by
  unfold Recipe.block
  simp only [List.length_append, be1_length, be2_length, be4_length, flagByte_length]

@[simp] theorem revisionImage_length (rev : Option Revision) : (revisionImage rev).length = 43 := by
  cases rev <;> simp [revisionImage]

theorem recipeImage_length (n : SlotId) (sl : Slot) : (recipeImage n sl).length = 93 := by simp [recipeImage]

theorem verdictBytes_length (v : Option Verdict) : (verdictBytes v).length = 2 := by
  unfold verdictBytes; split <;> rfl

theorem ticketImage_length (loc : Location) (tk : Ticket) : (ticketImage loc tk).length = 96 := by
  unfold ticketImage
  simp only [List.length_append, List.length_singleton, be1_length, be2_length, be4_length, se2_length, se4_length,
    verdictBytes_length, Recipe.block_length]

theorem statusImage_length (s : State) : (statusImage s).length = 149 := by
  unfold statusImage
  simp only [List.length_append, List.length_singleton, List.length_map, List.length_finRange, Vector.length_toList, be1_length,
    be2_length, se2_length, flagByte_length]

/-! ## Two-byte fields, and the page of a find list (R197, R200) -/

theorem be2_half (v : Nat) : BitVec.ofNat 8 (v / 256) ++ BitVec.ofNat 8 v = BitVec.ofNat 16 v := by
  apply BitVec.eq_of_toNat_eq
  have low : v % 2 ^ 8 < 2 ^ 8 := Nat.mod_lt v (by decide)
  rw [BitVec.toNat_append, BitVec.toNat_ofNat, BitVec.toNat_ofNat, BitVec.toNat_ofNat, ← Nat.shiftLeft_add_eq_or_of_lt low,
    Nat.shiftLeft_eq]
  omega

/-- The tags of a page of `k` positions, with 0xFFFF in those left over (R200). -/
def pageBytes (k : Nat) (page : List Tag) : List Byte :=
  (page.flatMap fun tag => be2 tag.toNat) ++ List.replicate (2 * (k - page.length)) 0xFF

/-- What stands at a page's position (R200). -/
def pageEntry : Option Tag → Half
  | none => 0xFFFF
  | some tag => BitVec.ofNat 16 tag.toNat

theorem halfAt_cons_cons (x y : Byte) (l : List Byte) (i : Nat) : halfAt (x :: y :: l) (2 + i) = halfAt l i := by
  rw [Nat.add_comm]; rfl

theorem halfAt_replicate {n i : Nat} (room : i + 1 < n) : halfAt (List.replicate n 0xFF#8) i = 0xFFFF := by
  have byte {j : Nat} (below : j < n) : byteAt (List.replicate n 0xFF#8) j = 0xFF#8 := by
    simp [byteAt, List.getD_eq_getElem?_getD, below]
  rw [halfAt, byte (by omega), byte room]
  rfl

theorem pageBytes_entry : ∀ (page : List Tag) {k i : Nat}, i < k → page.length ≤ k → halfAt (pageBytes k page) (2 * i) = pageEntry page[i]?
  | [], k, i, below, _ => halfAt_replicate (n := 2 * k) (by omega)
  | tag :: page, k + 1, 0, _, _ => be2_half tag.toNat
  | tag :: page, k + 1, i + 1, below, room => by
    have rest : pageBytes (k + 1) (tag :: page) =
        BitVec.ofNat 8 (tag.toNat / 256) :: BitVec.ofNat 8 tag.toNat :: pageBytes k page := by
      simp [pageBytes, be2]
    rw [rest, show 2 * (i + 1) = 2 + 2 * i by omega, halfAt_cons_cons, List.getElem?_cons_succ]
    exact pageBytes_entry page (Nat.lt_of_succ_lt_succ below) (Nat.le_of_succ_le_succ room)

theorem pageBytes_length : ∀ (page : List Tag) {k : Nat}, page.length ≤ k → (pageBytes k page).length = 2 * k
  | [], k, _ => by simp [pageBytes]
  | tag :: page, k + 1, room => by
    have rest : (pageBytes (k + 1) (tag :: page)).length = 2 + (pageBytes k page).length := by
      simp only [pageBytes, List.flatMap_cons, List.length_append, be2_length, List.length_replicate, List.length_cons,
        Nat.add_sub_add_right]
      omega
    rw [rest, pageBytes_length page (Nat.le_of_succ_le_succ room)]
    omega

theorem findList_eq (found : List Tag) : findList found = BitVec.ofNat 8 (found.take 8).length ::
    (if 8 < found.length then 1#8 else 0#8) :: pageBytes 8 (found.take 8) := by
  simp [findList, be1, flagByte, pageBytes]

/-- The find list is the page of the tags found (R130, R200). -/
theorem findList_page (found : List Tag) : PageOf (findList found) found := by
  have room : (found.take 8).length ≤ 8 := List.length_take_le 8 found
  rw [findList_eq]
  refine ⟨?_, ?_, rfl, fun i below => ?_⟩
  · rw [List.length_cons, List.length_cons, pageBytes_length _ room]
  · rw [List.length_take]; rfl
  · rw [halfAt_cons_cons, pageBytes_entry _ below room, List.getElem?_take_of_lt below]
    cases found[i]? <;> rfl

/-! ## READ TICKET (R127, R128) -/

/-- A tag field names the tag of that number (R197). -/
theorem tagOf_some {n : Half} (small : n.toNat < 4096) : ∃ tag : Tag, tagOf n = some tag ∧ ∀ u : Tag, u = tag ↔ u.toNat = n.toNat := by
  refine ⟨_, if_pos small, fun u => ?_⟩
  rw [← BitVec.toNat_inj, BitVec.toNat_ofNat, Nat.mod_eq_of_lt small]

theorem tagOf_none {n : Half} (large : 4095 < n.toNat) : tagOf n = none := if_neg (by omega)

theorem byteCode {b : Byte} {n : Nat} (small : n < 256) : b = BitVec.ofNat 8 n ↔ b.toNat = n := by
  rw [← BitVec.toNat_inj, BitVec.toNat_ofNat, Nat.mod_eq_of_lt small]

theorem readByTag_large {number : Half} (large : 4095 < number.toNat) (s : State) : readByTag number s = .badField 1 := by
  rw [readByTag, tagOf_none large]

theorem readByTag_small {number : Half} (small : ¬4095 < number.toNat) {s : State} {found : Option (Location × Ticket)}
    (search : (s.searchOrder.find? fun p => decide (p.2.tag.toNat = number.toNat)) = found) :
    readByTag number s = found.elim (.plain .noSuchTag) fun p => .image (ticketImage p.1 p.2) := by
  obtain ⟨tag, named, iff⟩ := tagOf_some (n := number) (by omega)
  have byTag : s.ticketByTag tag = found := by
    rw [← search]
    simp only [State.ticketByTag, allTickets_eq_searchOrder, iff]
  rw [readByTag, named]
  simp only [byTag]
  cases found <;> rfl

theorem readByHead_none {number : Half} {s : State} (absent : s.installedHead number.toNat = none) :
    readByHead number s = .plain .noSuchHead := by
  rw [readByHead, absent]

theorem readByHead_some {number : Half} {s : State} {h : HeadId} (named : s.installedHead number.toNat = some h) :
    readByHead number s = (s.head h).ticket.elim (.plain .noSuchTag) fun tk => .image (ticketImage .live tk) := by
  rw [readByHead, named]
  cases e : (s.head h).ticket <;> simp only [e] <;> rfl

/-- A selector that is neither 0 nor 1 is at least 2. -/
theorem two_le_selector {sel : Byte} (zero : sel ≠ 0#8) (one : sel ≠ 1#8) : 2 ≤ sel.toNat := by
  have : sel.toNat ≠ 0 := fun e => zero ((byteCode (by decide)).mpr e)
  have : sel.toNat ≠ 1 := fun e => one ((byteCode (by decide)).mpr e)
  omega

/-! ## The fields of FIND TICKETS (R129) -/

theorem anyHeadOf_none {head : Byte} {s : State} (bad : ¬(head = 0xFF#8 ∨ (s.installedHead head.toNat).isSome = true)) :
    s.anyHeadOf head = none := by
  obtain ⟨named, absent⟩ := not_or.mp bad
  rw [State.anyHeadOf, if_neg named, Option.not_isSome_iff_eq_none.mp absent]; rfl

theorem anyHeadOf_some {head : Byte} {s : State} (ok : head = 0xFF#8 ∨ (s.installedHead head.toNat).isSome = true) :
    ∃ q, s.anyHeadOf head = some q ∧ ∀ x : HeadId, (q.all fun h => decide (x = h)) = decide (head = 0xFF#8 ∨ x.val = head.toNat) := by
  by_cases any : head = 0xFF#8
  · exact ⟨none, if_pos any, fun x => by simp [any]⟩
  · obtain ⟨h, named⟩ := Option.isSome_iff_exists.mp (ok.resolve_left any)
    refine ⟨some h, by rw [State.anyHeadOf, if_neg any, named]; rfl, fun x => ?_⟩
    have number := (installedHead_isInstalled named).1
    simp only [Option.all_some, any, false_or, ← number, Fin.ext_iff]

theorem anySlotOf_none {slot : Byte} (bad : ¬(slot = 0xFF#8 ∨ slot.toNat < 8)) : anySlotOf slot = none := by
  obtain ⟨named, high⟩ := not_or.mp bad
  rw [anySlotOf, if_neg named, slotOf_none (Nat.not_lt.mp high)]; rfl

theorem anySlotOf_some {slot : Byte} (ok : slot = 0xFF#8 ∨ slot.toNat < 8) :
    ∃ q, anySlotOf slot = some q ∧ ∀ x : SlotId, (q.all fun n => decide (x = n)) = decide (slot = 0xFF#8 ∨ x.val = slot.toNat) := by
  by_cases any : slot = 0xFF#8
  · exact ⟨none, if_pos any, fun x => by simp [any]⟩
  · have below := ok.resolve_left any
    refine ⟨some ⟨slot.toNat, below⟩, by rw [anySlotOf, if_neg any, slotOf_some (n := ⟨slot.toNat, below⟩) rfl]; rfl, fun x => ?_⟩
    simp only [Option.all_some, any, false_or, Fin.ext_iff]

/-- A byte below a small bound is one of its values. -/
theorem byte_lt_three {b : Byte} (small : b.toNat < 3) : b = 0#8 ∨ b = 1#8 ∨ b = 2#8 := by
  have : b.toNat = 0 ∨ b.toNat = 1 ∨ b.toNat = 2 := by omega
  exact this.imp (byteCode (by decide)).mpr (Or.imp (byteCode (by decide)).mpr (byteCode (by decide)).mpr)

theorem byte_ne {b c : Byte} (e : b.toNat ≠ c.toNat) : b ≠ c := fun same => e (congrArg BitVec.toNat same)

theorem anyLocationOf_none {b : Byte} (bad : 3 ≤ b.toNat) : anyLocationOf b = none := by
  have other (c : Byte) (small : c.toNat < 3) : b ≠ c := byte_ne (by omega)
  rw [anyLocationOf, if_neg (other _ (by decide)), if_neg (other _ (by decide)), if_neg (other _ (by decide))]

theorem anyLocationOf_some {b : Byte} (ok : b.toNat < 3) : ∃ q, anyLocationOf b = some q ∧ ∀ x : Location,
    (q.all fun l => decide (x = l)) = decide (b = 0#8 ∨ b = 1#8 ∧ x = .live ∨ b = 2#8 ∧ x = .transit) := by
  obtain rfl | rfl | rfl := byte_lt_three ok
  · exact ⟨none, rfl, fun x => by simp⟩
  · exact ⟨some .live, rfl, fun x => by simp⟩
  · exact ⟨some .transit, rfl, fun x => by simp⟩

theorem anyDispositionOf_none {b : Byte} (bad : 4 ≤ b.toNat) : anyDispositionOf b = none := by
  have other (c : Byte) (small : c.toNat < 4) : b ≠ c := byte_ne (by omega)
  rw [anyDispositionOf, if_neg (other _ (by decide)), if_neg (other _ (by decide)), if_neg (other _ (by decide)),
    if_neg (other _ (by decide))]

theorem anyDispositionOf_some {b : Byte} (ok : b.toNat < 4) : ∃ q, anyDispositionOf b = some q ∧ ∀ x : Disposition,
    (q.all fun d => decide (x = d)) = decide (b = 0#8 ∨ b = 1#8 ∧ x = .pending ∨ b = 2#8 ∧ x = .good ∨ b = 3#8 ∧ x = .reject) := by
  by_cases three : b = 3#8
  · subst three; exact ⟨some .reject, rfl, fun x => by simp⟩
  · have small : b.toNat < 3 := by
      have : b.toNat ≠ 3 := fun e => three ((byteCode (by decide)).mpr e)
      omega
    obtain rfl | rfl | rfl := byte_lt_three small
    · exact ⟨none, rfl, fun x => by simp⟩
    · exact ⟨some .pending, rfl, fun x => by simp⟩
    · exact ⟨some .good, rfl, fun x => by simp⟩

theorem anyVerdictOf_none {b : Byte} (bad : 3 ≤ b.toNat) : anyVerdictOf b = none := by
  have other (c : Byte) (small : c.toNat < 3) : b ≠ c := byte_ne (by omega)
  rw [anyVerdictOf, if_neg (other _ (by decide)), if_neg (other _ (by decide)), if_neg (other _ (by decide))]

theorem anyVerdictOf_some {b : Byte} (ok : b.toNat < 3) : ∃ q, anyVerdictOf b = some q ∧ ∀ x : Option Verdict,
    (q.all fun v => decide (x.isSome = v)) = decide (b = 0#8 ∨ b = 1#8 ∧ x.isSome = true ∨ b = 2#8 ∧ x = none) := by
  obtain rfl | rfl | rfl := byte_lt_three ok
  · exact ⟨none, rfl, fun x => by simp⟩
  · exact ⟨some true, rfl, fun x => by simp⟩
  · exact ⟨some false, rfl, fun x => by simp⟩

theorem startAfterOf_none {start : Half} (bad : ¬(start = 0xFFFF#16 ∨ start.toNat < 4096)) : startAfterOf start = none := by
  obtain ⟨named, large⟩ := not_or.mp bad
  rw [startAfterOf, if_neg named, tagOf_none (by omega)]; rfl

/-! ## The starting point (R130) -/

theorem startFrom_absent {tag : Tag} {l : List (Location × Ticket)} (absent : ∀ p ∈ l, p.2.tag ≠ tag) : startFrom (some tag) l = l := by
  refine if_neg ?_
  simpa using fun loc tk mem => absent (loc, tk) mem

theorem startFrom_after {tag : Tag} {before rest : List (Location × Ticket)} {x : Location × Ticket} (named : x.2.tag = tag)
    (apart : ∀ p ∈ before, p.2.tag ≠ tag) : startFrom (some tag) (before ++ x :: rest) = rest := by
  have present : (before ++ x :: rest).any (fun p => decide (p.2.tag = tag)) = true := by simp [named]
  have skipped : (before ++ x :: rest).dropWhile (fun p => decide (p.2.tag ≠ tag)) = x :: rest := by
    rw [List.dropWhile_append_of_pos fun p mem => decide_eq_true (apart p mem), List.dropWhile_cons_of_neg (by simp [named])]
  rw [startFrom, if_pos present, skipped, List.tail_cons]

/-- Where the search starts, as the statement puts it. -/
theorem startAfterOf_some {start : Half} (ok : start = 0xFFFF#16 ∨ start.toNat < 4096) {l rest : List (Location × Ticket)}
    (from' : (start = 0xFFFF#16 ∨ ∀ p ∈ l, p.2.tag.toNat ≠ start.toNat) ∧ rest = l ∨
      ∃ before x, l = before ++ x :: rest ∧ x.2.tag.toNat = start.toNat ∧ ∀ p ∈ before, p.2.tag.toNat ≠ start.toNat) :
    ∃ q, startAfterOf start = some q ∧ startFrom q l = rest := by
  by_cases none' : start = 0xFFFF#16
  · refine ⟨none, if_pos none', ?_⟩
    obtain ⟨-, rfl⟩ | ⟨before, x, -, named, -⟩ := from'
    · rfl
    · have small := x.2.tag.isLt
      rw [named, none'] at small
      exact absurd small (by decide)
  · obtain ⟨tag, named, iff⟩ := tagOf_some (ok.resolve_left none')
    refine ⟨some tag, by rw [startAfterOf, if_neg none', named]; rfl, ?_⟩
    obtain ⟨absent, rfl⟩ | ⟨before, x, rfl, here, apart⟩ := from'
    · exact startFrom_absent fun p mem e => absent.resolve_left none' p mem ((iff _).mp e)
    · exact startFrom_after ((iff _).mpr here) fun p mem e => apart p mem ((iff _).mp e)

/-! ## The statement -/

theorem exec_findTickets (t : Time) (head slot location disposition verdict : Byte) (start : Half) (s : State) :
    exec (.findTickets t head slot location disposition verdict start) s =
      .next (replied 0x05 (serveFindTickets head slot location disposition verdict start (s.advance t))) := rfl

/-- Settles O33: the images' lengths, READ TICKET by `readByTag_eq`, FIND TICKETS field by field, and its page by `findList_page`. -/
theorem readsChangeNothing : Obligations.ReadsChangeNothing := by
  intro t s s'
  refine ⟨statusImage_length s', rfl, fun slot high => ?_, fun slot n named => ⟨recipeImage_length n _, ?_⟩, fun sel number => ?_,
    ticketImage_length, fun head slot location disposition verdict start => ?_⟩
  · have served : serveReadRecipe slot s' = (s', .badField 0) := by rw [serveReadRecipe, slotOf_none high]
    show Host.Outcome.next (replied 0x03 (serveReadRecipe slot s')) = _
    rw [served]; rfl
  · have served : serveReadRecipe slot s' = (s', .image (recipeImage n (s.slot n))) := by rw [serveReadRecipe, slotOf_some named]; rfl
    show Host.Outcome.next (replied 0x03 (serveReadRecipe slot s')) = _
    rw [served]; rfl
  · show Host.Outcome.next (replied 0x04 (serveReadTicket sel number s')) = _
    congr 1
    by_cases byTag : sel = 0#8
    · subst byTag
      have served : serveReadTicket 0#8 number s' = (s', readByTag number s') := by rw [serveReadTicket, if_pos rfl]
      rw [served, if_neg (show ¬2 ≤ (0#8).toNat by decide), if_pos (show 0#8 = 0 by rfl)]
      split
      next large => rw [readByTag_large large]; rfl
      next small =>
        cases search : s.searchOrder.find? fun p => decide (p.2.tag.toNat = number.toNat) <;> rw [readByTag_small (s := s') small search] <;> rfl
    · by_cases byHead : sel = 1#8
      · subst byHead
        have served : serveReadTicket 1#8 number s' = (s', readByHead number s') := by
          rw [serveReadTicket, if_neg (by decide), if_pos rfl]
        rw [served, if_neg (show ¬2 ≤ (1#8).toNat by decide), if_neg (show ¬(1#8 = 0) by decide)]
        cases named : s.installedHead number.toNat with
        | none => rw [readByHead_none (s := s') named]; rfl
        | some h =>
          have served : readByHead number s' = (s.head h).ticket.elim (.plain .noSuchTag) fun tk => .image (ticketImage .live tk) :=
            readByHead_some named
          rw [served]
          cases held : (s.head h).ticket <;> simp only [held] <;> rfl
      · rw [if_pos (two_le_selector byTag byHead), serveReadTicket, if_neg byTag, if_neg byHead]
        rfl
  · intro headOk slotOk startOk refused matching
    have served (r : Reply) (e : serveFindTickets head slot location disposition verdict start s' = (s', r)) :
        exec (.findTickets t head slot location disposition verdict start) s =
          .next (answered 0x05 r.code r.detail r.payload s') := by
      rw [exec_findTickets]
      show Host.Outcome.next (replied 0x05 (serveFindTickets head slot location disposition verdict start s')) = _
      rw [e]; rfl
    refine ⟨fun bad => ?_, fun hok bad => ?_, fun hok nok bad => ?_, fun hok nok lok bad => ?_, fun hok nok lok dok bad => ?_,
      fun hok nok lok dok vok bad => ?_, fun hok nok lok dok vok sok rest from' => ?_⟩
    · refine served (.plain .noSuchHead) ?_
      rw [serveFindTickets, anyHeadOf_none (s := s') bad]
    all_goals obtain ⟨qh, headIs, headOf⟩ := anyHeadOf_some (s := s') hok
    · refine served (.badField 1) ?_
      simp only [serveFindTickets, headIs, anySlotOf_none bad]
    all_goals obtain ⟨qn, slotIs, slotOf⟩ := anySlotOf_some nok
    · refine served (.badField 2) ?_
      simp only [serveFindTickets, headIs, slotIs, anyLocationOf_none bad]
    all_goals obtain ⟨ql, locationIs, locationOf⟩ := anyLocationOf_some lok
    · refine served (.badField 3) ?_
      simp only [serveFindTickets, headIs, slotIs, locationIs, anyDispositionOf_none bad]
    all_goals obtain ⟨qd, dispositionIs, dispositionOf⟩ := anyDispositionOf_some dok
    · refine served (.badField 4) ?_
      simp only [serveFindTickets, headIs, slotIs, locationIs, dispositionIs, anyVerdictOf_none bad]
    all_goals obtain ⟨qv, verdictIs, verdictOf⟩ := anyVerdictOf_some vok
    · refine served (.badField 5) ?_
      simp only [serveFindTickets, headIs, slotIs, locationIs, dispositionIs, verdictIs, startAfterOf_none bad]
    · obtain ⟨qs, startIs, starts⟩ := startAfterOf_some sok from'
      refine ⟨_, served (.image (findList (s'.foundTags
        { head := qh, slot := qn, location := ql, disposition := qd, verdict := qv } qs))) ?_, ?_⟩
      · simp only [serveFindTickets, headIs, slotIs, locationIs, dispositionIs, verdictIs, startIs]
      · have found : s'.foundTags { head := qh, slot := qn, location := ql, disposition := qd, verdict := qv } qs =
            (rest.filter matching).map (·.2.tag) := by
          have same : s'.allTickets = s.searchOrder := allTickets_eq_searchOrder s'
          rw [State.foundTags, same, starts]
          congr 2
          funext p
          simp only [Selector.admits, headOf, slotOf, locationOf, dispositionOf, verdictOf, matching, BitVec.ofNat_eq_ofNat,
            Bool.decide_and, Bool.and_assoc]
        rw [← found]
        exact findList_page _

end Sys2Proof.Machine
end

section
/-! SUPPORT. What the resets make of records and recipe slots (R56, R57): values dropped, heads taken out, one head after another. -/

namespace Sys2Proof.Machine

/-! ## The record of a head while another one becomes OUT (R24, R28, R34) -/

/-- The record stands, or its slot's pending revision has been promoted, or it has been aligned with a revision of its slot. -/
def Realigned (s : State) (r r' : HeadRecord) : Prop :=
  r' = r ∨ r.slot ≠ none ∧ r' = { r with usesPending := false } ∨
  r.service = .out ∧ ∃ n rev, r.slot = some n ∧ ((s.slot n).current = some rev ∨ (s.slot n).pending = some rev) ∧ r' = alignRecord rev r

theorem promoted_realigned {s : State} {n : SlotId} {rev : Revision} (pending : (s.slot n).pending = some rev) (x : Head) :
    Realigned s x.record (x.promoted n rev).record := by
  by_cases slot : x.record.slot = some n
  · by_cases out : x.record.service = .out
    · rw [Head.promoted_out slot out]
      exact .inr (.inr ⟨out, n, rev, slot, .inr pending, rfl⟩)
    · rw [Head.promoted_member slot out]
      exact .inr (.inl ⟨by rw [slot]; exact nofun, rfl⟩)
  · rw [Head.promoted_elsewhere slot]
    exact .inl rfl

/-- A departure brings no revision into a slot: the current one afterwards was current or pending before. -/
theorem leaveCounts_revisions {o n : SlotId} {had : Bool} {s : State} {rev : Revision}
    (e : ((leaveCounts o had s).slot n).current = some rev ∨ ((leaveCounts o had s).slot n).pending = some rev) :
    (s.slot n).current = some rev ∨ (s.slot n).pending = some rev := by
  by_cases here : n = o
  · subst here
    obtain ⟨-, slot, -⟩ | ⟨rev', pending, -, slot, -⟩ := leaveCounts_cases n had s
    · rw [slot] at e; exact e
    · rw [slot] at e
      obtain e | e := e
      · exact .inr (pending.trans e)
      · cases e
  · rw [slot_leaveCounts_ne here] at e; exact e

theorem becomeOut_revisions {h : HeadId} {n : SlotId} {s : State} {rev : Revision}
    (e : ((becomeOut h s).slot n).current = some rev ∨ ((becomeOut h s).slot n).pending = some rev) :
    (s.slot n).current = some rev ∨ (s.slot n).pending = some rev := by
  cases slot : (s.head h).record.slot with
  | none => rw [becomeOut_noSlot slot] at e; exact e
  | some o =>
    rw [slot_becomeOut slot] at e
    exact leaveCounts_revisions (s := markOut h s) e

theorem becomeOut_realigned {h j : HeadId} (ne : j ≠ h) (s : State) : Realigned s (s.head j).record ((becomeOut h s).head j).record := by
  cases slot : (s.head h).record.slot with
  | none => rw [becomeOut_noSlot slot, head_markOut_ne ne]; exact .inl rfl
  | some o =>
    by_cases stays : (s.slot o).pending = none ∨ ((s.slot o).left (s.head h).record.usesPending).unadopted ≠ 0
    · rw [(becomeOut_stays slot stays).2 j ne]; exact .inl rfl
    · obtain ⟨some, zero⟩ := not_or.mp stays
      obtain ⟨rev, pending⟩ := Option.ne_none_iff_exists'.mp some
      rw [(becomeOut_promotes slot pending (not_not.mp zero)).2 j ne]
      exact promoted_realigned pending _

/-- The head itself is OUT, and aligned with a revision of its slot if there is one. -/
theorem becomeOut_realigned_self (h : HeadId) (s : State) :
    Realigned s { (s.head h).record with service := .out } ((becomeOut h s).head h).record := by
  cases slot : (s.head h).record.slot with
  | none => rw [becomeOut_noSlot slot, head_markOut]; exact .inl rfl
  | some o =>
    cases current : ((becomeOut h s).slot o).current with
    | none => rw [head_becomeOut_none slot current]; exact .inl rfl
    | some rev =>
      rw [head_becomeOut_some slot current]
      exact .inr (.inr ⟨rfl, o, rev, slot, becomeOut_revisions (.inl current), rfl⟩)

/-! ## Records alike but for what a reset drops -/

/-- How a reset may change a service state (R42, R43, R56): IN to LEAVING where the head is not EMPTY. -/
def Leaves (empty : Bool) (x y : Service) : Prop := y = x ∨ x = .inn ∧ empty = false ∧ y = .leaving

/-- The two records differ at most in what a reset drops, and in IN become LEAVING. -/
structure Alike (empty : Bool) (r r' : HeadRecord) : Prop where
  rest : r' = { r with
    service := r'.service, stagedK := r'.stagedK, pendingA := r'.pendingA, pendingT := r'.pendingT, pendingSlot := r'.pendingSlot
    resetStaged := r'.resetStaged, faultCount := r'.faultCount }
  service : Leaves empty r.service r'.service

theorem Alike.refl (empty : Bool) (r : HeadRecord) : Alike empty r r := ⟨rfl, .inl rfl⟩

namespace Alike
variable {empty : Bool} {r r' : HeadRecord}

theorem out_iff (e : Alike empty r r') : r'.service = .out ↔ r.service = .out := by
  obtain same | ⟨inn, -, leaving⟩ := e.service
  · rw [same]
  · rw [inn, leaving]; exact ⟨nofun, nofun⟩

theorem slot (e : Alike empty r r') : r'.slot = r.slot := by rw [e.rest]
theorem usesPending (e : Alike empty r r') : r'.usesPending = r.usesPending := by rw [e.rest]

theorem align (e : Alike empty r r') (rev : Revision) : Alike empty (alignRecord rev r) (alignRecord rev r') :=
  ⟨by rw [e.rest]; rfl, e.service⟩
theorem usesCurrent (e : Alike empty r r') : Alike empty { r with usesPending := false } { r' with usesPending := false } :=
  ⟨by rw [e.rest], e.service⟩
theorem out (e : Alike empty r r') : Alike empty { r with service := .out } { r' with service := .out } :=
  ⟨by rw [e.rest], .inl rfl⟩

theorem promoted {x y : Head} (e : Alike empty x.record y.record) (n : SlotId) (rev : Revision) :
    Alike empty (x.promoted n rev).record (y.promoted n rev).record := by
  by_cases slot : x.record.slot = some n
  · have slot' : y.record.slot = some n := e.slot.trans slot
    by_cases out : x.record.service = .out
    · rw [Head.promoted_out slot out, Head.promoted_out slot' (e.out_iff.mpr out)]
      exact e.align rev
    · rw [Head.promoted_member slot out, Head.promoted_member slot' fun c => out (e.out_iff.mp c)]
      exact e.usesCurrent
  · rw [Head.promoted_elsewhere slot, Head.promoted_elsewhere fun c => slot (e.slot.symm.trans c)]
    exact e

end Alike

theorem promoted_record_congr {x y : Head} (e : y.record = x.record) (n : SlotId) (rev : Revision) :
    (y.promoted n rev).record = (x.promoted n rev).record := by
  by_cases slot : x.record.slot = some n
  · by_cases out : x.record.service = .out
    · rw [Head.promoted_out slot out, Head.promoted_out (e ▸ slot) (e ▸ out)]
      exact congrArg (alignRecord rev) e
    · rw [Head.promoted_member slot out, Head.promoted_member (e ▸ slot) (e ▸ out)]
      exact congrArg (fun r : HeadRecord => { r with usesPending := false }) e
  · rw [Head.promoted_elsewhere slot, Head.promoted_elsewhere (e ▸ slot)]
    exact e

/-! ## Books alike -/

/-- The slots are the same, records of heads in `acted` alike, the others' the same. -/
structure BooksAlike (empty acted : HeadId → Bool) (s t : State) : Prop where
  slots : t.slots = s.slots
  records : ∀ j, Alike (empty j) (s.head j).record (t.head j).record
  others : ∀ j, acted j = false → (t.head j).record = (s.head j).record

section
variable {empty acted : HeadId → Bool} {s t : State} {h : HeadId}

theorem BooksAlike.refl (s : State) : BooksAlike empty acted s s := ⟨rfl, fun _ => .refl _ _, fun _ _ => rfl⟩

theorem BooksAlike.slot (e : BooksAlike empty acted s t) (n : SlotId) : t.slot n = s.slot n := by rw [State.slot, e.slots]; rfl

/-- A head that becomes OUT becomes OUT alike: the slots and the other heads see nothing of what a reset drops. -/
theorem BooksAlike.becomeOut (e : BooksAlike empty acted s t) (picked : acted h = true) :
    BooksAlike empty acted (becomeOut h s) (becomeOut h t) := by
  have here := e.records h
  have apart {j : HeadId} (out : acted j = false) : j ≠ h := fun c => by rw [c, picked] at out; cases out
  cases slot : (s.head h).record.slot with
  | none =>
    rw [becomeOut_noSlot slot, becomeOut_noSlot (here.slot.trans slot)]
    refine ⟨e.slots, fun j => ?_, fun j out => ?_⟩
    · by_cases c : j = h
      · subst c; rw [head_markOut, head_markOut]; exact here.out
      · rw [head_markOut_ne c, head_markOut_ne c]; exact e.records j
    · rw [head_markOut_ne (apart out), head_markOut_ne (apart out)]; exact e.others j out
  | some o =>
    have slot' : (t.head h).record.slot = some o := here.slot.trans slot
    have left : (t.slot o).left (t.head h).record.usesPending = (s.slot o).left (s.head h).record.usesPending := by
      rw [e.slot, here.usesPending]
    -- slot `o` and the other heads, with the promotion or without
    have cases : (Machine.becomeOut h t).slot o = (Machine.becomeOut h s).slot o ∧ ∀ j, j ≠ h →
        Alike (empty j) ((Machine.becomeOut h s).head j).record ((Machine.becomeOut h t).head j).record ∧
        (acted j = false → ((Machine.becomeOut h t).head j).record = ((Machine.becomeOut h s).head j).record) := by
      by_cases stays : (s.slot o).pending = none ∨ ((s.slot o).left (s.head h).record.usesPending).unadopted ≠ 0
      · obtain ⟨slots, heads⟩ := becomeOut_stays slot stays
        obtain ⟨slots', heads'⟩ := becomeOut_stays slot' (by rw [left, e.slot]; exact stays)
        refine ⟨by rw [slots, slots', left], fun j ne => ?_⟩
        rw [heads j ne, heads' j ne]
        exact ⟨e.records j, e.others j⟩
      · obtain ⟨some, zero⟩ := not_or.mp stays
        obtain ⟨rev, pending⟩ := Option.ne_none_iff_exists'.mp some
        have zero := not_not.mp zero
        obtain ⟨slots, heads⟩ := becomeOut_promotes slot pending zero
        obtain ⟨slots', heads'⟩ := becomeOut_promotes slot' (by rw [e.slot]; exact pending) (by rw [left]; exact zero)
        refine ⟨by rw [slots, slots', left], fun j ne => ?_⟩
        rw [heads j ne, heads' j ne]
        exact ⟨(e.records j).promoted o rev, fun out => promoted_record_congr (e.others j out) o rev⟩
    obtain ⟨atSlot, heads⟩ := cases
    refine ⟨slots_ext fun m => ?_, fun j => ?_, fun j out => (heads j (apart out)).2 out⟩
    · by_cases c : m = o
      · subst c; exact atSlot
      · rw [slot_becomeOut_ne slot c, slot_becomeOut_ne slot' c, e.slot]
    · by_cases c : j = h
      · subst c
        cases current : ((Machine.becomeOut j s).slot o).current with
        | none =>
          rw [head_becomeOut_none slot current, head_becomeOut_none slot' (by rw [atSlot]; exact current)]
          exact here.out
        | some rev =>
          rw [head_becomeOut_some slot current, head_becomeOut_some slot' (by rw [atSlot]; exact current)]
          exact here.out.align rev
      · exact (heads j c).1

end

/-! ## The steps of a reset -/

/-- A record that a reset has dropped something from, or a report has counted a fault in. -/
def Loosened (r r' : HeadRecord) : Prop := r' = { r with
  stagedK := r'.stagedK, pendingA := r'.pendingA, pendingT := r'.pendingT, pendingSlot := r'.pendingSlot, resetStaged := r'.resetStaged
  faultCount := r'.faultCount }

/-- One change that a reset makes to the books: `empty` tells the heads in phase EMPTY, `acted` those it acts on, `outs` those that may become
OUT. -/
inductive ResetStep (empty acted : HeadId → Bool) (outs : HeadId → Prop) : State → State → Prop
  | calm {s t : State} : (∀ j, (t.head j).record = (s.head j).record) → t.slots = s.slots → ResetStep empty acted outs s t
  | loosen {s : State} (h : HeadId) (f : HeadRecord → HeadRecord) : acted h = true → Loosened (s.head h).record (f (s.head h).record) →
      ResetStep empty acted outs s (modRecord h f s)
  | leaving {s : State} (h : HeadId) : acted h = true → (s.head h).record.service = .inn → empty h = false →
      ResetStep empty acted outs s (modRecord h (fun r => { r with service := .leaving }) s)
  | out {s : State} (h : HeadId) : acted h = true → outs h → (s.head h).record.service = .joining ∨
      (s.head h).record.service = .inn ∧ empty h = true → ResetStep empty acted outs s (becomeOut h s)

/-- A chain of such changes. -/
abbrev ResetSteps (empty acted : HeadId → Bool) (outs : HeadId → Prop) : State → State → Prop :=
  Relation.ReflTransGen (ResetStep empty acted outs)

section
variable {empty acted : HeadId → Bool} {outs : HeadId → Prop} {s t u : State} {h : HeadId}

theorem ResetStep.steps (e : ResetStep empty acted outs s t) : ResetSteps empty acted outs s t := .single e

theorem ResetSteps.trans (a : ResetSteps empty acted outs s t) (b : ResetSteps empty acted outs t u) : ResetSteps empty acted outs s u :=
  Relation.ReflTransGen.trans a b

theorem Quiet.resetSteps (q : Quiet s t) : ResetSteps empty acted outs s t := ResetStep.steps (.calm q.record q.slots)

theorem changeCauses_resetSteps (h : HeadId) (f : Causes → Causes) (s : State) : ResetSteps empty acted outs s (changeCauses h f s) :=
  (changeCauses_quiet h f s).resetSteps

variable (picked : acted h = true)
include picked

theorem takeOut_resetSteps (phase : s.phase h = .empty ↔ empty h = true)
    (mayOut : (s.head h).record.service = .joining ∨ (s.head h).record.service = .inn ∧ empty h = true → outs h) :
    ResetSteps empty acted outs s (takeOut h s) := by
  unfold takeOut
  split
  next joining => exact (ResetStep.out h picked (mayOut (.inl joining)) (.inl joining)).steps
  next inn =>
    split
    next e =>
      have e := phase.mp e
      exact (ResetStep.out h picked (mayOut (.inr ⟨inn, e⟩)) (.inr ⟨inn, e⟩)).steps
    next ne => exact (ResetStep.leaving h picked inn (Bool.eq_false_iff.mpr fun e => ne (phase.mpr e))).steps
  · exact .refl
  · exact .refl

theorem faultCount_resetSteps (f : Nat → Nat) : ResetSteps empty acted outs s (modRecord h (fun r => { r with faultCount := f r.faultCount }) s) :=
  (ResetStep.loosen h (fun r => { r with faultCount := f r.faultCount }) picked rfl).steps

theorem dropped_resetSteps : ResetSteps empty acted outs s (modRecord h HeadRecord.dropped s) :=
  (ResetStep.loosen h HeadRecord.dropped picked rfl).steps

/-- A fault counted on a head that holds a container (R55). -/
theorem countFault_resetSteps (holds : s.phase h ≠ .empty) (full : empty h = false)
    (mayOut : (s.head h).record.service = .joining → outs h) : ResetSteps empty acted outs s (countFault h s) := by
  unfold countFault
  split
  · exact faultCount_resetSteps picked (· + 1)
  · refine (faultCount_resetSteps picked fun _ => 0).trans ((changeCauses_resetSteps h _ _).trans (takeOut_resetSteps picked ?_ ?_))
    · rw [State.phase, head_changeCauses, head_modRecord]
      exact ⟨fun e => absurd e holds, fun e => by rw [full] at e; cases e⟩
    · rw [head_changeCauses, head_modRecord]
      rintro (joining | ⟨-, e⟩)
      · exact mayOut joining
      · rw [full] at e; cases e

theorem reportDoseEnd_resetSteps (holds : s.phase h ≠ .empty) (full : empty h = false)
    (mayOut : (s.head h).record.service = .joining → outs h) : ResetSteps empty acted outs s (reportDoseEnd h s) := by
  have causes (f : Causes → Causes) : ((changeCauses h f s).head h) = { s.head h with causes := f (s.head h).causes } := head_changeCauses h f s
  unfold reportDoseEnd
  split
  · exact .refl
  · split
    · refine (changeCauses_resetSteps h _ s).trans (countFault_resetSteps picked ?_ full ?_)
      · rw [State.phase, causes]; exact holds
      · rw [causes]; exact mayOut
    · split
      · exact (changeCauses_resetSteps h _ s).trans (faultCount_resetSteps picked fun _ => 0)
      · exact .refl

/-- A forced ending straight to SNIFT (R98): its head is not EMPTY. -/
theorem forceToSnift_resetSteps {r : Reason} (full : (s.phase h).filling = true → empty h = false)
    (mayOut : (s.phase h).filling = true → (s.head h).record.service = .joining → outs h) :
    ResetSteps empty acted outs s (forceToSnift r h s) := by
  cases filling : (s.phase h).filling with
  | false => rw [forceToSnift_other filling]
  | true =>
    rw [forceToSnift_filling filling, doseEnd_eq]
    have judged : ResetSteps empty acted outs s (doseJudged h (forcePrepared r h s)) :=
      ((forcePrepared_quiet r h s).trans (doseJudged_quiet h _)).resetSteps
    have record : ((doseJudged h (forcePrepared r h s)).head h).record = (s.head h).record :=
      (doseJudged_fillOnly h _).record.trans (forcePrepared_fillOnly r h s).record
    have phase : (doseJudged h (forcePrepared r h s)).phase h = .snift := by rw [State.phase, head_doseJudged]
    generalize doseJudged h (forcePrepared r h s) = u at *
    have learned : ResetSteps empty acted outs u (learn h u) ∧ (learn h u).phase h = u.phase h ∧
        ((learn h u).head h).record.service = (u.head h).record.service := by
      cases held : (u.head h).ticket with
      | none =>
        have same : learn h u = u := by simp only [learn, held]
        rw [same]; exact ⟨.refl, rfl, rfl⟩
      | some tk =>
        rw [learn_eq held, State.phase, head_modRecord]
        exact ⟨(ResetStep.loosen h (fun r => { r with pendingA := u.learnedPending h tk }) picked rfl).steps, rfl, rfl⟩
    obtain ⟨steps, phase', service⟩ := learned
    refine judged.trans (steps.trans (reportDoseEnd_resetSteps picked ?_ (full filling) fun joining => mayOut filling ?_))
    · rw [phase', phase]; exact nofun
    · rw [service, record] at joining; exact joining

end

end Sys2Proof.Machine
end

section
/-! SUPPORT. HEAD RESET (R56, R101, R160, R174, R187): the fill, the record, the causes and the calibration of one head. -/

namespace Sys2Proof.Machine

/-! ## A forced ending, ticket or not (R98) -/

/-- The pilots once all four have been released. -/
def State.allReleased (s : State) (h : HeadId) : Pilots :=
  { gas := s.releasedPilot h .gas, fast := s.releasedPilot h .fast, slow := s.releasedPilot h .slow, snift := s.releasedPilot h .snift }

theorem get_allReleased (s : State) (h : HeadId) (p : Pilot) : (s.allReleased h).get p = s.releasedPilot h p := by cases p <;> rfl

/-- The head's works once it has been forced straight to SNIFT (R98). -/
def State.forcedWorks (s : State) (r : Reason) (h : HeadId) : Works :=
  { (s.head h).works with
    seq := { (s.head h).seq with phase := .snift, timers := .stopped }
    ticket := (s.head h).ticket.map fun tk => (tk.endedWith r (s.phase h)).judge
    pilots := s.allReleased h }

theorem forceToSnift_works {r : Reason} {h : HeadId} {s : State} (filling : (s.phase h).filling = true) :
    ((forceToSnift r h s).head h).works = s.forcedWorks r h := by
  have prepared := head_forcePrepared r h s
  have gas : (forcePrepared r h s).releasedPilot h .gas = s.releasedPilot h .gas :=
    releasedPilot_congr (by rw [prepared]; rfl) (outer_now (forcePrepared_fillOnly r h s).others.outer)
  rw [forceToSnift_filling filling, plant_works (doseEnd_plant h _) h, head_doseJudged, gas, prepared]
  simp [Head.works, State.forcedWorks, State.allReleased, State.gasLeft, Pilots.put, Timers.leaving, Timers.stopped, Function.comp_def]

theorem forceToSnift_entry {r : Reason} {h : HeadId} {s : State} (filling : (s.phase h).filling = true) :
    (forceToSnift r h s).entryOf h = some { head := h, kind := .snift, step := s.tracker.stepCount } := by
  have step : (forcePrepared r h s).tracker.stepCount = s.tracker.stepCount :=
    congrArg Tracker.stepCount (outer_tracker (forcePrepared_fillOnly r h s).others.outer)
  rw [forceToSnift_filling filling, plant_entryOf (doseEnd_plant h _), entryOf_doseJudged, step]

/-- A released pilot is not energised. -/
theorem releasedPilot_off (s : State) (h : HeadId) (p : Pilot) : (s.releasedPilot h p).state = .off := by
  unfold State.releasedPilot
  split
  · rfl
  next off => exact not_not.mp fun ne => off (decide_eq_true ne)

theorem phase_of_works {h : HeadId} {s t : State} (e : (t.head h).works = (s.head h).works) : t.phase h = s.phase h :=
  congrArg Sequencer.phase (works_seq e)

theorem energised_of_works {h : HeadId} {s t : State} (e : (t.head h).works = (s.head h).works) : t.energised h = s.energised h :=
  funext fun p => energised_congr (by rw [works_pilots e])

/-- A head forced straight to SNIFT vents with its pilot released. -/
theorem forcedWorks_vents {r : Reason} {h : HeadId} {s t : State} (e : (t.head h).works = s.forcedWorks r h) :
    t.phase h = .snift ∧ t.energised h .snift = false := by
  have pilots : (t.head h).pilots = s.allReleased h := congrArg Works.pilots e
  refine ⟨congrArg (fun w : Works => w.seq.phase) e, ?_⟩
  rw [State.energised, State.pilot, pilots, get_allReleased, releasedPilot_off]
  rfl

/-! ## A head taken out, a calibration cancelled -/

theorem takeOut_service (h : HeadId) (s : State) :
    ((takeOut h s).head h).record.service ≠ .inn ∧ ((takeOut h s).head h).record.service ≠ .joining := by
  unfold takeOut
  split
  · rw [(becomeOut_self h s).1]; exact ⟨nofun, nofun⟩
  · split
    · rw [(becomeOut_self h s).1]; exact ⟨nofun, nofun⟩
    · rw [head_modRecord]; exact ⟨nofun, nofun⟩
  next leaving => rw [leaving]; exact ⟨nofun, nofun⟩
  next out => rw [out]; exact ⟨nofun, nofun⟩

theorem requeueSnift_head (h j : HeadId) (s : State) : (requeueSnift h s).head j = s.head j := by
  unfold requeueSnift; split <;> rfl
theorem requeueSnift_slots (h : HeadId) (s : State) : (requeueSnift h s).slots = s.slots := by
  unfold requeueSnift; split <;> rfl
theorem requeueSnift_globals (h : HeadId) (s : State) : (requeueSnift h s).globals = s.globals := by
  unfold requeueSnift; split <;> rfl
theorem requeueSnift_elsewhere (h : HeadId) (s : State) : (requeueSnift h s).elsewhere h = s.elsewhere h := by
  unfold requeueSnift; split
  · exact queueOpen_elsewhere .snift h s
  · rfl

/-- Step 3 of R101 at the head. -/
theorem requeueSnift_entry (h : HeadId) (s : State) : (requeueSnift h s).entryOf h =
    if s.phase h = .snift ∧ s.energised h .snift = false ∧ (s.entryOf h).isNone = true then
      some { head := h, kind := .snift, step := s.tracker.stepCount } else s.entryOf h := by
  unfold requeueSnift
  split
  · rw [entryOf_queueOpen, if_pos rfl]
  · rfl

/-- The state with the divider IDLE and the outcome CANCELLED of calibration `c` recorded (R160). -/
def cancelled (c : Calibration) (s : State) : State := recordOutcome c.head .cancelled none c.tag { s with divider := none }

theorem cancelCalibration_none {s : State} (idle : s.divider = none) : cancelCalibration s = s := by simp only [cancelCalibration, idle]
theorem cancelCalibration_some {s : State} {c : Calibration} (busy : s.divider = some c) : cancelCalibration s = cancelled c s := by
  simp only [cancelCalibration, busy, cancelled]

theorem head_changeCauses_ne {h j : HeadId} (ne : j ≠ h) (f : Causes → Causes) (s : State) : (changeCauses h f s).head j = s.head j := by
  rw [changeCauses, modCauses, head_judgeLine, head_modHead_ne ne]

/-- CANCELLED is recorded in one head's record and raised as its CAL_DONE. -/
theorem head_cancelled (c : Calibration) (s : State) (j : HeadId) : (cancelled c s).head j = if j = c.head then
    { s.head j with
      record := { (s.head j).record with calResult := some { outcome := .cancelled, kNew := none, tag := c.tag } }
      causes := { (s.head j).causes with calDone := some { outcome := .cancelled, kNew := none } } } else s.head j := by
  have raised : (cancelled c s) = changeCauses c.head (fun x => { x with calDone := some { outcome := .cancelled, kNew := none } })
      (modRecord c.head (fun r => { r with calResult := some { outcome := .cancelled, kNew := none, tag := c.tag } })
        { s with divider := none }) := rfl
  rw [raised]
  by_cases e : j = c.head
  · subst e; rw [if_pos rfl, head_changeCauses, head_modRecord]; rfl
  · rw [if_neg e, head_changeCauses_ne e, head_modRecord_ne e]; rfl

theorem cancelled_plant (c : Calibration) (s : State) : (cancelled c s).plant = s.plant :=
  plant_of (fun j => by rw [head_cancelled]; split <;> rfl) rfl rfl rfl
theorem cancelled_outer (c : Calibration) (s : State) : (cancelled c s).outer = { s.outer with divider := none } :=
  recordOutcome_outer _ _ _ _ { s with divider := none }
theorem cancelled_elsewhere (c : Calibration) (s : State) : (cancelled c s).elsewhere c.head = s.elsewhere c.head := by
  rw [cancelled, recordOutcome, raiseCalDone, changeCauses_elsewhere, modRecord_elsewhere]; rfl

/-! ## One head's books (R56) -/

section
variable {empty : HeadId → Bool} {outs : HeadId → Prop} {h : HeadId} {s t u : State} {acted : HeadId → Bool}

theorem Alike.loosened {e : Bool} {r r' r'' : HeadRecord} (a : Alike e r r') (b : Loosened r' r'') : Alike e r r'' := by
  refine ⟨by rw [b, a.rest], ?_⟩
  rw [b]; exact a.service

theorem BooksAlike.calm (a : BooksAlike empty acted s t) (records : ∀ j, (u.head j).record = (t.head j).record) (slots : u.slots = t.slots) :
    BooksAlike empty acted s u :=
  ⟨slots.trans a.slots, fun j => by rw [records]; exact a.records j, fun j out => (records j).trans (a.others j out)⟩

theorem BooksAlike.modRecord {f : HeadRecord → HeadRecord} (a : BooksAlike empty acted s t) (picked : acted h = true)
    (alike : Alike (empty h) (s.head h).record (f (t.head h).record)) : BooksAlike empty acted s (modRecord h f t) := by
  refine ⟨a.slots, fun j => ?_, fun j out => ?_⟩
  · by_cases e : j = h
    · subst e; rw [head_modRecord]; exact alike
    · rw [head_modRecord_ne e]; exact a.records j
  · rw [head_modRecord_ne]
    · exact a.others j out
    · rintro rfl; rw [picked] at out; cases out

/-- IN is left for LEAVING by a head that is not EMPTY. -/
theorem Alike.leaving {e : Bool} {r r' : HeadRecord} (a : Alike e r r') (inn : r'.service = .inn) (full : e = false) :
    Alike e r { r' with service := .leaving } := by
  refine ⟨by rw [a.rest], .inr ⟨?_, full, rfl⟩⟩
  obtain same | ⟨-, -, left⟩ := a.service
  · exact same.symm.trans inn
  · rw [left] at inn; cases inn

theorem Leaves.inn {e : Bool} {x y : Service} (l : Leaves e x y) (inn : y = .inn) : x = .inn := by
  obtain same | ⟨before, -, -⟩ := l
  · exact same.symm.trans inn
  · exact before
theorem Leaves.joining {e : Bool} {x y : Service} (l : Leaves e x y) (joining : y = .joining) : x = .joining := by
  obtain same | ⟨-, -, left⟩ := l
  · exact same.symm.trans joining
  · rw [left] at joining; cases joining

/-- The books while no head becomes OUT: they stay alike. -/
theorem ResetSteps.alike (steps : ResetSteps empty acted (fun _ => False) s t) : BooksAlike empty acted s t := by
  induction steps with
  | refl => exact .refl s
  | tail _ step ih =>
    cases step with
    | calm records slots => exact ih.calm records slots
    | loosen h f picked loose => exact ih.modRecord picked ((ih.records h).loosened loose)
    | leaving h picked inn full => exact ih.modRecord picked ((ih.records h).leaving inn full)
    | out h _ never _ => exact never.elim

/-- A reset of one head leaves the books alike to what they were, or to those of the head become OUT. -/
theorem ResetSteps.oneHead (steps : ResetSteps empty (fun j => decide (j = h)) outs s t) :
    BooksAlike empty (fun j => decide (j = h)) s t ∨
    ((s.head h).record.service = .joining ∨ (s.head h).record.service = .inn ∧ empty h = true) ∧
      BooksAlike empty (fun j => decide (j = h)) (becomeOut h s) t := by
  induction steps with
  | refl => exact .inl (.refl s)
  | tail _ step ih =>
    have stays {u v : State} (leaves : ∀ w, BooksAlike empty (fun j => decide (j = h)) w u → BooksAlike empty (fun j => decide (j = h)) w v)
        (ih : BooksAlike empty (fun j => decide (j = h)) s u ∨
          ((s.head h).record.service = .joining ∨ (s.head h).record.service = .inn ∧ empty h = true) ∧
            BooksAlike empty (fun j => decide (j = h)) (becomeOut h s) u) :
        BooksAlike empty (fun j => decide (j = h)) s v ∨
        ((s.head h).record.service = .joining ∨ (s.head h).record.service = .inn ∧ empty h = true) ∧
          BooksAlike empty (fun j => decide (j = h)) (becomeOut h s) v := ih.imp (leaves s) (And.imp_right (leaves _))
    cases step with
    | calm records slots => exact stays (fun w a => a.calm records slots) ih
    | loosen k f picked loose => exact stays (fun w a => a.modRecord picked ((a.records k).loosened loose)) ih
    | leaving k picked inn full => exact stays (fun w a => a.modRecord picked ((a.records k).leaving inn full)) ih
    | out k picked _ goes =>
      obtain rfl : k = h := of_decide_eq_true picked
      obtain a | ⟨-, a⟩ := ih
      · refine .inr ⟨?_, a.becomeOut picked⟩
        exact goes.imp (a.records k).service.joining (And.imp_left (a.records k).service.inn)
      · have out := (a.records k).out_iff.mpr (becomeOut_self k s).1
        rw [out] at goes
        exact goes.elim nofun fun both => nomatch both.1

end

/-! ## HEAD RESET, part by part -/

section
variable (h : HeadId) (s : State)

theorem resetSequencer_forced {h : HeadId} {s : State} (filling : (s.phase h).filling = true) :
    ((resetSequencer h s).head h).works = s.forcedWorks .reset h ∧
    (resetSequencer h s).entryOf h = some { head := h, kind := .snift, step := s.tracker.stepCount } := by
  have works : ((forceToSnift .reset h (withdraw h s)).head h).works = s.forcedWorks .reset h := forceToSnift_works (s := withdraw h s) filling
  have entry : (forceToSnift .reset h (withdraw h s)).entryOf h = some { head := h, kind := .snift, step := s.tracker.stepCount } :=
    forceToSnift_entry (s := withdraw h s) filling
  rw [resetSequencer, requeueSnift_head, requeueSnift_entry, entry]
  exact ⟨works, if_neg fun ⟨_, _, absent⟩ => by cases absent⟩

theorem resetSequencer_other {h : HeadId} {s : State} (other : (s.phase h).filling = false) :
    ((resetSequencer h s).head h).works = (s.head h).works ∧
    (resetSequencer h s).entryOf h = if s.phase h = .snift ∧ s.energised h .snift = false then
      some { head := h, kind := .snift, step := s.tracker.stepCount } else none := by
  have none : (withdraw h s).entryOf h = none := by rw [entryOf_withdraw, if_pos rfl]
  have same : forceToSnift .reset h (withdraw h s) = withdraw h s := forceToSnift_other (s := withdraw h s) other
  rw [resetSequencer, same, requeueSnift_head, requeueSnift_entry, none]
  exact ⟨rfl, by simp only [Option.isNone_none, and_true]; rfl⟩

theorem resetSequencer_elsewhere : (resetSequencer h s).elsewhere h = s.elsewhere h := by
  rw [resetSequencer, requeueSnift_elsewhere, forceToSnift_elsewhere, withdraw_elsewhere]

theorem resetSequencer_globals : (resetSequencer h s).globals = s.globals := by
  rw [resetSequencer, requeueSnift_globals, forceToSnift_globals]; rfl

/-- HEAD RESET's part of the fill neither empties a head nor fills it. -/
theorem resetSequencer_empty : (resetSequencer h s).phase h = .empty ↔ s.phase h = .empty := by
  cases filling : (s.phase h).filling with
  | false => rw [phase_of_works (resetSequencer_other filling).1]
  | true =>
    rw [(forcedWorks_vents (resetSequencer_forced filling).1).1]
    exact ⟨nofun, fun e => by rw [e] at filling; cases filling⟩

/-- The heads in phase EMPTY. -/
def State.emptyAt (s : State) (j : HeadId) : Bool := decide (s.phase j = .empty)

theorem emptyAt_filling {h : HeadId} {s : State} (filling : (s.phase h).filling = true) : s.emptyAt h = false :=
  decide_eq_false fun e => by rw [e] at filling; cases filling

theorem outAtReset_iff {h : HeadId} {s : State} : s.outAtReset h = true ↔
    (s.head h).record.service = .joining ∨ (s.head h).record.service = .inn ∧ s.emptyAt h = true := by
  simp [State.outAtReset, State.emptyAt]

theorem leavingAtReset_iff {h : HeadId} {s : State} : s.leavingAtReset h = true ↔
    (s.head h).record.service = .inn ∧ s.emptyAt h = false := by
  simp [State.leavingAtReset, State.emptyAt]

theorem headReset_steps (t : Time) : ResetSteps s.emptyAt (fun j => decide (j = h)) (fun _ => True) s
    (takeOut h (resetSequencer h (s.advance t))) := by
  have forced : ResetSteps s.emptyAt (fun j => decide (j = h)) (fun _ => True) (withdraw h (s.advance t))
      (forceToSnift .reset h (withdraw h (s.advance t))) :=
    forceToSnift_resetSteps (decide_eq_true rfl) (fun filling => emptyAt_filling (s := s) filling) fun _ _ => trivial
  refine ((advance_quiet s t).trans (withdraw_quiet h _)).resetSteps.trans (forced.trans
    ((requeueSnift_quiet h _).resetSteps.trans (takeOut_resetSteps (decide_eq_true rfl) ?_ fun _ => trivial)))
  rw [State.emptyAt, decide_eq_true_eq]
  exact resetSequencer_empty h (s.advance t)

/-- The head's service state once it has been taken out (R42, R56). -/
theorem reset_service {e : Bool} {x y : Service} (l : Leaves e x y) (notInn : y ≠ .inn) :
    y = if x = .inn ∧ e = false then .leaving else x := by
  obtain same | ⟨inn, full, left⟩ := l
  · rw [if_neg fun both => notInn (same.trans both.1), same]
  · rw [if_pos ⟨inn, full⟩, left]

/-- The books of HEAD RESET before the values are dropped: those of the state, or of the head become OUT. -/
theorem headReset_books (t : Time) :
    (s.outAtReset h = true → BooksAlike s.emptyAt (fun j => decide (j = h)) (becomeOut h s) (takeOut h (resetSequencer h (s.advance t)))) ∧
    (s.outAtReset h = false → BooksAlike s.emptyAt (fun j => decide (j = h)) s (takeOut h (resetSequencer h (s.advance t)))) := by
  obtain ⟨notInn, notJoining⟩ := takeOut_service h (resetSequencer h (s.advance t))
  obtain a | ⟨goes, a⟩ := (headReset_steps h s t).oneHead
  · refine ⟨fun goes => ?_, fun _ => a⟩
    have service := reset_service (a.records h).service notInn
    obtain joining | ⟨inn, empty⟩ := outAtReset_iff.mp goes
    · rw [joining, if_neg fun both => nomatch both.1] at service
      exact absurd service notJoining
    · rw [inn, empty, if_neg fun both => nomatch both.2] at service
      exact absurd service notInn
  · refine ⟨fun _ => a, fun stays => ?_⟩
    rw [outAtReset_iff.mpr goes] at stays; cases stays

/-- HEAD RESET before the grants. -/
def headResetEnd (o : State) : State :=
  cancelForHead h (changeCauses h (fun _ => .clear) (modRecord h (fun r => { r.dropped with drift := 0 }) o))

theorem resetHead_eq : resetHead h s = arbitrate (headResetEnd h (takeOut h (resetSequencer h s))) := rfl

/-- The calibration in flight is the head's. -/
def State.calibrates (s : State) (h : HeadId) : Bool := s.divider.any fun c => decide (c.head = h)

theorem calibrates_iff {h : HeadId} {s : State} : s.calibrates h = true ↔ ∃ c, s.divider = some c ∧ c.head = h := by
  rw [State.calibrates]
  cases s.divider <;> simp

/-- The values dropped and the causes cleared, the calibration still in flight. -/
def headCleared (o : State) : State := changeCauses h (fun _ => .clear) (modRecord h (fun r => { r.dropped with drift := 0 }) o)

theorem head_headCleared (o : State) : (headCleared h o).head h =
    { o.head h with record := { (o.head h).record.dropped with drift := 0 }, causes := .clear } := by
  rw [headCleared, head_changeCauses, head_modRecord]
theorem head_headCleared_ne {h j : HeadId} (ne : j ≠ h) (o : State) : (headCleared h o).head j = o.head j := by
  rw [headCleared, head_changeCauses_ne ne, head_modRecord_ne ne]

theorem headResetEnd_idle {h : HeadId} {o : State} (idle : o.calibrates h = false) : headResetEnd h o = headCleared h o := by
  refine if_neg fun busy => ?_
  have busy : o.calibrates h = true := busy
  rw [idle] at busy; cases busy

theorem headResetEnd_cancels {o : State} {c : Calibration} (busy : o.divider = some c) :
    headResetEnd c.head o = cancelled c (headCleared c.head o) := by
  have busy' : (headCleared c.head o).divider = some c := busy
  have mine : (headCleared c.head o).divider.any (fun x => decide (x.head = c.head)) = true := by simp [busy']
  exact (if_pos mine).trans (cancelCalibration_some busy')

/-- HEAD RESET's last parts at the head itself: values dropped, causes cleared, a calibration in flight for it cancelled. -/
theorem head_headResetEnd (o : State) : ∃ result, (headResetEnd h o).head h = { o.head h with
      record := { (o.head h).record.dropped with drift := 0, calResult := result }
      causes := { Causes.clear with
        calDone := if o.calibrates h then some { outcome := .cancelled, kNew := none } else none } } ∧
    (∀ c, o.divider = some c → c.head = h → result = some { outcome := .cancelled, kNew := none, tag := c.tag }) ∧
    (o.calibrates h = false → result = (o.head h).record.calResult) := by
  cases mine : o.calibrates h with
  | false =>
    refine ⟨(o.head h).record.calResult, ?_, fun c busy at' => ?_, fun _ => rfl⟩
    · rw [headResetEnd_idle mine, head_headCleared]; rfl
    · rw [calibrates_iff.mpr ⟨c, busy, at'⟩] at mine; cases mine
  | true =>
    obtain ⟨c, busy, rfl⟩ := calibrates_iff.mp mine
    refine ⟨some { outcome := .cancelled, kNew := none, tag := c.tag }, ?_, fun c' busy' _ => ?_, nofun⟩
    · rw [headResetEnd_cancels busy, head_cancelled, if_pos rfl, head_headCleared]; rfl
    · rw [busy] at busy'; cases busy'; rfl

/-- What HEAD RESET's last parts leave. -/
theorem headResetEnd_rest (o : State) : (∀ j, j ≠ h → (headResetEnd h o).head j = o.head j) ∧ (headResetEnd h o).slots = o.slots ∧
    (headResetEnd h o).plant = o.plant ∧ (headResetEnd h o).papers = o.papers ∧ (headResetEnd h o).elsewhere h = o.elsewhere h ∧
    (headResetEnd h o).outer = { o.outer with divider := if o.calibrates h then none else o.divider } ∧ LineJudged (headResetEnd h o) := by
  have plant : (headCleared h o).plant = o.plant := by rw [headCleared, changeCauses_plant, modRecord_plant]
  have elsewhere : (headCleared h o).elsewhere h = o.elsewhere h := by rw [headCleared, changeCauses_elsewhere, modRecord_elsewhere]
  have outer : (headCleared h o).outer = o.outer := rfl
  cases mine : o.calibrates h with
  | false =>
    rw [headResetEnd_idle mine]
    exact ⟨fun j ne => head_headCleared_ne ne o, rfl, plant, rfl, elsewhere, rfl, changeCauses_judged h _ _⟩
  | true =>
    obtain ⟨c, busy, rfl⟩ := calibrates_iff.mp mine
    rw [headResetEnd_cancels busy]
    refine ⟨fun j ne => ?_, rfl, (cancelled_plant c _).trans plant, rfl, (cancelled_elsewhere c _).trans elsewhere, ?_,
      changeCauses_judged c.head _ _⟩
    · rw [head_cancelled, if_neg ne, head_headCleared_ne ne]
    · rw [cancelled_outer, outer]; rfl

/-- The record once the values are dropped, read off books alike (R56). -/
theorem dropped_alike {e : Bool} {r r' : HeadRecord} (a : Alike e r r') (notInn : r'.service ≠ .inn) (result : Option CalResult) :
    { r'.dropped with drift := 0, calResult := result } =
      { r.reset (decide (r.service = .inn ∧ e = false)) with drift := 0, calResult := result } := by
  have service := reset_service a.service notInn
  have rest := a.rest
  generalize r'.service = sv at *
  rw [rest]
  simp only [HeadRecord.dropped, HeadRecord.reset, service, decide_eq_true_eq]

/-- HEAD RESET's state before the grants. -/
def headResetState : State := headResetEnd h (takeOut h (resetSequencer h s))

theorem headReset_members (t : Time) {u : State} (a : BooksAlike s.emptyAt (fun j => decide (j = h)) u (takeOut h (resetSequencer h (s.advance t))))
    (leaving : s.leavingAtReset h = decide ((u.head h).record.service = .inn ∧ s.emptyAt h = false)) :
    (headResetState h (s.advance t)).slots = u.slots ∧ (∀ j, j ≠ h → ((headResetState h (s.advance t)).head j).record = (u.head j).record) ∧
    ((headResetState h (s.advance t)).head h).record = { (u.head h).record.reset (s.leavingAtReset h) with
      drift := 0, calResult := ((headResetState h (s.advance t)).head h).record.calResult } := by
  obtain ⟨heads, slots, -⟩ := headResetEnd_rest h (takeOut h (resetSequencer h (s.advance t)))
  obtain ⟨result, self, -⟩ := head_headResetEnd h (takeOut h (resetSequencer h (s.advance t)))
  refine ⟨slots.trans a.slots, fun j ne => ?_, ?_⟩
  · rw [headResetState, heads j ne]; exact a.others j (decide_eq_false ne)
  · rw [headResetState, self, leaving]
    exact dropped_alike (a.records h) (takeOut_service h _).1 result

theorem headReset_books_members (t : Time) :
    (s.outAtReset h = true → (headResetState h (s.advance t)).slots = (becomeOut h s).slots ∧
      (∀ j, j ≠ h → ((headResetState h (s.advance t)).head j).record = ((becomeOut h s).head j).record) ∧
      ((headResetState h (s.advance t)).head h).record = { ((becomeOut h s).head h).record.reset (s.leavingAtReset h) with
        drift := 0, calResult := ((headResetState h (s.advance t)).head h).record.calResult }) ∧
    (s.outAtReset h = false → (headResetState h (s.advance t)).slots = s.slots ∧
      (∀ j, j ≠ h → ((headResetState h (s.advance t)).head j).record = (s.head j).record) ∧
      ((headResetState h (s.advance t)).head h).record = { (s.head h).record.reset (s.leavingAtReset h) with
        drift := 0, calResult := ((headResetState h (s.advance t)).head h).record.calResult }) := by
  obtain ⟨gone, stood⟩ := headReset_books h s t
  refine ⟨fun goes => headReset_members h s t (gone goes) ?_, fun stays => headReset_members h s t (stood stays) ?_⟩
  · rw [(becomeOut_self h s).1, decide_eq_false fun both => nomatch both.1]
    refine Bool.eq_false_iff.mpr fun leaving => ?_
    obtain ⟨inn, full⟩ := leavingAtReset_iff.mp leaving
    obtain joining | ⟨-, empty⟩ := outAtReset_iff.mp goes
    · rw [joining] at inn; cases inn
    · rw [full] at empty; cases empty
  · exact Bool.eq_iff_iff.mpr (leavingAtReset_iff.trans decide_eq_true_iff.symm)

/-- What a head that has become OUT keeps of its record (R24, R28). -/
theorem becomeOut_keeps : ((becomeOut h s).head h).record.k = (s.head h).record.k ∧
    ((becomeOut h s).head h).record.stray = (s.head h).record.stray ∧
    ((becomeOut h s).head h).record.presenceReleased = (s.head h).record.presenceReleased ∧
    ((becomeOut h s).head h).record.calResult = (s.head h).record.calResult := by
  obtain same | ⟨-, same⟩ | ⟨-, n, rev, -, -, same⟩ := becomeOut_realigned_self h s <;> rw [same] <;> exact ⟨rfl, rfl, rfl, rfl⟩

/-- Nothing before the calibration's part touches the calibration result. -/
theorem headReset_calResult (t : Time) :
    ((takeOut h (resetSequencer h (s.advance t))).head h).record.calResult = (s.head h).record.calResult := by
  obtain ⟨gone, stood⟩ := headReset_books h s t
  cases goes : s.outAtReset h with
  | true =>
    obtain ⟨-, -, -, result⟩ := becomeOut_keeps h s
    rw [((gone goes).records h).rest]; exact result
  | false => rw [((stood goes).records h).rest]

/-- A record that a reset has dropped values from, item by item (R56). -/
theorem reset_items {u y : HeadRecord} {leaving : Bool} {result : Option CalResult}
    (e : y = { u.reset leaving with drift := 0, calResult := result }) :
    (y.stagedK = none ∧ y.pendingA = none ∧ y.pendingT = none ∧ y.pendingSlot = none ∧ y.resetStaged = false ∧ y.drift = 0 ∧
      y.faultCount = 0) ∧
    (y.k = u.k ∧ y.slot = u.slot ∧ y.presenceReleased = u.presenceReleased ∧ y.stray = u.stray) ∧
    y.service = (if leaving then .leaving else u.service) ∧ y.a = u.a ∧ y.t = u.t ∧ y.adoptedRev = u.adoptedRev := by
  subst e
  exact ⟨⟨rfl, rfl, rfl, rfl, rfl, rfl, rfl⟩, ⟨rfl, rfl, rfl, rfl⟩, rfl, rfl, rfl, rfl⟩

/-- The head's record after HEAD RESET, item by item (R56). -/
theorem headReset_record (t : Time) :
    let x := s.head h
    let r := x.record
    let y := ((headResetState h (s.advance t)).head h).record
    y.stagedK = none ∧ y.pendingA = none ∧ y.pendingT = none ∧ y.pendingSlot = none ∧ y.resetStaged = false ∧ y.drift = 0 ∧
    y.faultCount = 0 ∧ y.k = r.k ∧ y.slot = r.slot ∧ y.presenceReleased = r.presenceReleased ∧ y.stray = r.stray ∧
    (r.service = .inn → s.phase h ≠ .empty → y.service = .leaving ∧ y.a = r.a ∧ y.t = r.t ∧ y.adoptedRev = r.adoptedRev) ∧
    (r.service = .joining ∨ r.service = .inn ∧ s.phase h = .empty → y.service = .out) ∧
    (r.service = .out ∨ r.service = .leaving → y.service = r.service ∧ y.a = r.a ∧ y.t = r.t ∧ y.adoptedRev = r.adoptedRev) := by
  intro x r y
  obtain ⟨gone, stood⟩ := headReset_books_members h s t
  have goesIff : s.outAtReset h = true ↔ r.service = .joining ∨ r.service = .inn ∧ s.phase h = .empty := decide_eq_true_iff
  have leavesIff : s.leavingAtReset h = true ↔ r.service = .inn ∧ s.phase h ≠ .empty := decide_eq_true_iff
  cases goes : s.outAtReset h with
  | true =>
    obtain ⟨out, slot, -⟩ := becomeOut_self h s
    obtain ⟨k, stray, presence, -⟩ := becomeOut_keeps h s
    have members := goesIff.mp goes
    have notFull (inn : r.service = .inn) (full : s.phase h ≠ .empty) : False :=
      members.elim (fun joining => nomatch inn.symm.trans joining) fun both => full both.2
    have leaves : s.leavingAtReset h = false := Bool.eq_false_iff.mpr fun l => notFull (leavesIff.mp l).1 (leavesIff.mp l).2
    obtain ⟨⟨staged, a, t, pendingSlot, resetStaged, drift, faults⟩, ⟨sameK, sameSlot, samePresence, sameStray⟩, service, -⟩ :=
      reset_items (gone goes).2.2
    rw [leaves, if_neg Bool.false_ne_true] at service
    refine ⟨staged, a, t, pendingSlot, resetStaged, drift, faults, sameK.trans k, sameSlot.trans slot, samePresence.trans presence,
      sameStray.trans stray, fun inn full => (notFull inn full).elim, fun _ => service.trans out, fun other => ?_⟩
    rcases members with joining | ⟨inn, -⟩ <;> rcases other with o | o
    · exact nomatch joining.symm.trans o
    · exact nomatch joining.symm.trans o
    · exact nomatch inn.symm.trans o
    · exact nomatch inn.symm.trans o
  | false =>
    obtain ⟨⟨staged, a, t, pendingSlot, resetStaged, drift, faults⟩, ⟨k, slot, presence, stray⟩, service, values⟩ :=
      reset_items (stood goes).2.2
    refine ⟨staged, a, t, pendingSlot, resetStaged, drift, faults, k, slot, presence, stray, fun inn full => ⟨?_, values⟩, fun out => ?_,
      fun other => ⟨?_, values⟩⟩
    · rw [leavesIff.mpr ⟨inn, full⟩, if_pos rfl] at service; exact service
    · rw [goesIff.mpr out] at goes; cases goes
    · have leaves : s.leavingAtReset h = false := Bool.eq_false_iff.mpr fun l =>
        other.elim (fun o => nomatch (leavesIff.mp l).1.symm.trans o) fun o => nomatch (leavesIff.mp l).1.symm.trans o
      rw [leaves, if_neg Bool.false_ne_true] at service; exact service

end

/-! ## The statement -/

theorem exec_headReset (t : Time) (head : Byte) (s : State) :
    exec (.headReset t head) s = .next (replied 0x0A (serveHeadReset head (s.advance t))) := rfl

/-- Settles O40: the fill by `resetSequencer_forced` and `resetSequencer_other`, the books by `headReset_books`, the rest by
`headResetEnd_rest`. -/
theorem headResetAborts : Obligations.HeadResetAborts := by
  intro t head s u
  have now : u = s.advance t := rfl
  clear_value u
  subst now
  refine ⟨fun absent => ?_, fun h named => ?_⟩
  · have served : serveHeadReset head (s.advance t) = ((s.advance t), .plain .noSuchHead) := by
      have absent' : (s.advance t).installedHead head.toNat = none := absent
      rw [serveHeadReset, absent']
    rw [exec_headReset]
    exact congrArg (fun served => Host.Outcome.next (replied 0x0A served)) served
  · intro x r mine
    have served : serveHeadReset head (s.advance t) = (resetHead h (s.advance t), .done) := by
      have named' : (s.advance t).installedHead head.toNat = some h := named
      rw [serveHeadReset, named']
    have plant : (headResetState h (s.advance t)).plant = (resetSequencer h (s.advance t)).plant :=
      (headResetEnd_rest h (takeOut h (resetSequencer h (s.advance t)))).2.2.1.trans (takeOut_plant h _)
    obtain ⟨-, -, -, papers, elsewhere, outer, judged⟩ := headResetEnd_rest h (takeOut h (resetSequencer h (s.advance t)))
    obtain ⟨result, self, recorded, idle⟩ := head_headResetEnd h (takeOut h (resetSequencer h (s.advance t)))
    have outer' : (takeOut h (resetSequencer h (s.advance t))).outer = (s.advance t).outer := by rw [takeOut_outer, resetSequencer_outer]
    have atAdvance : (takeOut h (resetSequencer h (s.advance t))).divider = (s.advance t).divider := outer_divider outer'
    have divider : (takeOut h (resetSequencer h (s.advance t))).divider = s.divider := atAdvance
    have calibrates : (takeOut h (resetSequencer h (s.advance t))).calibrates h = s.divider.any (fun c => decide (c.head = h)) := by
      rw [State.calibrates, divider]
    refine ⟨headResetState h (s.advance t), ?_, fun tk filling held => ?_, fun other => ?_, headReset_record h s t, ?_, fun c busy at' => ?_,
      fun notMine => ?_, headReset_books_members h s t, ?_, ?_, ?_, ?_, judged⟩
    · rw [exec_headReset]
      exact congrArg (fun served => Host.Outcome.next (replied 0x0A served)) served
    · obtain ⟨works, entry⟩ := resetSequencer_forced (s := (s.advance t)) filling
      have works' : ((headResetState h (s.advance t)).head h).works = (s.advance t).forcedWorks .reset h := (plant_works plant h).trans works
      refine ⟨?_, congrArg Works.seq works', fun p => ?_, (plant_entryOf plant h).trans entry⟩
      · have ticket : ((headResetState h (s.advance t)).head h).ticket = _ := congrArg Works.ticket works'
        rw [ticket]
        show x.ticket.map _ = _
        rw [held]; rfl
      · have pilots : ((headResetState h (s.advance t)).head h).pilots = (s.advance t).allReleased h := congrArg Works.pilots works'
        rw [pilots, get_allReleased]
    · obtain ⟨works, entry⟩ := resetSequencer_other (s := (s.advance t)) other
      exact ⟨(plant_works plant h).trans works, (plant_entryOf plant h).trans entry⟩
    · rw [headResetState, self, calibrates]
    · rw [headResetState, self]; exact recorded c (divider.trans busy) at'
    · have other : (takeOut h (resetSequencer h (s.advance t))).calibrates h = false := by
        rw [calibrates]
        exact Bool.eq_false_iff.mpr fun busy => notMine (calibrates_iff.mp busy)
      rw [headResetState, self]
      exact (idle other).trans (headReset_calResult h s t)
    · rw [headResetState, outer, outer', calibrates, divider]
    · rw [headResetState, papers, takeOut_papers, resetSequencer, requeueSnift_papers, forceToSnift_papers, withdraw_papers]; rfl
    · exact (plant_globals plant).trans (resetSequencer_globals h (s.advance t))
    · rw [headResetState, elsewhere, takeOut_elsewhere, resetSequencer_elsewhere]; rfl

end Sys2Proof.Machine
end

section
/-! SUPPORT. LINE RESET at the sequencers and the arbiter (R101, R175): pilots off, fills forced to SNIFT, venting heads queued again. -/

namespace Sys2Proof.Machine

/-! ## One head's part of an event of many heads -/

section
variable {R : State → State → Prop} {f : HeadId → State → State} {j : HeadId} (refl : ∀ s, R s s) (trans : ∀ {s t u}, R s t → R t u → R s u)
  (apart : ∀ h s, j ≠ h → R s (f h s))
include refl trans apart

theorem foldl_headPart (l : List HeadId) (nodup : l.Nodup) (s : State) :
    (j ∈ l → ∃ u, R s u ∧ R (f j u) (l.foldl (fun acc h => f h acc) s)) ∧ (j ∉ l → R s (l.foldl (fun acc h => f h acc) s)) := by
  induction l generalizing s with
  | nil => exact ⟨nofun, fun _ => refl s⟩
  | cons a l ih =>
    obtain ⟨fresh, nodup⟩ := List.nodup_cons.mp nodup
    obtain ⟨inside, outside⟩ := ih nodup (f a s)
    refine ⟨fun mem => ?_, fun out => ?_⟩
    · by_cases e : j = a
      · subst e; exact ⟨s, refl s, outside fresh⟩
      · obtain ⟨u, before, after⟩ := inside ((List.mem_cons.mp mem).resolve_left e)
        exact ⟨u, trans (apart a s e) before, after⟩
    · obtain ⟨ne, out⟩ := not_or.mp fun c => out (List.mem_cons.mpr c)
      exact trans (apart a s ne) (outside out)

/-- What every other head's part of an event leaves as it stands, `R`, surrounds the head's own part of it. -/
theorem forInstalled_headPart (s : State) : (s.isInstalled j = true → ∃ u, R s u ∧ R (f j u) (forInstalled f s)) ∧
    (s.isInstalled j = false → R s (forInstalled f s)) := by
  obtain ⟨inside, outside⟩ := foldl_headPart refl trans apart s.installed (nodup_installed s) s
  exact ⟨fun installed => inside (mem_installed.mpr installed),
    fun out => outside fun mem => by rw [mem_installed.mp mem] at out; cases out⟩

end

/-- What the part of every installed head keeps, the event keeps. -/
theorem forInstalled_keepsAt {P : State → Prop} {f : HeadId → State → State} {s : State}
    (hf : ∀ h, s.isInstalled h = true → ∀ u, P u → P (f h u)) (hs : P s) : P (forInstalled f s) := by
  have fold (l : List HeadId) (all : ∀ h ∈ l, s.isInstalled h = true) (u : State) (hu : P u) : P (l.foldl (fun acc h => f h acc) u) := by
    induction l generalizing u with
    | nil => exact hu
    | cons a l ih => exact ih (fun h mem => all h (List.mem_cons_of_mem a mem)) _ (hf a (all a List.mem_cons_self) u hu)
  exact fold s.installed (fun _ => mem_installed.mp) s hs

theorem installed_of_outer {s t : State} (e : t.outer = s.outer) : t.installed = s.installed := by
  unfold State.installed State.isInstalled; rw [outer_tracker e]
theorem isInstalled_of_outer {s t : State} (e : t.outer = s.outer) : t.isInstalled = s.isInstalled := by
  unfold State.isInstalled; rw [outer_tracker e]

/-! ## The queue stays in order (R165) -/

theorem mem_insertEntry {e x : Entry} : ∀ {q : List Entry}, x ∈ insertEntry e q → x = e ∨ x ∈ q
  | [], mem => .inl (List.mem_singleton.mp mem)
  | y :: rest, mem => by
    unfold insertEntry at mem
    split at mem
    · exact List.mem_cons.mp mem
    · split at mem
      · exact (List.mem_cons.mp mem).imp_right (List.mem_cons_of_mem y)
      · obtain here | there := List.mem_cons.mp mem
        · exact .inr (here ▸ List.mem_cons_self)
        · exact (mem_insertEntry there).imp_right (List.mem_cons_of_mem y)

theorem insertEntry_sorted (e : Entry) : ∀ {q : List Entry}, q.Pairwise (fun a b => a.head.val < b.head.val) →
    (insertEntry e q).Pairwise fun a b => a.head.val < b.head.val
  | [], _ => List.pairwise_singleton _ e
  | x :: rest, sorted => by
    obtain ⟨first, later⟩ := List.pairwise_cons.mp sorted
    unfold insertEntry
    split
    next below =>
      exact List.pairwise_cons.mpr ⟨fun y mem => (List.mem_cons.mp mem).elim (· ▸ below) fun r => below.trans (first y r), sorted⟩
    next notBelow =>
      split
      next same => exact List.pairwise_cons.mpr ⟨fun y mem => same ▸ first y mem, later⟩
      next differs =>
        refine List.pairwise_cons.mpr ⟨fun y mem => (mem_insertEntry mem).elim (fun at' => ?_) (first y), insertEntry_sorted e later⟩
        subst at'; omega

theorem queueOpen_sorted {k : OpenKind} {h : HeadId} {s : State} (sorted : QueueSorted s) : QueueSorted (queueOpen k h s) :=
  insertEntry_sorted _ sorted

theorem queueSorted_of_sublist {s t : State} (e : t.pilotQueue.Sublist s.pilotQueue) (sorted : QueueSorted s) : QueueSorted t :=
  List.Pairwise.sublist e sorted

theorem release_sublist (p : Pilot) (h : HeadId) (s : State) : (release p h s).pilotQueue.Sublist s.pilotQueue := by
  unfold release
  split
  · exact .refl _
  · split
    · exact .refl _
    · split
      · exact List.filter_sublist
      · exact .refl _

theorem forcePrepared_sublist (r : Reason) (h : HeadId) (s : State) : (forcePrepared r h s).pilotQueue.Sublist s.pilotQueue := by
  have closed (u : State) : (closeIfMetered h u).pilotQueue = u.pilotQueue := by unfold closeIfMetered; split <;> rfl
  have withdrawn (u : State) : (stopTimers h (withdraw h u)).pilotQueue.Sublist u.pilotQueue := List.filter_sublist
  have released (u : State) : (releaseButGas h u).pilotQueue.Sublist u.pilotQueue :=
    (release_sublist .snift h _).trans ((release_sublist .slow h _).trans (release_sublist .fast h u))
  have marked : (modTicket h (Ticket.addReason r) s).pilotQueue = s.pilotQueue := modHead_pilotQueue h _ s
  rw [forcePrepared, closed, ← marked]
  exact (withdrawn _).trans (released _)

theorem doseJudged_sorted {h : HeadId} {s : State} (sorted : QueueSorted s) : QueueSorted (doseJudged h s) := by
  have entered (u : State) : (enterPhase .snift h u).pilotQueue = u.pilotQueue := modHead_pilotQueue h _ u
  have marked : (modTicket h Ticket.judge s).pilotQueue = s.pilotQueue := modHead_pilotQueue h _ s
  refine queueOpen_sorted (queueSorted_of_sublist (s := s) ?_ sorted)
  rw [entered, ← marked]
  exact release_sublist .gas h _

theorem forceToSnift_sorted {r : Reason} {h : HeadId} {s : State} (sorted : QueueSorted s) : QueueSorted (forceToSnift r h s) := by
  cases filling : (s.phase h).filling with
  | false => rw [forceToSnift_other filling]; exact sorted
  | true =>
    rw [forceToSnift_filling filling, QueueSorted, plant_queue (doseEnd_plant h (forcePrepared r h s))]
    exact doseJudged_sorted (queueSorted_of_sublist (forcePrepared_sublist r h s) sorted)

theorem requeueSnift_sorted {h : HeadId} {s : State} (sorted : QueueSorted s) : QueueSorted (requeueSnift h s) := by
  unfold requeueSnift; split
  · exact queueOpen_sorted sorted
  · exact sorted

theorem find_of_sorted {e : Entry} : ∀ {q : List Entry}, q.Pairwise (fun a b => a.head.val < b.head.val) → e ∈ q →
    q.find? (fun x => decide (x.head = e.head)) = some e
  | x :: rest, sorted, mem => by
    obtain ⟨first, later⟩ := List.pairwise_cons.mp sorted
    obtain rfl | mem := List.mem_cons.mp mem
    · exact List.find?_cons_of_pos (decide_eq_true rfl)
    · have ne : x.head ≠ e.head := fun same => absurd (first e mem) (by rw [same]; exact Nat.lt_irrefl _)
      rw [List.find?_cons_of_neg (by simpa using ne)]
      exact find_of_sorted later mem

/-- In a queue in order a head's entry is the one that lists it. -/
theorem QueueSorted.mem_iff {s : State} (sorted : QueueSorted s) (e : Entry) : e ∈ s.pilotQueue ↔ s.entryOf e.head = some e :=
  ⟨find_of_sorted sorted, List.mem_of_find?_eq_some⟩

/-! ## The arbiter's part (R175) -/

theorem head_resetArbiter (j : HeadId) (s : State) :
    (resetArbiter s).head j = { s.head j with pilots := resetPilots s.now (s.head j).pilots } := by rw [resetArbiter, head_mapHeads]; rfl

/-- GAS, FAST and SLOW are off at every head. -/
theorem resetPilots_off (now : Time) (q : Pilots) {p : Pilot} (ne : p ≠ .snift) : ((resetPilots now q).get p).state = .off := by
  have off (r : PilotRecord) : (if r.state = .off then r else r.turnOff now).state = .off := by
    split
    next e => exact e
    next => rfl
  cases p with
  | snift => exact absurd rfl ne
  | gas => exact off q.gas
  | fast => exact off q.fast
  | slow => exact off q.slow

theorem releasedPilot_stands {h : HeadId} {p : Pilot} {s : State} (off : ((s.head h).pilots.get p).state = .off) :
    s.releasedPilot h p = (s.head h).pilots.get p :=
  if_neg (by rw [State.energised, State.pilot, off]; decide)

/-! ## The sequencers' part (R101) -/

/-- The head's works and its queued open stand, and the outer part. -/
structure PlantStands (h : HeadId) (s v : State) : Prop where
  works : (v.head h).works = (s.head h).works
  entry : v.entryOf h = s.entryOf h
  outer : v.outer = s.outer

theorem PlantStands.refl (h : HeadId) (s : State) : PlantStands h s s := ⟨rfl, rfl, rfl⟩
theorem PlantStands.trans {h : HeadId} {s t u : State} (a : PlantStands h s t) (b : PlantStands h t u) : PlantStands h s u :=
  ⟨b.works.trans a.works, b.entry.trans a.entry, b.outer.trans a.outer⟩

theorem forceToSnift_plantStands (r : Reason) {h j : HeadId} (ne : j ≠ h) (s : State) : PlantStands j s (forceToSnift r h s) :=
  have stands := forceToSnift_headStands r ne s
  ⟨stands.works, stands.entry, forceToSnift_outer r h s⟩

theorem requeueSnift_plantStands {h j : HeadId} (ne : j ≠ h) (s : State) : PlantStands j s (requeueSnift h s) :=
  ⟨congrArg Head.works (requeueSnift_head h j s), entryOf_of_elsewhere (requeueSnift_elsewhere h s) ne, requeueSnift_outer h s⟩

theorem forcedWorks_congr {r : Reason} {h : HeadId} {s t : State} (works : (t.head h).works = (s.head h).works) (now : t.now = s.now) :
    t.forcedWorks r h = s.forcedWorks r h := by
  have pilots : t.allReleased h = s.allReleased h := by
    have each (p : Pilot) : t.releasedPilot h p = s.releasedPilot h p := releasedPilot_congr (by rw [works_pilots works]) now
    simp only [State.allReleased, each]
  simp only [State.forcedWorks, works, works_seq works, works_ticket works, pilots, phase_of_works works]

/-- Every installed head in SEATED to TOPUP is forced straight to SNIFT. -/
theorem forcedAll_struck {r : Reason} {h : HeadId} {s : State} (installed : s.isInstalled h = true) (filling : (s.phase h).filling = true) :
    ((forInstalled (forceToSnift r) s).head h).works = s.forcedWorks r h ∧
    (forInstalled (forceToSnift r) s).entryOf h = some { head := h, kind := .snift, step := s.tracker.stepCount } := by
  obtain ⟨u, before, after⟩ := (forInstalled_headPart (j := h) (PlantStands.refl h) PlantStands.trans
    (fun _ v ne => forceToSnift_plantStands r ne v) s).1 installed
  have filling' : (u.phase h).filling = true := by rw [phase_of_works before.works]; exact filling
  refine ⟨after.works.trans ?_, after.entry.trans ?_⟩
  · rw [forceToSnift_works filling', forcedWorks_congr before.works (outer_now before.outer)]
  · rw [forceToSnift_entry filling', outer_tracker before.outer]

theorem forcedAll_other {h : HeadId} {s : State} (other : (s.isInstalled h && (s.phase h).filling) = false) :
    HeadStands h s (forInstalled (forceToSnift .reset) s) :=
  (forcedWhere_forInstalled (r := .reset) (by decide) s).stands h other

theorem requeuedAll_works (h : HeadId) (s : State) : ((forInstalled requeueSnift s).head h).works = (s.head h).works :=
  forInstalled_keeps (P := fun u => (u.head h).works = (s.head h).works) (fun j u e => by rw [requeueSnift_head]; exact e) rfl

/-- Every installed head in SNIFT with its pilot off is listed, and no further head. -/
theorem requeuedAll_entry (h : HeadId) (s : State) : (forInstalled requeueSnift s).entryOf h =
    if s.isInstalled h = true ∧ s.phase h = .snift ∧ s.energised h .snift = false ∧ (s.entryOf h).isNone = true then
      some { head := h, kind := .snift, step := s.tracker.stepCount } else s.entryOf h := by
  have parts := forInstalled_headPart (f := requeueSnift) (j := h) (PlantStands.refl h) PlantStands.trans
    (fun _ v ne => requeueSnift_plantStands ne v) s
  cases installed : s.isInstalled h with
  | false => rw [if_neg fun both => nomatch both.1]; exact (parts.2 installed).entry
  | true =>
    obtain ⟨u, before, after⟩ := parts.1 installed
    rw [after.entry, requeueSnift_entry, phase_of_works before.works, energised_of_works before.works, before.entry,
      outer_tracker before.outer]
    simp only [true_and]

variable (h : HeadId) (s : State)

theorem resetSequencers_forced {h : HeadId} {s : State} (struck : (s.isInstalled h && (s.phase h).filling) = true) :
    ((resetSequencers s).head h).works = (resetArbiter s).forcedWorks .reset h ∧
    (resetSequencers s).entryOf h = some { head := h, kind := .snift, step := s.tracker.stepCount } := by
  obtain ⟨installed, filling⟩ := Bool.and_eq_true_iff.mp struck
  have filling' : ((resetArbiter s).phase h).filling = true := by rw [State.phase, head_resetArbiter]; exact filling
  obtain ⟨works, entry⟩ := forcedAll_struck (r := .reset) (s := resetArbiter s) installed filling'
  rw [resetSequencers, requeuedAll_works, requeuedAll_entry, entry]
  exact ⟨works, if_neg fun ⟨_, _, _, absent⟩ => nomatch absent⟩

theorem resetSequencers_other {h : HeadId} {s : State} (other : (s.isInstalled h && (s.phase h).filling) = false) :
    ((resetSequencers s).head h).works = { (s.head h).works with pilots := resetPilots s.now (s.head h).pilots } ∧
    (resetSequencers s).entryOf h = if s.isInstalled h = true ∧ (resetSequencers s).phase h = .snift ∧
      (resetSequencers s).energised h .snift = false then some { head := h, kind := .snift, step := s.tracker.stepCount } else none := by
  have other' : ((resetArbiter s).isInstalled h && ((resetArbiter s).phase h).filling) = false := by
    rw [State.phase, head_resetArbiter]; exact other
  obtain ⟨works, -, entry⟩ := forcedAll_other other'
  have requeued := requeuedAll_works h (forInstalled (forceToSnift .reset) (resetArbiter s))
  have outer : (forInstalled (forceToSnift .reset) (resetArbiter s)).outer = s.outer := by
    rw [forInstalled_outer (forceToSnift .reset) (forceToSnift_outer .reset)]; rfl
  have nothing : (forInstalled (forceToSnift .reset) (resetArbiter s)).entryOf h = none := entry
  have listed := requeuedAll_entry h (forInstalled (forceToSnift .reset) (resetArbiter s))
  rw [nothing, isInstalled_of_outer outer, outer_tracker outer, ← phase_of_works requeued, ← energised_of_works requeued] at listed
  refine ⟨requeued.trans (works.trans (by rw [head_resetArbiter]; rfl)), listed.trans ?_⟩
  simp only [Option.isNone_none, and_true]
  rfl

/-- The queue afterwards: the SNIFT opens of the installed heads that vent with their pilot off. -/
theorem resetSequencers_entry : (resetSequencers s).entryOf h =
    if s.isInstalled h = true ∧ (resetSequencers s).phase h = .snift ∧ (resetSequencers s).energised h .snift = false then
      some { head := h, kind := .snift, step := s.tracker.stepCount } else none := by
  cases struck : s.isInstalled h && (s.phase h).filling with
  | false => exact (resetSequencers_other struck).2
  | true =>
    obtain ⟨works, entry⟩ := resetSequencers_forced struck
    rw [entry, if_pos ⟨(Bool.and_eq_true_iff.mp struck).1, forcedWorks_vents works⟩]

theorem resetSequencers_sorted : QueueSorted (resetSequencers s) :=
  have emptied : QueueSorted (resetArbiter s) := List.Pairwise.nil
  forInstalled_keeps (P := QueueSorted) (fun _ _ => requeueSnift_sorted)
    (forInstalled_keeps (P := QueueSorted) (fun _ _ => forceToSnift_sorted) emptied)

theorem mem_resetSequencers (e : Entry) : e ∈ (resetSequencers s).pilotQueue ↔ s.isInstalled e.head = true ∧
    (resetSequencers s).phase e.head = .snift ∧ (resetSequencers s).energised e.head .snift = false ∧ e.kind = .snift ∧
    e.step = s.tracker.stepCount := by
  rw [(resetSequencers_sorted s).mem_iff, resetSequencers_entry]
  obtain ⟨head, kind, step⟩ := e
  simp only [Option.ite_none_right_eq_some, Option.some.injEq, Entry.mk.injEq, true_and, and_assoc]
  exact and_congr_right' (and_congr_right' (and_congr_right' (and_congr eq_comm eq_comm)))

/-- The pilots afterwards (R175). -/
theorem resetSequencers_pilots {p : Pilot} (ne : p ≠ .snift) :
    ((resetSequencers s).head h).pilots.get p = (resetPilots s.now (s.head h).pilots).get p := by
  have off := resetPilots_off s.now (s.head h).pilots ne
  cases struck : s.isInstalled h && (s.phase h).filling with
  | false => exact congrArg (fun w : Works => w.pilots.get p) (resetSequencers_other struck).1
  | true =>
    have pilots : ((resetSequencers s).head h).pilots = (resetArbiter s).allReleased h :=
      congrArg Works.pilots (resetSequencers_forced struck).1
    have here : ((resetArbiter s).head h).pilots = resetPilots s.now (s.head h).pilots := by rw [head_resetArbiter]
    rw [pilots, get_allReleased, releasedPilot_stands (by rw [here]; exact off), here]

theorem resetSequencers_phase : (resetSequencers s).phase h = s.phase h ∨
    (s.phase h).filling = true ∧ (resetSequencers s).phase h = .snift := by
  cases struck : s.isInstalled h && (s.phase h).filling with
  | false => exact .inl (congrArg (fun w : Works => w.seq.phase) (resetSequencers_other struck).1)
  | true => exact .inr ⟨(Bool.and_eq_true_iff.mp struck).2, (forcedWorks_vents (resetSequencers_forced struck).1).1⟩

/-- What LINE RESET's part at the sequencers leaves of the rest: every boost slot FREE, the papers as they were. -/
theorem resetSequencers_rest : (∀ i : BoostId, (resetSequencers s).boosts[i.val] = none) ∧ (resetSequencers s).papers = s.papers := by
  obtain ⟨-, -, -, -, boosts, -, papers, -, -⟩ := forcedWhere_forInstalled (r := .reset) (by decide) (resetArbiter s)
  have requeued : (resetSequencers s).boosts = (forInstalled (forceToSnift .reset) (resetArbiter s)).boosts :=
    forInstalled_keeps (P := fun u => u.boosts = (forInstalled (forceToSnift .reset) (resetArbiter s)).boosts)
      (fun j u e => by rw [← e]; unfold requeueSnift; split <;> rfl) rfl
  refine ⟨fun i => ?_, ?_⟩
  · have free : (resetArbiter s).boosts = Vector.replicate 6 none := rfl
    simp [requeued, boosts, State.boostsForced, free]
  · rw [resetSequencers, forInstalled_papers requeueSnift requeueSnift_papers, papers]; rfl

end Sys2Proof.Machine
end

section
/-! SUPPORT. LINE RESET at the head table (R57): every installed head taken out and its values dropped, in ascending number. -/

namespace Sys2Proof.Machine

/-! ## A record from before the reset to after it -/

/-- A record's A and T lie within every revision that its slot holds. -/
def HeadRecord.Within (s : State) (r : HeadRecord) : Prop :=
  ∀ n rev, r.slot = some n → (s.slot n).current = some rev ∨ (s.slot n).pending = some rev →
    r.a ≤ rev.recipe.aMax ∧ -(rev.recipe.tMax : Int) ≤ r.t ∧ r.t ≤ rev.recipe.tMax

/-- How a service state may come out of a reset (R42, R56). -/
def TakenOut (empty : Bool) (x y : Service) : Prop :=
  Leaves empty x y ∨ (x = .joining ∨ x = .inn ∧ empty = true) ∧ y = .out

/-- What a reset, the members that leave and the alignments keep of a record; `acted` tells whether the reset acts on the head. -/
structure Traced (s : State) (empty acted : Bool) (r r' : HeadRecord) : Prop where
  k : r'.k = r.k
  slot : r'.slot = r.slot
  stray : r'.stray = r.stray
  presence : r'.presenceReleased = r.presenceReleased
  drift : r'.drift = r.drift
  calResult : r'.calResult = r.calResult
  service : TakenOut empty r.service r'.service
  member : r'.service ≠ .out → r'.a = r.a ∧ r'.t = r.t ∧ r'.adoptedRev = r.adoptedRev
  within : r.Within s → r'.a = r.a ∧ r'.t = r.t
  apart : acted = false → r.slot = none → r' = r

namespace Traced
variable {s t : State} {empty acted : Bool} {r r' r'' : HeadRecord}

theorem refl (s : State) (empty acted : Bool) (r : HeadRecord) : Traced s empty acted r r :=
  ⟨rfl, rfl, rfl, rfl, rfl, rfl, .inl (.inl rfl), fun _ => ⟨rfl, rfl, rfl⟩, fun _ => ⟨rfl, rfl⟩, fun _ _ => rfl⟩

/-- A record aligned with a revision of its slot: A and T within the revision stand. -/
theorem aligned (e : Traced s empty acted r r') {n : SlotId} {rev : Revision} (out : r'.service = .out) (slot : r'.slot = some n)
    (held : (s.slot n).current = some rev ∨ (s.slot n).pending = some rev) : Traced s empty acted r (alignRecord rev r') := by
  have slot' : r.slot = some n := e.slot.symm.trans slot
  refine ⟨e.k, e.slot, e.stray, e.presence, e.drift, e.calResult, e.service, fun member => absurd out member, fun within => ?_, fun _ none => ?_⟩
  · obtain ⟨a, low, high⟩ := within n rev slot' held
    obtain ⟨sameA, sameT⟩ := e.within within
    refine ⟨?_, ?_⟩
    · show clampLead rev r'.a = r.a
      rw [sameA]; exact Nat.min_eq_left a
    · show clampTrim rev r'.t = r.t
      rw [sameT, clampTrim, min_eq_right high, max_eq_right low]
  · rw [slot'] at none; cases none

theorem realigned (e : Traced s empty acted r r') (revisions : ∀ n rev, (t.slot n).current = some rev ∨ (t.slot n).pending = some rev →
    (s.slot n).current = some rev ∨ (s.slot n).pending = some rev) (c : Realigned t r' r'') : Traced s empty acted r r'' := by
  obtain rfl | ⟨some, rfl⟩ | ⟨out, n, rev, slot, held, rfl⟩ := c
  · exact e
  · exact ⟨e.k, e.slot, e.stray, e.presence, e.drift, e.calResult, e.service, e.member, e.within, fun _ none => absurd (e.slot.trans none) some⟩
  · exact e.aligned out slot (revisions n rev held)

theorem loosened (e : Traced s empty acted r r') (picked : acted = true) (c : Loosened r' r'') : Traced s empty acted r r'' := by
  have apart : acted = false → r.slot = none → r'' = r := fun other => by rw [picked] at other; cases other
  rw [c] at apart ⊢
  exact ⟨e.k, e.slot, e.stray, e.presence, e.drift, e.calResult, e.service, e.member, e.within, apart⟩

theorem leaving (e : Traced s empty acted r r') (picked : acted = true) (inn : r'.service = .inn) (full : empty = false) :
    Traced s empty acted r { r' with service := .leaving } := by
  have service : r.service = .inn := by
    obtain leaves | ⟨-, out⟩ := e.service
    · exact leaves.inn inn
    · rw [inn] at out; cases out
  exact ⟨e.k, e.slot, e.stray, e.presence, e.drift, e.calResult, .inl (.inr ⟨service, full, rfl⟩),
    fun _ => e.member (by rw [inn]; exact nofun), e.within, fun other => by rw [picked] at other; cases other⟩

theorem out (e : Traced s empty acted r r') (picked : acted = true) (goes : r'.service = .joining ∨ r'.service = .inn ∧ empty = true) :
    Traced s empty acted r { r' with service := .out } := by
  have service : r.service = .joining ∨ r.service = .inn ∧ empty = true := by
    obtain leaves | ⟨from', -⟩ := e.service
    · exact goes.imp leaves.joining (And.imp_left leaves.inn)
    · exact from'
  exact ⟨e.k, e.slot, e.stray, e.presence, e.drift, e.calResult, .inr ⟨service, rfl⟩, fun member => absurd rfl member, e.within,
    fun other => by rw [picked] at other; cases other⟩

end Traced

/-- Every record is traced, and no slot holds a revision that it did not hold before. -/
structure BooksTraced (empty acted : HeadId → Bool) (s t : State) : Prop where
  revisions : ∀ n rev, (t.slot n).current = some rev ∨ (t.slot n).pending = some rev →
    (s.slot n).current = some rev ∨ (s.slot n).pending = some rev
  records : ∀ j, Traced s (empty j) (acted j) (s.head j).record (t.head j).record

section
variable {empty acted : HeadId → Bool} {outs : HeadId → Prop} {s t u : State} {h : HeadId}

theorem BooksTraced.modRecord {f : HeadRecord → HeadRecord} (a : BooksTraced empty acted s t)
    (here : Traced s (empty h) (acted h) (s.head h).record (f (t.head h).record)) : BooksTraced empty acted s (modRecord h f t) := by
  refine ⟨a.revisions, fun j => ?_⟩
  by_cases e : j = h
  · subst e; rw [head_modRecord]; exact here
  · rw [head_modRecord_ne e]; exact a.records j

theorem BooksTraced.becomeOut (a : BooksTraced empty acted s t) (picked : acted h = true)
    (goes : (t.head h).record.service = .joining ∨ (t.head h).record.service = .inn ∧ empty h = true) :
    BooksTraced empty acted s (becomeOut h t) := by
  refine ⟨fun n rev held => a.revisions n rev (becomeOut_revisions held), fun j => ?_⟩
  by_cases e : j = h
  · subst e; exact ((a.records j).out picked goes).realigned a.revisions (becomeOut_realigned_self j t)
  · exact (a.records j).realigned a.revisions (becomeOut_realigned e t)

theorem ResetSteps.traced (steps : ResetSteps empty acted outs s t) : BooksTraced empty acted s t := by
  induction steps with
  | refl => exact ⟨fun _ _ => id, fun j => .refl s _ _ _⟩
  | tail _ step ih =>
    cases step with
    | calm records slots =>
      refine ⟨fun n rev held => ih.revisions n rev ?_, fun j => ?_⟩
      · rw [State.slot, slots] at held; exact held
      · rw [records]; exact ih.records j
    | loosen h f picked loose => exact ih.modRecord ((ih.records h).loosened picked loose)
    | leaving h picked inn full => exact ih.modRecord ((ih.records h).leaving picked inn full)
    | out h picked _ goes => exact ih.becomeOut picked goes

end

/-! ## A record once its head has had its turn -/

/-- What R56 drops is dropped, and the head is not a member that stays. -/
structure HeadRecord.Settled (r : HeadRecord) : Prop where
  stagedK : r.stagedK = none
  pendingA : r.pendingA = none
  pendingT : r.pendingT = none
  pendingSlot : r.pendingSlot = none
  resetStaged : r.resetStaged = false
  faultCount : r.faultCount = 0
  notInn : r.service ≠ .inn
  notJoining : r.service ≠ .joining

theorem HeadRecord.Settled.realigned {s : State} {r r' : HeadRecord} (e : r.Settled) (c : Realigned s r r') : r'.Settled := by
  obtain ⟨stagedK, pendingA, pendingT, pendingSlot, resetStaged, faultCount, notInn, notJoining⟩ := e
  obtain rfl | ⟨-, rfl⟩ | ⟨-, n, rev, -, -, rfl⟩ := c
  · exact ⟨stagedK, pendingA, pendingT, pendingSlot, resetStaged, faultCount, notInn, notJoining⟩
  · exact ⟨stagedK, pendingA, pendingT, pendingSlot, resetStaged, faultCount, notInn, notJoining⟩
  · exact ⟨stagedK, congrArg (Option.map (clampLead rev)) pendingA, congrArg (Option.map (clampTrim rev)) pendingT, pendingSlot, resetStaged,
      faultCount, notInn, notJoining⟩

/-- LINE RESET's part of the head table at one head (R57). -/
def lineResetHead (h : HeadId) (s : State) : State := modRecord h HeadRecord.dropped (takeOut h s)

theorem resetRecords_eq (s : State) : resetRecords s = forInstalled lineResetHead s := rfl

theorem lineResetHead_settled (h : HeadId) (s : State) : ((lineResetHead h s).head h).record.Settled := by
  obtain ⟨notInn, notJoining⟩ := takeOut_service h s
  rw [lineResetHead, head_modRecord]
  exact ⟨rfl, rfl, rfl, rfl, rfl, rfl, notInn, notJoining⟩

theorem takeOut_realigned {h j : HeadId} (ne : j ≠ h) (s : State) : Realigned s (s.head j).record ((takeOut h s).head j).record := by
  unfold takeOut
  split
  · exact becomeOut_realigned ne s
  · split
    · exact becomeOut_realigned ne s
    · rw [head_modRecord_ne ne]; exact .inl rfl
  · exact .inl rfl
  · exact .inl rfl

theorem lineResetHead_realigned {h j : HeadId} (ne : j ≠ h) (s : State) :
    Realigned s (s.head j).record ((lineResetHead h s).head j).record := by
  rw [lineResetHead, head_modRecord_ne ne]; exact takeOut_realigned ne s

theorem resetRecords_settled {h : HeadId} {s : State} (installed : s.isInstalled h = true) :
    ((resetRecords s).head h).record.Settled := by
  obtain ⟨u, -, after⟩ := (forInstalled_headPart (R := fun u v => (u.head h).record.Settled → (v.head h).record.Settled) (f := lineResetHead)
    (fun _ => id) (fun a b => b ∘ a) (fun _ v ne settled => settled.realigned (lineResetHead_realigned ne v)) s).1 installed
  exact after (lineResetHead_settled h u)

theorem lineResetHead_plant (h : HeadId) (s : State) : (lineResetHead h s).plant = s.plant := by
  rw [lineResetHead, modRecord_plant, takeOut_plant]
theorem resetRecords_plant (s : State) : (resetRecords s).plant = s.plant :=
  forInstalled_keeps (P := fun u => u.plant = s.plant) (fun h u e => (lineResetHead_plant h u).trans e) rfl
theorem resetRecords_papers (s : State) : (resetRecords s).papers = s.papers :=
  forInstalled_papers lineResetHead (fun h u => takeOut_papers h u) s

/-! ## LINE RESET as steps -/

section
variable {outs : HeadId → Prop} {s : State}

theorem forceToSnift_phase_cases (r : Reason) (h j : HeadId) (s : State) :
    (forceToSnift r h s).phase j = s.phase j ∨ (s.phase j).filling = true ∧ (forceToSnift r h s).phase j = .snift := by
  by_cases e : j = h
  · subst e
    cases filling : (s.phase j).filling with
    | false => rw [forceToSnift_other filling]; exact .inl rfl
    | true => exact .inr ⟨rfl, forceToSnift_phase filling⟩
  · exact .inl (forceToSnift_headStands r e s).phase

/-- The fills are forced one head after the other; one of them may take out a JOINING head (R55). -/
theorem resetSequencers_steps (mayOut : ∀ h u, ResetSteps s.emptyAt s.isInstalled outs s u → (s.phase h).filling = true →
    (u.head h).record.service = .joining → outs h) : ResetSteps s.emptyAt s.isInstalled outs s (resetSequencers s) := by
  have arbiter : ResetSteps s.emptyAt s.isInstalled outs s (resetArbiter s) := (resetArbiter_quiet s).resetSteps
  have start (j : HeadId) : (resetArbiter s).phase j = s.phase j := by rw [State.phase, head_resetArbiter]; rfl
  have forced : (∀ j, ((forInstalled (forceToSnift .reset) (resetArbiter s)).phase j).filling = true → (s.phase j).filling = true) ∧
      ResetSteps s.emptyAt s.isInstalled outs s (forInstalled (forceToSnift .reset) (resetArbiter s)) := by
    refine forInstalled_keepsAt (P := fun u => (∀ j, (u.phase j).filling = true → (s.phase j).filling = true) ∧
      ResetSteps s.emptyAt s.isInstalled outs s u) (fun h installed u ⟨fills, steps⟩ => ⟨fun j filling => fills j ?_, ?_⟩)
      ⟨fun j filling => by rwa [start] at filling, arbiter⟩
    · obtain same | ⟨before, -⟩ := forceToSnift_phase_cases .reset h j u
      · rwa [same] at filling
      · exact before
    · exact steps.trans (forceToSnift_resetSteps installed (fun filling => emptyAt_filling (fills h filling))
        fun filling joining => mayOut h u steps (fills h filling) joining)
  exact forInstalled_keeps (P := ResetSteps s.emptyAt s.isInstalled outs s)
    (fun h u steps => steps.trans (requeueSnift_quiet h u).resetSteps) forced.2

theorem resetSequencers_empty (h : HeadId) (s : State) : (resetSequencers s).phase h = .empty ↔ s.emptyAt h = true := by
  rw [State.emptyAt, decide_eq_true_eq]
  obtain same | ⟨filling, snift⟩ := resetSequencers_phase h s
  · rw [same]
  · rw [snift]
    exact ⟨nofun, fun e => by rw [e] at filling; cases filling⟩

theorem resetRecords_steps {empty : HeadId → Bool} (phase : ∀ h, s.phase h = .empty ↔ empty h = true) :
    ResetSteps empty s.isInstalled (fun _ => True) s (resetRecords s) := by
  refine (forInstalled_keepsAt (f := lineResetHead) (P := fun u => u.plant = s.plant ∧ ResetSteps empty s.isInstalled (fun _ => True) s u)
    (fun h installed u ⟨plant, steps⟩ => ⟨(lineResetHead_plant h u).trans plant, ?_⟩) ⟨rfl, .refl⟩).2
  have phase' : u.phase h = .empty ↔ empty h = true := by rw [phase_of_works (plant_works plant h)]; exact phase h
  exact steps.trans ((takeOut_resetSteps installed phase' fun _ => trivial).trans (dropped_resetSteps installed))

theorem lineReset_traced (s : State) : BooksTraced s.emptyAt s.isInstalled s (resetRecords (resetSequencers s)) := by
  have records := resetRecords_steps (s := resetSequencers s) fun h => resetSequencers_empty h s
  rw [isInstalled_of_outer (resetSequencers_outer s)] at records
  exact (ResetSteps.trans (resetSequencers_steps fun _ _ _ _ _ => trivial) records).traced

end

/-! ## The members that leave, where no fault takes one out before -/

section
variable {acted : HeadId → Bool} {s u t : State} {h : HeadId}

theorem takeOut_goes (goes : (t.head h).record.service = .joining ∨ (t.head h).record.service = .inn ∧ t.phase h = .empty) :
    takeOut h t = becomeOut h t := by
  obtain joining | ⟨inn, empty⟩ := goes
  · simp only [takeOut, joining]
  · simp only [takeOut, inn, empty, if_true]

theorem takeOut_stays (stays : ¬((t.head h).record.service = .joining ∨ (t.head h).record.service = .inn ∧ t.phase h = .empty)) :
    takeOut h t = t ∨ (t.head h).record.service = .inn ∧ t.phase h ≠ .empty ∧
      takeOut h t = modRecord h (fun r => { r with service := .leaving }) t := by
  cases service : (t.head h).record.service with
  | joining => exact absurd (.inl service) stays
  | inn =>
    have full : t.phase h ≠ .empty := fun empty => stays (.inr ⟨service, empty⟩)
    exact .inr ⟨rfl, full, by simp only [takeOut, service, full, if_false]⟩
  | leaving => exact .inl (by simp only [takeOut, service])
  | out => exact .inl (by simp only [takeOut, service])

/-- Books alike stay alike where the head has its turn: it is taken out at once exactly where it would be from the start. -/
theorem BooksAlike.takeOut (a : BooksAlike s.emptyAt acted u t) (picked : acted h = true)
    (fresh : (u.head h).record.service = (s.head h).record.service) (phase : t.phase h = .empty ↔ s.emptyAt h = true) :
    BooksAlike s.emptyAt acted (if s.outAtReset h then Machine.becomeOut h u else u) (takeOut h t) := by
  have leaves : Leaves (s.emptyAt h) (s.head h).record.service (t.head h).record.service := fresh ▸ (a.records h).service
  have goesIff : s.outAtReset h = true ↔
      (t.head h).record.service = .joining ∨ (t.head h).record.service = .inn ∧ t.phase h = .empty := by
    rw [outAtReset_iff, phase]
    refine ⟨?_, Or.imp leaves.joining (And.imp_left leaves.inn)⟩
    obtain same | ⟨inn, full, -⟩ := leaves
    · rw [same]; exact id
    · rw [inn, full]; exact fun c => c.elim nofun fun both => nomatch both.2
  cases goes : s.outAtReset h with
  | true =>
    rw [if_pos rfl, takeOut_goes (goesIff.mp goes)]
    exact a.becomeOut picked
  | false =>
    rw [if_neg Bool.false_ne_true]
    obtain same | ⟨inn, full, left⟩ := takeOut_stays fun c => by rw [goesIff.mpr c] at goes; cases goes
    · rw [same]; exact a
    · rw [left]
      exact a.modRecord picked ((a.records h).leaving inn (Bool.eq_false_iff.mpr fun e => full (phase.mpr e)))

/-- A member that leaves leaves every other head's service state. -/
theorem becomeOut_service {j : HeadId} (ne : j ≠ h) (s : State) :
    ((Machine.becomeOut h s).head j).record.service = (s.head j).record.service := by
  obtain same | ⟨-, same⟩ | ⟨-, n, rev, -, -, same⟩ := becomeOut_realigned ne s <;> rw [same]; rfl

theorem lineReset_foldl_alike (l : List HeadId) (nodup : l.Nodup) (picked : ∀ h ∈ l, acted h = true) (a : BooksAlike s.emptyAt acted u t)
    (fresh : ∀ h ∈ l, (u.head h).record.service = (s.head h).record.service) (phase : ∀ h, t.phase h = .empty ↔ s.emptyAt h = true) :
    BooksAlike s.emptyAt acted (l.foldl (fun acc h => if s.outAtReset h then becomeOut h acc else acc) u)
      (l.foldl (fun acc h => lineResetHead h acc) t) := by
  induction l generalizing u t with
  | nil => exact a
  | cons h l ih =>
    obtain ⟨absent, nodup⟩ := List.nodup_cons.mp nodup
    have here := List.mem_cons_self (a := h) (l := l)
    have turn := a.takeOut (picked h here) (fresh h here) (phase h)
    refine ih nodup (fun j mem => picked j (List.mem_cons_of_mem h mem)) (turn.modRecord (picked h here) ((turn.records h).loosened rfl))
      (fun j mem => ?_) fun j => ?_
    · have ne : j ≠ h := fun c => absent (c ▸ mem)
      rw [← fresh j (List.mem_cons_of_mem h mem)]
      show ((if s.outAtReset h then becomeOut h u else u).head j).record.service = _
      split
      · exact becomeOut_service ne u
      · rfl
    · rw [phase_of_works (plant_works (lineResetHead_plant h t) j)]; exact phase j

/-- Where no fill is under way at a JOINING head, LINE RESET takes members out as if no fill had been forced. -/
theorem lineReset_alike (now : Time) (members : ∀ h, (s.phase h).filling = true → (s.head h).record.service ≠ .joining) :
    BooksAlike s.emptyAt s.isInstalled s.afterLeaving (resetRecords (resetSequencers (s.advance now))) := by
  have forced : BooksAlike s.emptyAt s.isInstalled (s.advance now) (resetSequencers (s.advance now)) :=
    ResetSteps.alike (resetSequencers_steps (s := s.advance now) fun h u steps filling joining =>
      members h filling ((ResetSteps.alike steps).records h |>.service.joining joining))
  have folded := lineReset_foldl_alike s.installed (nodup_installed s) (fun _ => mem_installed.mp)
    (u := s) ⟨forced.slots, forced.records, forced.others⟩ (fun _ _ => rfl) fun h => resetSequencers_empty h (s.advance now)
  rw [resetRecords_eq, forInstalled, installed_of_outer (resetSequencers_outer (s.advance now))]
  exact folded

theorem afterLeaving_service (h : HeadId) (s : State) : (s.afterLeaving.head h).record.service = (s.head h).record.service ∨
    (s.afterLeaving.head h).record.service = .out ∧ s.outAtReset h = true := by
  refine forInstalled_keeps (P := fun u => (u.head h).record.service = (s.head h).record.service ∨
    (u.head h).record.service = .out ∧ s.outAtReset h = true) (fun j u e => ?_) (.inl rfl)
  split
  next goes =>
    by_cases c : h = j
    · subst c; exact .inr ⟨(becomeOut_self h u).1, goes⟩
    · rw [becomeOut_service c]; exact e
  next => exact e

theorem HeadRecord.Settled.eq_reset {e : Bool} {r r' : HeadRecord} (c : r'.Settled) (a : Alike e r r') :
    r' = r.reset (decide (r.service = .inn ∧ e = false)) := by
  obtain ⟨stagedK, pendingA, pendingT, pendingSlot, resetStaged, faultCount, notInn, -⟩ := c
  refine a.rest.trans ?_
  rw [reset_service a.service notInn, stagedK, pendingA, pendingT, pendingSlot, resetStaged, faultCount]
  simp only [HeadRecord.reset, decide_eq_true_eq]

/-- The records then (R57). -/
theorem lineReset_members (now : Time) (members : ∀ h, (s.phase h).filling = true → (s.head h).record.service ≠ .joining) (h : HeadId) :
    ((resetRecords (resetSequencers (s.advance now))).head h).record =
      if s.isInstalled h then (s.afterLeaving.head h).record.reset (s.leavingAtReset h) else (s.afterLeaving.head h).record := by
  have a := lineReset_alike now members
  cases installed : s.isInstalled h with
  | false => exact a.others h installed
  | true =>
    have installed' : (resetSequencers (s.advance now)).isInstalled h = true := by
      rw [isInstalled_of_outer (resetSequencers_outer (s.advance now))]; exact installed
    have same : decide ((s.afterLeaving.head h).record.service = .inn ∧ s.emptyAt h = false) = s.leavingAtReset h := by
      refine Bool.eq_iff_iff.mpr ((decide_eq_true_iff).trans (Iff.trans ?_ leavingAtReset_iff.symm))
      obtain same | ⟨out, goes⟩ := afterLeaving_service h s
      · rw [same]
      · rw [out]
        refine ⟨fun both => (nomatch both.1), fun ⟨inn, full⟩ => ?_⟩
        obtain joining | ⟨-, empty⟩ := outAtReset_iff.mp goes
        · rw [inn] at joining; cases joining
        · rw [full] at empty; cases empty
    rw [if_pos rfl, ← same]
    exact (resetRecords_settled installed').eq_reset (a.records h)

end

end Sys2Proof.Machine
end

section
/-! SUPPORT. LINE RESET (R57, R134, R160, R175, R187): the causes, the calibration in flight, and the statement. -/

namespace Sys2Proof.Machine

/-! ## The last parts of LINE RESET -/

/-- The transit list emptied and every cause cleared, the calibration still in flight. -/
def lineCleared (o : State) : State := clearAllCauses (putTransit [] o)

/-- LINE RESET's state before the grants; irreducible, as comparing two of its items by unfolding it takes long. -/
@[irreducible] def lineResetState (s : State) : State := cancelCalibration (lineCleared (resetRecords (resetSequencers s)))

theorem lineResetState_eq (s : State) : lineResetState s = cancelCalibration (lineCleared (resetRecords (resetSequencers s))) := by
  delta lineResetState; rfl

/-- The calibration result of a head once a calibration in flight is cancelled (R160). -/
def State.calResultCancelled (o : State) (j : HeadId) : Option CalResult :=
  match o.divider with
  | none => (o.head j).record.calResult
  | some c => if c.head = j then some { outcome := .cancelled, kNew := none, tag := c.tag } else (o.head j).record.calResult

section
variable (j : HeadId) (o : State)

theorem head_lineCleared : (lineCleared o).head j = if o.isInstalled j then { o.head j with causes := .clear } else o.head j := by
  have folded : (lineCleared o).head j = (o.installed.foldl (fun acc h => modHead h (fun x => { x with causes := .clear }) acc)
      (putTransit [] o)).head j := rfl
  rw [folded, head_foldl_modHead _ j (nodup_installed o)]
  simp only [mem_installed]
  rfl

theorem lineCleared_works : ((lineCleared o).head j).works = (o.head j).works := by rw [head_lineCleared]; split <;> rfl
theorem lineCleared_record : ((lineCleared o).head j).record = (o.head j).record := by rw [head_lineCleared]; split <;> rfl

theorem lineCleared_outer : (lineCleared o).outer = o.outer := clearAllCauses_outer (putTransit [] o)

theorem lineCleared_rest : (lineCleared o).slots = o.slots ∧ (lineCleared o).pilotQueue = o.pilotQueue ∧ (lineCleared o).boosts = o.boosts ∧
    (lineCleared o).papers = { o.papers with transit := [] } ∧
    (lineCleared o).globals = { angleFault := false, reverse := false, verdictLoss := false } ∧
    LineJudged (lineCleared o) := by
  have folded : (forInstalled (fun h s => modCauses h (fun _ => .clear) s) (putTransit [] o)).slots = o.slots ∧
      (forInstalled (fun h s => modCauses h (fun _ => .clear) s) (putTransit [] o)).plant = (putTransit [] o).plant ∧
      (forInstalled (fun h s => modCauses h (fun _ => .clear) s) (putTransit [] o)).papers = { o.papers with transit := [] } :=
    forInstalled_keeps (f := fun h s => modCauses h (fun _ => .clear) s)
      (P := fun u => u.slots = o.slots ∧ u.plant = (putTransit [] o).plant ∧ u.papers = (putTransit [] o).papers)
      (fun h u ⟨slots, plant, papers⟩ => ⟨slots, (modCauses_plant h (fun _ => .clear) u).trans plant, papers⟩) ⟨rfl, rfl, rfl⟩
  obtain ⟨slots, plant, papers⟩ := folded
  exact ⟨slots, (plant_queue plant :), (plant_boosts plant :), papers, rfl, judgeLine_judged _⟩

theorem cancelCalibration_works : ((cancelCalibration o).head j).works = (o.head j).works := by
  cases busy : o.divider with
  | none => rw [cancelCalibration_none busy]
  | some c => rw [cancelCalibration_some busy, head_cancelled]; split <;> rfl

/-- A calibration in flight cancelled: CANCELLED in its head's record. -/
theorem cancelCalibration_record :
    ((cancelCalibration o).head j).record = { (o.head j).record with calResult := o.calResultCancelled j } := by
  unfold State.calResultCancelled
  cases busy : o.divider with
  | none => rw [cancelCalibration_none busy]
  | some c =>
    rw [cancelCalibration_some busy, head_cancelled]
    by_cases mine : j = c.head
    · simp only [if_pos mine, if_pos mine.symm]
    · simp only [if_neg mine, if_neg (Ne.symm mine)]

/-- A calibration in flight cancelled: CAL_DONE at its head. -/
theorem cancelCalibration_causes : ((cancelCalibration o).head j).causes =
    if o.calibrates j then { (o.head j).causes with calDone := some { outcome := .cancelled, kNew := none } } else (o.head j).causes := by
  cases busy : o.divider with
  | none =>
    rw [cancelCalibration_none busy, State.calibrates, busy]
    rfl
  | some c =>
    rw [cancelCalibration_some busy, head_cancelled, State.calibrates, busy]
    by_cases mine : j = c.head
    · simp [mine]
    · simp [mine, Ne.symm mine]

theorem cancelCalibration_rest : (cancelCalibration o).slots = o.slots ∧ (cancelCalibration o).plant = o.plant ∧
    (cancelCalibration o).papers = o.papers ∧ (cancelCalibration o).outer = { o.outer with divider := none } ∧
    (LineJudged o → LineJudged (cancelCalibration o)) := by
  cases busy : o.divider with
  | none =>
    rw [cancelCalibration_none busy]
    exact ⟨rfl, rfl, rfl, by rw [← busy]; rfl, id⟩
  | some c =>
    rw [cancelCalibration_some busy]
    exact ⟨rfl, cancelled_plant c o, rfl, cancelled_outer c o, fun _ => changeCauses_judged c.head _ _⟩

end

/-! ## The state before the grants, part by part -/

section
variable (h : HeadId) (s : State)

theorem lineReset_outer : (resetRecords (resetSequencers s)).outer = s.outer := by rw [resetRecords_outer, resetSequencers_outer]

theorem lineReset_divider : (lineCleared (resetRecords (resetSequencers s))).divider = s.divider :=
  outer_divider ((lineCleared_outer _).trans (lineReset_outer s))

theorem lineResetState_works : ((lineResetState s).head h).works = ((resetSequencers s).head h).works := by
  rw [lineResetState_eq, cancelCalibration_works, lineCleared_works, plant_works (resetRecords_plant _)]

theorem lineResetState_record : ((lineResetState s).head h).record =
    { ((resetRecords (resetSequencers s)).head h).record with calResult := s.calResultCancelled h } := by
  rw [lineResetState_eq, cancelCalibration_record, State.calResultCancelled, State.calResultCancelled, lineCleared_record, lineReset_divider,
    ((lineReset_traced s).records h).calResult]

theorem lineResetState_causes {h : HeadId} {s : State} (installed : s.isInstalled h = true) : ((lineResetState s).head h).causes =
    { Causes.clear with calDone := if s.calibrates h then some { outcome := .cancelled, kNew := none } else none } := by
  rw [lineResetState_eq, cancelCalibration_causes, State.calibrates, lineReset_divider, ← State.calibrates, head_lineCleared,
    isInstalled_of_outer (lineReset_outer s), installed, if_pos rfl]
  cases s.calibrates h <;> rfl

theorem lineResetState_rest : (lineResetState s).slots = (resetRecords (resetSequencers s)).slots ∧
    (lineResetState s).pilotQueue = (resetSequencers s).pilotQueue ∧ (∀ i : BoostId, (lineResetState s).boosts[i.val] = none) ∧
    (lineResetState s).papers = { s.papers with transit := [] } ∧
    (lineResetState s).globals = { angleFault := false, reverse := false, verdictLoss := false } ∧
    (lineResetState s).outer = { s.outer with divider := none } ∧ LineJudged (lineResetState s) := by
  obtain ⟨free, sequencersPapers⟩ := resetSequencers_rest s
  have recordsPlant := resetRecords_plant (resetSequencers s)
  obtain ⟨slots, queue, boosts, papers, globals, judged⟩ := lineCleared_rest (resetRecords (resetSequencers s))
  obtain ⟨slots', plant, papers', outer', judged'⟩ := cancelCalibration_rest (lineCleared (resetRecords (resetSequencers s)))
  have allBoosts := (plant_boosts plant).trans (boosts.trans (plant_boosts recordsPlant))
  rw [lineResetState_eq]
  refine ⟨slots'.trans slots, (plant_queue plant).trans (queue.trans (plant_queue recordsPlant)), fun i => by rw [allBoosts]; exact free i,
    ?_, (plant_globals plant).trans globals, ?_, judged' judged⟩
  · rw [papers', papers, resetRecords_papers, sequencersPapers]
  · rw [outer', lineCleared_outer, lineReset_outer]

/-! ## The statement's parts -/

theorem lineReset_queue (e : Entry) : e ∈ (lineResetState s).pilotQueue ↔ s.isInstalled e.head = true ∧
    (lineResetState s).phase e.head = .snift ∧ (lineResetState s).energised e.head .snift = false ∧ e.kind = .snift ∧
    e.step = s.tracker.stepCount := by
  have works := lineResetState_works e.head s
  obtain ⟨-, queue, -⟩ := lineResetState_rest s
  rw [queue, phase_of_works works, energised_of_works works]
  exact mem_resetSequencers s e

theorem lineReset_pilots {p : Pilot} (ne : p ≠ .snift) :
    ((lineResetState s).head h).pilots.get p = (resetPilots s.now (s.head h).pilots).get p := by
  rw [works_pilots (lineResetState_works h s)]; exact resetSequencers_pilots h s ne

/-- A head whose fill is not forced: the works stand but for the pilots. -/
theorem lineReset_works_other {h : HeadId} {s : State} (other : (s.isInstalled h && (s.phase h).filling) = false) :
    ((lineResetState s).head h).works = { (s.head h).works with pilots := resetPilots s.now (s.head h).pilots } :=
  (lineResetState_works h s).trans (resetSequencers_other other).1

/-- A head whose fill is forced. -/
theorem lineReset_works_forced {h : HeadId} {s : State} (struck : (s.isInstalled h && (s.phase h).filling) = true) :
    ((lineResetState s).head h).seq = { (s.head h).seq with phase := .snift, timers := .stopped } ∧
    ((lineResetState s).head h).ticket = (s.head h).ticket.map fun tk => (tk.endedWith .reset (s.phase h)).judge := by
  have works := (lineResetState_works h s).trans (resetSequencers_forced struck).1
  have here := head_resetArbiter h s
  refine ⟨(congrArg Works.seq works).trans ?_, (congrArg Works.ticket works).trans ?_⟩
  · rw [State.forcedWorks, here]
  · rw [State.forcedWorks, State.phase, here]; rfl

/-- Neither forced nor unforced does a head lose its counted time or its inputs. -/
theorem lineReset_inputs : ((lineResetState s).head h).lastCounted = (s.head h).lastCounted ∧
    ((lineResetState s).head h).presence = (s.head h).presence ∧
    ((lineResetState s).head h).pressureEqual = (s.head h).pressureEqual := by
  have works := lineResetState_works h s
  have here := head_resetArbiter h s
  have sequencers := @resetSequencers_other h s
  have forced := @resetSequencers_forced h s
  generalize (lineResetState s).head h = y at *
  cases struck : s.isInstalled h && (s.phase h).filling with
  | false =>
    have works := works.trans (sequencers struck).1
    exact ⟨congrArg Works.lastCounted works, congrArg Works.presence works, congrArg Works.pressureEqual works⟩
  | true =>
    have works := works.trans (forced struck).1
    rw [State.forcedWorks, here] at works
    exact ⟨congrArg Works.lastCounted works, congrArg Works.presence works, congrArg Works.pressureEqual works⟩

/-- What LINE RESET leaves of every record (R57). -/
theorem lineReset_values :
    ((lineResetState s).head h).record.calResult = s.calResultCancelled h ∧
    (s.leavingAtReset h = true ∨ (s.head h).record.service = .leaving →
      ((lineResetState s).head h).record.a = (s.head h).record.a ∧ ((lineResetState s).head h).record.t = (s.head h).record.t ∧
      ((lineResetState s).head h).record.adoptedRev = (s.head h).record.adoptedRev ∧
      ((lineResetState s).head h).record.slot = (s.head h).record.slot) ∧
    ((s.head h).record.Within s →
      ((lineResetState s).head h).record.a = (s.head h).record.a ∧ ((lineResetState s).head h).record.t = (s.head h).record.t) ∧
    (s.isInstalled h = false → (s.head h).record.slot = none →
      ((lineResetState s).head h).record = { (s.head h).record with calResult := ((lineResetState s).head h).record.calResult }) := by
  rw [lineResetState_record]
  have traced := (lineReset_traced s).records h
  generalize ((resetRecords (resetSequencers s)).head h).record = w at *
  refine ⟨rfl, fun leaves => ?_, traced.within, fun out noSlot => by rw [traced.apart out noSlot]⟩
  have member : w.service ≠ .out := by
    intro out
    obtain stays | ⟨goes, -⟩ := traced.service
    · obtain same | ⟨-, -, left⟩ := stays
      · rw [out] at same
        rcases leaves with leaves | leaves
        · exact nomatch same.trans (leavingAtReset_iff.mp leaves).1
        · exact nomatch same.trans leaves
      · exact nomatch out.symm.trans left
    · rcases leaves with leaves | leaves
      · obtain ⟨inn, full⟩ := leavingAtReset_iff.mp leaves
        exact goes.elim (fun joining => nomatch inn.symm.trans joining) fun both => nomatch full.symm.trans both.2
      · exact goes.elim (fun joining => nomatch leaves.symm.trans joining) fun both => nomatch leaves.symm.trans both.1
  obtain ⟨a, t, adopted⟩ := traced.member member
  exact ⟨a, t, adopted, traced.slot⟩

/-- What a settled head's service state has come from (R42, R56). -/
theorem TakenOut.settled {empty : Bool} {x y : Service} (e : TakenOut empty x y) (notInn : y ≠ .inn) (notJoining : y ≠ .joining) :
    (x = .inn → empty = false → y = .leaving) ∧ (x = .joining ∨ x = .inn ∧ empty = true → y = .out) ∧
    (x = .out ∨ x = .leaving → y = x) := by
  obtain (same | ⟨inn, full, left⟩) | ⟨goes, out⟩ := e
  · subst same
    exact ⟨fun inn => absurd inn notInn, fun goes => goes.elim (absurd · notJoining) fun both => absurd both.1 notInn, fun _ => rfl⟩
  · subst inn; subst full
    exact ⟨fun _ _ => left, fun goes => goes.elim nofun fun both => (nomatch both.2), fun other => other.elim nofun nofun⟩
  · refine ⟨fun inn full => ?_, fun _ => out, fun other => ?_⟩
    · exact goes.elim (fun joining => nomatch inn.symm.trans joining) fun both => nomatch full.symm.trans both.2
    · rcases goes with joining | ⟨inn, -⟩
      · rw [joining] at other; exact other.elim nofun nofun
      · rw [inn] at other; exact other.elim nofun nofun

/-- The record of an installed head after LINE RESET, item by item (R57). -/
theorem lineReset_record {h : HeadId} {s : State} (installed : s.isInstalled h = true) :
    let r := (s.head h).record
    let y := ((lineResetState s).head h).record
    y.stagedK = none ∧ y.pendingA = none ∧ y.pendingT = none ∧ y.pendingSlot = none ∧ y.resetStaged = false ∧ y.faultCount = 0 ∧
    y.drift = r.drift ∧ y.k = r.k ∧ y.slot = r.slot ∧ y.stray = r.stray ∧ y.presenceReleased = r.presenceReleased ∧
    (r.service = .inn → s.phase h ≠ .empty → y.service = .leaving) ∧
    (r.service = .joining ∨ r.service = .inn ∧ s.phase h = .empty → y.service = .out) ∧
    (r.service = .out ∨ r.service = .leaving → y.service = r.service) := by
  rw [lineResetState_record]
  have traced := (lineReset_traced s).records h
  have settled : ((resetRecords (resetSequencers s)).head h).record.Settled :=
    resetRecords_settled (by rw [isInstalled_of_outer (resetSequencers_outer s)]; exact installed)
  generalize ((resetRecords (resetSequencers s)).head h).record = w at *
  obtain ⟨leaving, out, stays⟩ := traced.service.settled settled.notInn settled.notJoining
  exact ⟨settled.stagedK, settled.pendingA, settled.pendingT, settled.pendingSlot, settled.resetStaged, settled.faultCount, traced.drift,
    traced.k, traced.slot, traced.stray, traced.presence, fun inn full => leaving inn (decide_eq_false full),
    fun goes => out (goes.imp_right (And.imp_right decide_eq_true)), stays⟩

end

/-! ## The statement -/

theorem exec_lineReset (t : Time) (s : State) :
    exec (.lineReset t) s = .next (answered 0x0B .done 0 [] (arbitrate (lineResetState (s.advance t)))) := by
  rw [lineResetState_eq]; rfl

/-- The cancelled calibration's result as the statement writes it. -/
theorem calResultCancelled_eq (s : State) (j : HeadId) : s.calResultCancelled j = (match s.divider with
    | none => (s.head j).record.calResult
    | some c => if c.head = j then some { outcome := .cancelled, kNew := none, tag := c.tag } else (s.head j).record.calResult) := by
  unfold State.calResultCancelled; rfl

/-- Settles O41: the fills and the queue by `mem_resetSequencers` and `lineReset_works_forced`, the records by `ResetSteps.traced` over all the
heads' turns and, where no fill is under way at a JOINING head, by `lineReset_alike`. -/
theorem lineResetAborts : Obligations.LineResetAborts := by
  intro t s u
  have now : u = s.advance t := rfl
  clear_value u
  subst now
  obtain ⟨slots, -, boosts, papers, globals, outer, judged⟩ := lineResetState_rest (s.advance t)
  refine ⟨lineResetState (s.advance t), exec_lineReset t s, outer, congrArg Papers.transit papers, congrArg Papers.tagCounter papers,
    congrArg Papers.lines papers, globals, boosts, judged, lineReset_queue (s.advance t), fun h => ?_, fun h => ?_, fun members => ?_,
    fun h installed => ?_⟩
  · have gas := lineReset_pilots h (s.advance t) (p := .gas) nofun
    have fast := lineReset_pilots h (s.advance t) (p := .fast) nofun
    have slow := lineReset_pilots h (s.advance t) (p := .slow) nofun
    have works := @lineReset_works_other h (s.advance t)
    exact ⟨gas, fast, slow, fun other => ⟨congrArg Works.seq (works other), congrArg Works.ticket (works other),
      congrArg (fun w : Works => w.pilots.snift) (works other)⟩⟩
  · obtain ⟨result, leaves, within, untouched⟩ := lineReset_values h (s.advance t)
    exact ⟨result.trans (calResultCancelled_eq (s.advance t) h), leaves, within, untouched⟩
  · refine ⟨slots.trans (lineReset_alike t members).slots, fun h => ?_⟩
    have record := lineResetState_record h (s.advance t)
    rw [lineReset_members t members] at record
    refine ⟨fun installed => ?_, fun out => ?_⟩
    · rw [installed, if_pos rfl] at record; rw [record]
    · rw [out, if_neg Bool.false_ne_true] at record; rw [record]
  · obtain ⟨stagedK, pendingA, pendingT, pendingSlot, resetStaged, faultCount, drift, k, slot, stray, presence, leaving,
      out, stays⟩ := lineReset_record (s := s.advance t) installed
    obtain ⟨lastCounted, present, pressure⟩ := lineReset_inputs h (s.advance t)
    have causes := lineResetState_causes (s := s.advance t) installed
    have forced := @lineReset_works_forced h (s.advance t)
    refine ⟨fun tk filling held => ?_, stagedK, pendingA, pendingT, pendingSlot, resetStaged, faultCount, drift, k, slot, stray, presence,
      lastCounted, present, pressure, leaving, out, stays, causes⟩
    obtain ⟨seq, ticket⟩ := forced (Bool.and_eq_true_iff.mpr ⟨installed, filling⟩)
    have held' : ((s.advance t).head h).ticket = some tk := held
    rw [held'] at ticket
    exact ⟨ticket, seq⟩

end Sys2Proof.Machine
end

section
/-! SUPPORT. Events that begin no fill (R40): a head in phase EMPTY stays so, and where OUT and JOINING heads were in EMPTY they are after. The
heads' work but seating, the grants and the forced endings are such events. -/

namespace Sys2Proof.Machine

/-! ## One head -/

/-- No fill has begun: a phase after is EMPTY if it was, and in SEATED to TOPUP only if it was. -/
structure NoFillBegun (p q : Phase) : Prop where
  empty : p = .empty → q = .empty
  filling : q.filling = true → p.filling = true

theorem NoFillBegun.refl (p : Phase) : NoFillBegun p p := ⟨id, id⟩
theorem NoFillBegun.trans {p q r : Phase} (a : NoFillBegun p q) (b : NoFillBegun q r) : NoFillBegun p r :=
  ⟨fun e => b.empty (a.empty e), fun f => a.filling (b.filling f)⟩
theorem NoFillBegun.of_eq {p q : Phase} (e : q = p) : NoFillBegun p q := e ▸ .refl p

theorem Phase.ne_empty_of_filling {p : Phase} (filling : p.filling = true) : p ≠ .empty := fun e => by rw [e] at filling; cases filling

/-- A fill under way may go anywhere. -/
theorem NoFillBegun.of_filling {p : Phase} (q : Phase) (filling : p.filling = true) : NoFillBegun p q :=
  ⟨fun e => absurd e (Phase.ne_empty_of_filling filling), fun _ => filling⟩

/-- Any phase may become EMPTY. -/
theorem NoFillBegun.to_empty {p q : Phase} (e : q = .empty) : NoFillBegun p q := ⟨fun _ => e, fun f => by rw [e] at f; cases f⟩

/-- If the head is OUT or JOINING, it is in phase EMPTY (R40). -/
def Head.Idle (x : Head) : Prop := x.record.service = .out ∨ x.record.service = .joining → x.seq.phase = .empty

/-- What an event that begins no fill makes of a head. -/
structure Head.Calm (installed : Bool) (x y : Head) : Prop where
  phase : NoFillBegun x.seq.phase y.seq.phase
  idle : x.Idle → y.Idle
  out : installed = false → x.record.service = .out → y.record.service = .out

theorem Head.Calm.of_service {installed : Bool} {x y : Head} (service : y.record.service = x.record.service)
    (phase : NoFillBegun x.seq.phase y.seq.phase) : x.Calm installed y where
  phase := phase
  idle idle e := phase.empty (idle (service ▸ e))
  out _ e := service.trans e

theorem Head.Calm.trans {installed : Bool} {x y z : Head} (a : x.Calm installed y) (b : y.Calm installed z) : x.Calm installed z :=
  ⟨a.phase.trans b.phase, fun e => b.idle (a.idle e), fun away e => b.out away (a.out away e)⟩

/-! ## One head's and every head's part of an event -/

/-- The event begins no fill at head `j`, and the tracker stands. -/
structure CalmAt (j : HeadId) (s t : State) : Prop where
  tracker : t.tracker = s.tracker
  head : (s.head j).Calm (s.isInstalled j) (t.head j)

theorem CalmAt.of_service {j : HeadId} {s t : State} (tracker : t.tracker = s.tracker)
    (service : (t.head j).record.service = (s.head j).record.service) (phase : NoFillBegun (s.phase j) (t.phase j)) : CalmAt j s t :=
  ⟨tracker, .of_service service phase⟩

theorem CalmAt.refl (j : HeadId) (s : State) : CalmAt j s s := .of_service rfl rfl (.refl _)

theorem CalmAt.trans {j : HeadId} {s t u : State} (a : CalmAt j s t) (b : CalmAt j t u) : CalmAt j s u := by
  have installed : t.isInstalled j = s.isInstalled j := by rw [State.isInstalled, State.isInstalled, a.tracker]
  exact ⟨b.tracker.trans a.tracker, a.head.trans (installed ▸ b.head)⟩

/-- The event begins no fill at any head. -/
def Calm (s t : State) : Prop := ∀ j, CalmAt j s t

theorem Calm.refl (s : State) : Calm s s := fun j => .refl j s
theorem Calm.trans {s t u : State} (a : Calm s t) (b : Calm t u) : Calm s u := fun j => (a j).trans (b j)

/-- Nothing of heads and tracker has changed. -/
theorem Calm.of_same {s t : State} (heads : t.heads = s.heads) (tracker : t.tracker = s.tracker) : Calm s t := by
  have head (j : HeadId) : t.head j = s.head j := by rw [State.head, State.head, heads]
  exact fun j => .of_service tracker (by rw [head]) (.of_eq (by rw [State.phase, head]; rfl))

theorem modHead_calm {h : HeadId} {f : Head → Head} {s : State} (calm : (s.head h).Calm (s.isInstalled h) (f (s.head h))) :
    Calm s (modHead h f s) := by
  intro j
  by_cases e : j = h
  · subst e; exact ⟨rfl, by rw [head_modHead_self]; exact calm⟩
  · exact .of_service rfl (by rw [head_modHead_ne e]) (.of_eq (by rw [State.phase, head_modHead_ne e]; rfl))

/-- A change of service states none, of phases one head's at most. -/
theorem calm_of_elsewhere {h : HeadId} {s t : State} (outer : t.outer = s.outer) (apart : t.elsewhere h = s.elsewhere h)
    (service : ∀ j, (t.head j).record.service = (s.head j).record.service) (phase : NoFillBegun (s.phase h) (t.phase h)) : Calm s t := by
  refine fun j => .of_service (outer_tracker outer) (service j) ?_
  by_cases e : j = h
  · rw [e]; exact phase
  · exact .of_eq (congrArg Sequencer.phase (works_seq (works_of_elsewhere apart e)))

/-- An event of no other head's fill, by its phase before and after. -/
theorem Quiet.calm {h : HeadId} {s t : State} (q : Quiet s t) (outer : t.outer = s.outer) (apart : t.elsewhere h = s.elsewhere h)
    (phase : NoFillBegun (s.phase h) (t.phase h)) : Calm s t :=
  calm_of_elsewhere outer apart (fun j => by rw [q.record]) phase

theorem FillOnly.calm {h : HeadId} {s u : State} (f : FillOnly h s u) (phase : NoFillBegun (s.phase h) (u.phase h)) : Calm s u := by
  have ⟨outer, _, _, apart⟩ := f.others
  refine calm_of_elsewhere outer apart (fun j => ?_) phase
  by_cases e : j = h
  · rw [e, f.record]
  · rw [f.members.1 j e]

/-! ## Records, causes, timers, pilots -/

theorem modRecord_calm {h : HeadId} {f : HeadRecord → HeadRecord} {s : State}
    (service : (f (s.head h).record).service = (s.head h).record.service) : Calm s (modRecord h f s) :=
  modHead_calm (.of_service service (.refl _))
theorem modCauses_calm (h : HeadId) (f : Causes → Causes) (s : State) : Calm s (modCauses h f s) := modHead_calm (.of_service rfl (.refl _))
theorem modPilots_calm (h : HeadId) (f : Pilots → Pilots) (s : State) : Calm s (modPilots h f s) := modHead_calm (.of_service rfl (.refl _))
theorem modTicket_calm (h : HeadId) (f : Ticket → Ticket) (s : State) : Calm s (modTicket h f s) := modHead_calm (.of_service rfl (.refl _))
theorem modSeq_calm {h : HeadId} {f : Sequencer → Sequencer} {s : State} (phase : NoFillBegun (s.phase h) (f (s.head h).seq).phase) :
    Calm s (modSeq h f s) := modHead_calm (.of_service rfl phase)

theorem mapHeads_calm {f : Head → Head} (service : ∀ x, (f x).record.service = x.record.service) (seq : ∀ x, (f x).seq = x.seq)
    (s : State) : Calm s (mapHeads f s) := fun j =>
  .of_service rfl (by rw [head_mapHeads, service]) (.of_eq (by rw [State.phase, head_mapHeads, seq]; rfl))

theorem changeCauses_calm (h : HeadId) (f : Causes → Causes) (s : State) : Calm s (changeCauses h f s) :=
  (modCauses_calm h f s).trans (.of_same rfl rfl)
theorem startTimer_calm (n : TimerName) (h : HeadId) (s : State) : Calm s (startTimer n h s) := by
  unfold startTimer; split
  · exact .refl s
  · exact modSeq_calm (.refl _)
theorem stopTimer_calm (n : TimerName) (h : HeadId) (s : State) : Calm s (stopTimer n h s) := modSeq_calm (.refl _)
theorem enterPhase_calm {p : Phase} {h : HeadId} {s : State} (phase : NoFillBegun (s.phase h) p) : Calm s (enterPhase p h s) :=
  modSeq_calm phase
theorem queueOpen_calm (k : OpenKind) (h : HeadId) (s : State) : Calm s (queueOpen k h s) := .of_same rfl rfl
theorem release_calm (p : Pilot) (h : HeadId) (s : State) : Calm s (release p h s) :=
  (release_fillOnly p h s).calm (.of_eq (phase_release p h h s))

theorem enterPhase_phase (p : Phase) (h : HeadId) (s : State) : (enterPhase p h s).phase h = p := by
  rw [State.phase, enterPhase, modSeq, head_modHead_self]

/-! ## Members come and go -/

theorem alignOut_calm (n : SlotId) (rev : Revision) (s : State) : Calm s (alignOut n rev s) :=
  mapHeads_calm (fun x => by split <;> rfl) (fun x => by split <;> rfl) s
theorem membersUseCurrent_calm (n : SlotId) (s : State) : Calm s (membersUseCurrent n s) :=
  mapHeads_calm (fun x => by split <;> rfl) (fun x => by split <;> rfl) s
theorem modSlot_calm (n : SlotId) (f : Slot → Slot) (s : State) : Calm s (modSlot n f s) := .of_same rfl rfl
theorem promoteIfDone_calm (n : SlotId) (s : State) : Calm s (promoteIfDone n s) := by
  unfold promoteIfDone promote; split
  · split
    · exact .refl s
    · exact (modSlot_calm n _ s).trans ((membersUseCurrent_calm n _).trans (alignOut_calm n _ _))
  · exact .refl s
theorem leaveCounts_calm (n : SlotId) (had : Bool) (s : State) : Calm s (leaveCounts n had s) :=
  (modSlot_calm n _ s).trans (promoteIfDone_calm n _)

/-- A member that leaves leaves every other head where it was. -/
theorem becomeOut_calmAt {h j : HeadId} (ne : j ≠ h) (s : State) : CalmAt j s (becomeOut h s) :=
  .of_service (outer_tracker (becomeOut_outer h s)) (becomeOut_service ne s)
    (.of_eq (phase_of_works (plant_works (becomeOut_plant h s) j)))

/-- A head becomes OUT in phase EMPTY (R40, R42). -/
theorem becomeOut_calm {h : HeadId} {s : State} (empty : (s.head h).Idle → s.phase h = .empty) : Calm s (becomeOut h s) := by
  intro j
  by_cases e : j = h
  · subst e
    have phase : (becomeOut j s).phase j = s.phase j := phase_of_works (plant_works (becomeOut_plant j s) j)
    exact ⟨outer_tracker (becomeOut_outer j s), .of_eq phase, fun idle _ => phase.trans (empty idle), fun _ _ => (becomeOut_self j s).1⟩
  · exact becomeOut_calmAt e s

theorem takeOut_calm (h : HeadId) (s : State) : Calm s (takeOut h s) := by
  unfold takeOut
  split
  next joining => exact becomeOut_calm fun idle => idle (.inr joining)
  next inn =>
    split
    next empty => exact becomeOut_calm fun _ => empty
    next =>
      refine modHead_calm ⟨.refl _, fun _ => ?_, fun _ out => ?_⟩
      · rintro (c | c) <;> cases c
      · rw [inn] at out; cases out
  · exact .refl s
  · exact .refl s

theorem raiseEquipment_calm (d : EquipmentDetail) (h : HeadId) (s : State) : Calm s (raiseEquipment d h s) :=
  (changeCauses_calm h _ s).trans (takeOut_calm h _)

theorem countFault_calm (h : HeadId) (s : State) : Calm s (countFault h s) := by
  unfold countFault; split
  · exact modRecord_calm rfl
  · exact (modRecord_calm rfl).trans ((changeCauses_calm h _ _).trans (takeOut_calm h _))

/-! ## Dose end and forced endings -/

theorem learn_calm (h : HeadId) (s : State) : Calm s (learn h s) := by
  unfold learn; split
  · split
    · split
      · exact modRecord_calm rfl
      · exact .refl s
    · exact .refl s
  · exact .refl s

theorem reportDoseEnd_calm (h : HeadId) (s : State) : Calm s (reportDoseEnd h s) := by
  unfold reportDoseEnd; split
  · exact .refl s
  · split
    · exact (changeCauses_calm h _ s).trans (countFault_calm h _)
    · split
      · exact (changeCauses_calm h _ s).trans (modRecord_calm rfl)
      · exact .refl s

theorem doseEnd_calm {h : HeadId} {s : State} (filling : (s.phase h).filling = true) : Calm s (doseEnd h s) :=
  ((doseJudged_fillOnly h s).calm (.of_filling _ filling)).trans ((learn_calm h _).trans (reportDoseEnd_calm h _))

theorem forceToSnift_calm (r : Reason) (h : HeadId) (s : State) : Calm s (forceToSnift r h s) := by
  cases filling : (s.phase h).filling with
  | false => rw [forceToSnift_other filling]; exact .refl s
  | true =>
    have prepared : (forcePrepared r h s).phase h = s.phase h := by rw [State.phase, head_forcePrepared]; rfl
    rw [forceToSnift_filling filling]
    exact ((forcePrepared_fillOnly r h s).calm (.of_eq prepared)).trans (doseEnd_calm (by rw [prepared]; exact filling))

theorem equipmentEnding_calm (d : EquipmentDetail) (r : Reason) (h : HeadId) (s : State) : Calm s (equipmentEnding d r h s) :=
  (raiseEquipment_calm d h s).trans (forceToSnift_calm r h _)

/-- A forced ending to SETTLE touches only a fill under way (R97). -/
theorem forceToSettle_calm (r : Reason) (h : HeadId) (s : State) : Calm s (forceToSettle r h s) := by
  have settled (filling : (s.phase h).filling = true) : Calm s (forceToSettle r h s) :=
    (forceToSettle_quiet r h s).calm (forceToSettle_outer r h s) (forceToSettle_elsewhere r h s) (.of_filling _ filling)
  have stands (e : forceToSettle r h s = s) : Calm s (forceToSettle r h s) := by rw [e]; exact .refl s
  cases phase : s.phase h with
  | fast => exact settled (by rw [phase]; rfl)
  | slow => exact settled (by rw [phase]; rfl)
  | topup => exact settled (by rw [phase]; rfl)
  | _ => exact stands (by simp only [forceToSettle, phase])

theorem flowStill_calm (h : HeadId) (s : State) : Calm s (flowStill h s) := by
  unfold flowStill
  split
  next settle _ _ =>
    have filling : ((modTicket h Ticket.recordSample s).phase h).filling = true := by rw [phase_modTicket, settle]; rfl
    refine (modTicket_calm h Ticket.recordSample s).trans ?_
    simp only
    split
    · exact (enterTopUp_quiet filling).calm (enterTopUp_outer h _) (enterTopUp_elsewhere h _) (.of_filling _ filling)
    · exact doseEnd_calm filling
  next settle _ _ => exact doseEnd_calm (by rw [settle]; rfl)
  · exact .refl s

theorem sniftDone_calm (h : HeadId) (s : State) : Calm s (sniftDone h s) := by
  unfold sniftDone; split
  next snift =>
    have ready : (modTicket h (fun tk => { tk with headEnd := some .vented }) (release .snift h s)).phase h = .snift := by
      rw [phase_modTicket, phase_release, snift]
    exact (release_calm .snift h s).trans ((modTicket_calm h _ _).trans (enterPhase_calm (by rw [ready]; exact ⟨nofun, nofun⟩)))
  next => exact .refl s

theorem equalize_calm (h : HeadId) (s : State) : Calm s (equalize h s) := by
  have equalized : Calm s (stopTimer .equalize h (modSeq h (fun q => { q with equalized := true }) s)) :=
    (modSeq_calm (.refl _)).trans (stopTimer_calm _ h _)
  unfold equalize; simp only; split
  · exact equalized.trans (queueOpen_calm .fill h _)
  · exact equalized

/-! ## Grants (R83, R85, R93, R106, R165) -/

theorem gasGrant_calm (h : HeadId) (s : State) : Calm s (gasGrant h s) := by
  have granted : Calm s (startTimer .equalize h (modSeq h (fun q => { q with gasGranted := true }) s)) :=
    (modSeq_calm (.refl _)).trans (startTimer_calm _ h _)
  unfold gasGrant; simp only; split
  · exact granted.trans (equipmentEnding_calm _ _ h _)
  · exact granted

theorem takeGrant_calm (k : OpenKind) (h : HeadId) (s : State) : Calm s (takeGrant k h s) := by
  unfold takeGrant
  split
  · exact gasGrant_calm h s
  next pressurize => exact (enterPhase_calm (.of_filling _ (by rw [pressurize]; rfl))).trans (startTimer_calm _ h _)
  · exact startTimer_calm _ h s
  · exact startTimer_calm _ h s
  · exact .refl s

theorem grant_calm (i : BoostId) (e : Entry) (s : State) : Calm s (grant i e s) := by
  have held (b : Vector (Option Grant) 6) : Calm s (putBoosts b s) := .of_same rfl rfl
  have withdrawn (u : State) : Calm u (withdraw e.head u) := .of_same rfl rfl
  exact (held _).trans ((modPilots_calm e.head _ _).trans ((withdrawn _).trans (takeGrant_calm _ _ _)))

theorem arbitrate_calm (s : State) : Calm s (arbitrate s) :=
  arbitrate_keeps (P := Calm s) (fun i e u _ _ calm => calm.trans (grant_calm i e u)) (.refl s)

/-- An event of the installed heads begins no fill where no head's part does. -/
theorem forInstalled_calm {f : HeadId → State → State} (hf : ∀ h s, Calm s (f h s)) (s : State) : Calm s (forInstalled f s) :=
  forInstalled_keeps (P := Calm s) (fun h u calm => calm.trans (hf h u)) (.refl s)

theorem abortAll_calm (r : Reason) (s : State) : Calm s (abortAll r s) :=
  (forInstalled_calm (forceToSnift_calm r) s).trans (arbitrate_calm _)

/-! ## Pulses -/

theorem countPulse_calm (tk : Ticket) (h : HeadId) (s : State) : Calm s (countPulse tk h s) := by
  have timers (u : State) : Calm u (pulseTimers h u) :=
    (pulseTimers_quiet h u).calm (pulseTimers_outer h u) (pulseTimers_elsewhere h u) (.of_eq (pulseTimers_phase h u))
  exact (modHead_calm (.of_service rfl (.refl _))).trans (timers _)

theorem countedPulse_calm (tk : Ticket) {h : HeadId} {s : State} (filling : (s.phase h).filling = true) : Calm s (countedPulse tk h s) := by
  have taken (c : DoseCrossing) : Calm s (takeDoseCrossing c h (countPulse tk h s)) := by
    have filling' : ((countPulse tk h s).phase h).filling = true := by rw [countPulse_phase]; exact filling
    exact (countPulse_calm tk h s).trans
      ((takeDoseCrossing_quiet c filling').calm (takeDoseCrossing_outer c h _) (takeDoseCrossing_elsewhere c h _) (.of_filling _ filling'))
  unfold countedPulse; split
  · exact countPulse_calm tk h s
  · exact (taken _).trans (arbitrate_calm _)

theorem glitchPulse_calm (tk : Ticket) (h : HeadId) (s : State) : Calm s (glitchPulse tk h s) := by
  unfold glitchPulse; split
  · exact (modTicket_calm h _ s).trans ((equipmentEnding_calm _ _ h _).trans (arbitrate_calm _))
  · exact modTicket_calm h _ s

theorem meterPulse_calm (h : HeadId) (s : State) : Calm s (meterPulse h s) := by
  unfold meterPulse; split
  next counting =>
    split
    · exact .refl s
    · split
      · exact glitchPulse_calm _ h s
      · exact countedPulse_calm _ (Phase.filling_of_counting counting)
  next => exact modRecord_calm rfl

/-! ## Crossings but infeed and commit -/

theorem gasCrossing_calm (h : HeadId) (s : State) : Calm s (gasCrossing h s) := by
  unfold gasCrossing; split
  next seated => exact (queueOpen_calm .gas h s).trans (enterPhase_calm (.of_filling _ (by
    have : (queueOpen .gas h s).phase h = s.phase h := rfl
    rw [this, seated]; rfl)))
  next => exact .refl s

theorem fillCrossing_calm (h : HeadId) (s : State) : Calm s (fillCrossing h s) := by
  have reached : Calm s (modSeq h (fun q => { q with fillReached := true }) s) := modSeq_calm (.refl _)
  unfold fillCrossing; split
  · simp only
    split
    · exact reached.trans (queueOpen_calm .fill h _)
    · exact reached
  · exact reached
  all_goals exact .refl s

theorem closeByCrossing_calm (h : HeadId) (s : State) : Calm s (closeByCrossing h s) := by
  have passed : Calm s (modSeq h (fun q => { q with closeByPassed := true }) s) := modSeq_calm (.refl _)
  have settled := passed.trans (forceToSettle_calm .closeBy h _)
  have sniffed := passed.trans (forceToSnift_calm .closeBy h _)
  unfold closeByCrossing; simp only; split
  · exact .refl s
  · exact settled
  · exact settled
  · exact settled
  · exact sniffed
  · exact sniffed
  all_goals exact passed

theorem sniftByCrossing_calm (h : HeadId) (s : State) : Calm s (sniftByCrossing h s) := by
  have forced := forceToSnift_calm .sniftBy h s
  unfold sniftByCrossing; split
  · exact forced
  · exact forced
  · exact forced
  · exact forced
  · exact forced
  next settle => exact (modTicket_calm h _ s).trans (doseEnd_calm (by rw [phase_modTicket, settle]; rfl))
  all_goals exact .refl s

/-! ## Discharge -/

/-- The ticket handed over, the head is in phase EMPTY (R108). -/
theorem handOver_phase (h : HeadId) (s : State) : (handOver h s).phase h = .empty := by
  unfold handOver; split
  · exact enterPhase_phase .empty h s
  · exact enterPhase_phase .empty h _

theorem handOver_calm (h : HeadId) (s : State) : Calm s (handOver h s) :=
  (handOver_quiet h s).calm (handOver_outer h s) (handOver_elsewhere h s) (.to_empty (handOver_phase h s))

/-- Discharge in SNIFT up to the hand-over: the SNIFT pilot released, its timer stopped, the ticket cut short, the fault raised (R108). -/
def ventShort (h : HeadId) (s : State) : State :=
  raiseFillFault .sniftShort h (modTicket h Ticket.cutShort (stopTimer .snift h (release .snift h s)))

/-- Discharge in SNIFT up to the count of the fault (R108). -/
def handedShort (h : HeadId) (s : State) : State := handOver h (ventShort h s)

/-- The fault of a ticket cut short is counted unless its dose end has counted one (R55, R108). -/
theorem dischargeSnift_eq (h : HeadId) (s : State) : dischargeSnift h s =
    if ((s.head h).ticket.all fun tk => tk.faultReason.isSome) = true then handedShort h s else countFault h (handedShort h s) := by
  unfold dischargeSnift
  cases (s.head h).ticket <;> rfl

theorem handedShort_calm (h : HeadId) (s : State) : Calm s (handedShort h s) :=
  (release_calm .snift h s).trans <| (stopTimer_calm .snift h _).trans <| (modTicket_calm h Ticket.cutShort _).trans <|
    (changeCauses_calm h (fun c => { c with fillFault := some .sniftShort }) _).trans (handOver_calm h _)

theorem dischargeSnift_calm (h : HeadId) (s : State) : Calm s (dischargeSnift h s) := by
  rw [dischargeSnift_eq]; split
  · exact handedShort_calm h s
  · exact (handedShort_calm h s).trans (countFault_calm h _)

theorem dischargeSnift_phase (h : HeadId) (s : State) : (dischargeSnift h s).phase h = .empty := by
  have handed : (handedShort h s).phase h = .empty := handOver_phase h _
  rw [dischargeSnift_eq]; split
  · exact handed
  · exact (countFault_calm h _ h).head.phase.empty handed

theorem dischargeCrossing_calm (h : HeadId) (s : State) : Calm s (dischargeCrossing h s) := by
  unfold dischargeCrossing; split
  · exact .of_same rfl rfl
  · exact handOver_calm h s
  · exact dischargeSnift_calm h s
  all_goals exact (sniftByCrossing_calm h s).trans (dischargeSnift_calm h _)

/-- The discharge crossing leaves its head in phase EMPTY (R108). -/
theorem dischargeCrossing_phase (h : HeadId) (s : State) : (dischargeCrossing h s).phase h = .empty := by
  unfold dischargeCrossing; split
  next empty => exact empty
  · exact handOver_phase h s
  all_goals exact dischargeSnift_phase h _

/-! ## Commit-angle processing -/

theorem takeK_calm (k : Nat) (h : HeadId) (s : State) : Calm s (takeK k h s) := (modRecord_calm rfl).trans (changeCauses_calm h _ _)

theorem moveCounts_calm (h : HeadId) (n : SlotId) (s : State) : Calm s (moveCounts h n s) := by
  unfold moveCounts; simp only; split
  · exact .refl s
  · refine Calm.trans ?_ ((modSlot_calm n _ _).trans (modRecord_calm rfl))
    split
    · exact .refl s
    · exact leaveCounts_calm _ _ s

theorem commitSlot_calm (h : HeadId) (s : State) : Calm s (commitSlot h s) := by
  unfold commitSlot; split
  · exact .refl s
  · exact (moveCounts_calm h _ s).trans ((modRecord_calm rfl).trans (modRecord_calm rfl))

theorem commitAdopt_calm (h : HeadId) (s : State) : Calm s (commitAdopt h s) := by
  unfold commitAdopt; simp only; split
  · exact .refl s
  · split
    · exact .refl s
    · split
      · exact .refl s
      · exact (modRecord_calm (by rfl)).trans ((modSlot_calm _ _ _).trans (promoteIfDone_calm _ _))

/-- Steps 1 to 6 of the commit crossing (R49 to R54). -/
def commitValues (h : HeadId) (s : State) : State :=
  commitAdopt h (commitSlot h (commitPending h (commitK h (commitStray h (commitPresence h s)))))

theorem commitCrossing_eq (h : HeadId) (s : State) : commitCrossing h s = commitService h (commitValues h s) := rfl

theorem commitValues_calm (h : HeadId) (s : State) : Calm s (commitValues h s) := by
  have presence : Calm s (commitPresence h s) := by
    unfold commitPresence; split
    · exact .refl s
    · exact modRecord_calm rfl
  have stray (u : State) : Calm u (commitStray h u) := by
    unfold commitStray; simp only; split
    · exact (raiseEquipment_calm _ h u).trans (modRecord_calm rfl)
    · exact modRecord_calm rfl
  have k (u : State) : Calm u (commitK h u) := by
    unfold commitK; split
    · exact .refl u
    · exact takeK_calm _ h u
  have pending (u : State) : Calm u (commitPending h u) := modRecord_calm (by split <;> rfl)
  exact presence.trans <| (stray _).trans <| (k _).trans <| (pending _).trans <| (commitSlot_calm h _).trans (commitAdopt_calm h _)

/-- The service change at a head in phase EMPTY, which is where a commit crossing finds it (R48, R54). -/
theorem commitService_calm {h : HeadId} {s : State} (empty : s.phase h = .empty) : Calm s (commitService h s) := by
  unfold commitService; split
  next joining =>
    refine modHead_calm ⟨.refl _, fun _ _ => empty, fun _ out => ?_⟩
    rw [joining] at out; cases out
  · exact becomeOut_calm fun _ => empty
  · exact .refl s
  · exact .refl s

theorem commitService_calmAt {h j : HeadId} (ne : j ≠ h) (s : State) : CalmAt j s (commitService h s) := by
  unfold commitService; split
  · exact .of_service rfl (by rw [head_modRecord_ne ne]) (.of_eq (by rw [State.phase, head_modRecord_ne ne]; rfl))
  · exact becomeOut_calmAt ne s
  · exact .refl j s
  · exact .refl j s

theorem commitCrossing_calm {h : HeadId} {s : State} (empty : s.phase h = .empty) : Calm s (commitCrossing h s) := by
  rw [commitCrossing_eq]
  exact (commitValues_calm h s).trans (commitService_calm ((commitValues_calm h s h).head.phase.empty empty))

end Sys2Proof.Machine
end

section
/-! SUPPORT. Every request but SET LINE begins no fill (R40), nor does any command that produces no crossing. -/

namespace Sys2Proof.Machine

/-! ## SET HEAD (R41, R42, R45 to R47) -/

theorem writeK_calm (k : Nat) (h : HeadId) (s : State) : Calm s (writeK k h s) := by
  unfold writeK; split
  · exact takeK_calm k h s
  · exact modRecord_calm rfl

theorem becomeJoining_calm {h : HeadId} {s : State} (out : (s.head h).record.service = .out) (installed : s.isInstalled h = true) :
    Calm s (becomeJoining h s) := by
  have joined : Calm s (modRecord h (fun r => { r with service := .joining, usesPending := false }) s) := by
    refine modHead_calm ⟨.refl _, fun idle _ => idle (.inl out), fun away => ?_⟩
    rw [installed] at away; cases away
  unfold becomeJoining; simp only; split
  · exact joined
  · exact joined.trans (modSlot_calm _ _ _)

theorem bringIn_calm {h : HeadId} {s : State} (installed : s.isInstalled h = true) : Calm s (bringIn h s) := by
  unfold bringIn; split
  next out => exact becomeJoining_calm out installed
  next leaving =>
    refine modHead_calm ⟨.refl _, fun _ => ?_, fun _ out => ?_⟩
    · rintro (c | c) <;> cases c
    · rw [leaving] at out; cases out
  · exact .refl s
  · exact .refl s

theorem applyHeadFields_calm (f : HeadFields) {h : HeadId} {s : State} (installed : s.isInstalled h = true) :
    Calm s (applyHeadFields f h s) := by
  have k : Calm s (applyK f.k h s) := by
    unfold applyK; split
    · exact .refl s
    · exact writeK_calm _ h s
  have slot (u : State) : Calm u (applySlot f.slot h u) := by
    unfold applySlot writeSlot; split
    · exact .refl u
    · split
      · exact modRecord_calm (by rfl)
      · exact modRecord_calm (by rfl)
  have reset (u : State) : Calm u (applyReset f.reset h u) := by
    unfold applyReset; split
    · exact .refl u
    · split
      · exact modRecord_calm (by rfl)
      · exact modRecord_calm (by rfl)
  have before := k.trans ((slot _).trans (reset _))
  unfold applyHeadFields applyService
  refine before.trans ?_
  split
  · exact .refl _
  · exact bringIn_calm (by rw [State.isInstalled, (before h).tracker]; exact installed)
  · exact takeOut_calm h _

/-! ## Calibration, resets, verdicts -/

theorem recordOutcome_calm (h : HeadId) (o : CalOutcome) (k : Option Nat) (tag : Tag) (s : State) : Calm s (recordOutcome h o k tag s) :=
  (modRecord_calm rfl).trans (changeCauses_calm h _ _)

theorem idleDivider_calm (s : State) : Calm s { s with divider := none } := .of_same rfl rfl

theorem completeDivision_calm (c : Calibration) (s : State) : Calm s (completeDivision c s) := by
  have recorded (u : State) (o : CalOutcome) (k : Option Nat) : Calm u (recordOutcome c.head o k c.tag { u with divider := none }) :=
    (idleDivider_calm u).trans (recordOutcome_calm _ _ _ _ _)
  unfold completeDivision; simp only; split
  · exact (writeK_calm _ _ s).trans (recorded _ _ _)
  · exact recorded s _ _

theorem cancelCalibration_calm (s : State) : Calm s (cancelCalibration s) := by
  unfold cancelCalibration; split
  · exact .refl s
  · exact (idleDivider_calm s).trans (recordOutcome_calm _ _ _ _ _)

theorem requeueSnift_calm (h : HeadId) (s : State) : Calm s (requeueSnift h s) := by
  unfold requeueSnift; split
  · exact queueOpen_calm .snift h s
  · exact .refl s

theorem resetHead_calm (h : HeadId) (s : State) : Calm s (resetHead h s) := by
  have sequenced : Calm s (resetSequencer h s) :=
    (Calm.of_same (s := s) (t := withdraw h s) rfl rfl).trans ((forceToSnift_calm .reset h _).trans (requeueSnift_calm h _))
  have recorded (u : State) : Calm u (resetRecord h u) := (takeOut_calm h u).trans (modRecord_calm (by rfl))
  have cancelled (u : State) : Calm u (cancelForHead h u) := by
    unfold cancelForHead; split
    · exact cancelCalibration_calm u
    · exact .refl u
  exact sequenced.trans <| (recorded _).trans <| (changeCauses_calm h _ _).trans <| (cancelled _).trans (arbitrate_calm _)

theorem resetLine_calm (s : State) : Calm s (resetLine s) := by
  have arbiter : Calm s (resetArbiter s) :=
    (Calm.of_same (s := s) (t := putQueue [] (putBoosts (Vector.replicate 6 none) s)) rfl rfl).trans <|
      mapHeads_calm (f := fun x => { x with pilots := resetPilots s.now x.pilots }) (fun _ => rfl) (fun _ => rfl) _
  have sequencers : Calm s (resetSequencers s) := arbiter.trans <|
    (forInstalled_calm (forceToSnift_calm .reset) _).trans (forInstalled_calm requeueSnift_calm _)
  have records (u : State) : Calm u (resetRecords u) := forInstalled_calm (fun h u => (takeOut_calm h u).trans (modRecord_calm rfl)) u
  have transit (u : State) : Calm u (putTransit [] u) := .of_same rfl rfl
  have causes (u : State) : Calm u (clearAllCauses u) := by
    have heads := forInstalled_calm (fun h => modCauses_calm h fun _ => .clear) u
    exact heads.trans (.of_same rfl rfl)
  exact sequencers.trans <| (records _).trans <| (transit _).trans <| (causes _).trans <| (cancelCalibration_calm _).trans (arbitrate_calm _)

theorem trimFrom_calm (tk : Ticket) (s : State) : Calm s (trimFrom tk s) := by
  have trimmed (rev : Revision) (step : Int) (h : HeadId) : Calm s (trimHead rev step h s) := by
    unfold trimHead; simp only; split
    · exact (modRecord_calm rfl).trans (changeCauses_calm h _ _)
    · exact modRecord_calm rfl
  unfold trimFrom; split
  · split
    · exact trimmed _ _ _
    · exact .refl s
  · exact .refl s

theorem recordVerdict_calm (v : Verdict) (tk : Ticket) (s : State) : Calm s (recordVerdict v tk s) := by
  have put (l : List Ticket) (u : State) : Calm u (putTransit l u) := .of_same rfl rfl
  unfold recordVerdict; simp only; split
  · exact (put _ s).trans (trimFrom_calm _ _)
  · exact (put _ s).trans ((trimFrom_calm _ _).trans (put _ _))

theorem clearHead_calm (kinds : Byte) (h : HeadId) (s : State) : Calm s (clearHead kinds h s) := by
  unfold clearHead; simp only; split
  · exact (changeCauses_calm h _ s).trans (modRecord_calm rfl)
  · exact changeCauses_calm h _ s

/-! ## Every request but SET LINE -/

theorem serveWriteRecipe_calm (slot : Byte) (b : RevisionBlock) (s : State) : Calm s (serveWriteRecipe slot b s).1 := by
  have current (n : SlotId) (rev : Revision) : Calm s (writeCurrent n rev s) := (modSlot_calm n _ s).trans (alignOut_calm n rev _)
  unfold serveWriteRecipe; split
  · exact .refl s
  · split
    · exact .refl s
    · simp only
      split
      · exact current _ _
      · exact current _ _
      · split
        · exact .refl s
        · exact Calm.of_same rfl rfl

theorem serveSetHead_calm (head service : Byte) (k : Half) (slot reset : Byte) (s : State) :
    Calm s (serveSetHead head service k slot reset s).1 := by
  unfold serveSetHead
  split
  · exact .refl s
  next h named =>
    obtain ⟨-, installed⟩ := installedHead_isInstalled named
    split
    · exact .refl s
    next f _ =>
      split
      · exact .refl s
      · exact applyHeadFields_calm f installed

theorem serve_calm {r : Request} (notLine : ∀ f, r ≠ .setLine f) (s : State) : Calm s (serve r s).1 := by
  have transit (l : List Ticket) (u : State) : Calm u (putTransit l u) := .of_same rfl rfl
  cases r with
  | readStatus => exact .refl s
  | readHead head =>
    have drawn : Calm s { s with freeReads := s.freeReads + 1 } := .of_same rfl rfl
    simp only [serve, serveReadHead]; split
    · exact .refl s
    · exact drawn.trans (changeCauses_calm _ _ _)
  | readRecipe slot => simp only [serve, serveReadRecipe]; split <;> exact .refl s
  | readTicket selector number => exact .refl s
  | findTickets head slot location disposition verdictPresent startAfter => exact .refl s
  | setLine f => exact absurd rfl (notLine f)
  | writeRecipe slot block => exact serveWriteRecipe_calm slot block s
  | eraseRecipe slot =>
    simp only [serve, serveEraseRecipe]; split
    · exact .refl s
    · split
      · exact .refl s
      · exact Calm.of_same rfl rfl
  | setHead head service k slot resetLearning => exact serveSetHead_calm head service k slot resetLearning s
  | headReset head =>
    simp only [serve, serveHeadReset]; split
    · exact .refl s
    next h _ =>
      dsimp only
      exact resetHead_calm h s
  | lineReset =>
    simp only [serve, serveLineReset]
    exact resetLine_calm s
  | abortFill head =>
    simp only [serve, serveAbortFill]; split
    · exact abortAll_calm _ s
    · split
      · exact .refl s
      · exact (forceToSnift_calm _ _ s).trans (arbitrate_calm _)
  | verdict tag level =>
    have missed (n : Tag) : Calm s (retireMissed n s) := by
      unfold retireMissed; simp only; split
      · exact .of_same rfl rfl
      · exact .of_same rfl rfl
    simp only [serve, serveVerdict]; split
    · exact .refl s
    · split
      · exact .refl s
      · exact (missed _).trans (recordVerdict_calm _ _ _)
  | keep tag =>
    simp only [serve, serveKeep]; split
    · exact .refl s
    · split
      · exact .refl s
      · split
        · exact .refl s
        · split
          · exact transit _ s
          · exact .refl s
  | retire tag =>
    simp only [serve, serveRetire]; split
    · exact .refl s
    · split
      · exact .refl s
      · exact transit _ s
  | calibrate tag w force =>
    simp only [serve, serveCalibrate]; split
    · exact .refl s
    · split
      · exact .refl s
      · split
        · exact .refl s
        · split
          · exact .refl s
          · split
            · exact .refl s
            · exact .of_same rfl rfl
  | holdLearning hold =>
    have dropped : Calm s (dropPending s) := mapHeads_calm
      (f := fun x => { x with record := { x.record with pendingA := none, pendingT := none } }) (fun _ => rfl) (fun _ => rfl) s
    simp only [serve, serveHoldLearning]; split
    · exact .refl s
    · exact dropped.trans (.of_same rfl rfl)
    · exact .of_same rfl rfl
  | clearAttention target kinds =>
    simp only [serve, serveClearAttention]; split
    · split
      · exact .refl s
      · exact .of_same rfl rfl
    · split
      · exact .refl s
      · split
        · exact .refl s
        · split
          · exact .refl s
          · exact clearHead_calm kinds _ s
  | setMask kinds => exact .of_same rfl rfl

end Sys2Proof.Machine
end

section
/-! SUPPORT. Every commit crossing finds its head in phase EMPTY (R40, R48, R109): crossing-producing steps, the index that references the tracker,
reverse motion, SET LINE, and from these every command. -/

namespace Sys2Proof.Machine

/-! ## The invariant, its clause on fills under way apart -/

/-- The head's angle lies from the discharge angle to the commit angle. -/
def LineSetup.Cleared (l : LineSetup) (theta : Nat) : Prop := l.discharge ≤ theta ∧ theta ≤ l.commit

/-- What `CommitFindsEmpty` says of line setup, tracker and heads but for fills under way. -/
structure CommitClear (s : State) : Prop where
  zones : ZonesInOrder s.tracker.line
  headCount : s.tracker.line.headCount ∈ headCounts
  legal : TrackerLegal s
  idle : ∀ j, (s.head j).Idle
  away : ∀ j, s.isInstalled j = false → (s.head j).record.service = .out
  clear : s.tracker.motion ≠ .unreferenced → ∀ j, s.tracker.line.Cleared (s.tracker.line.relative s.tracker.front j) → s.phase j = .empty

/-- The tracker neither counts towards the crossings ahead of it nor owes the abort of R9. -/
def Tracker.Still (k : Tracker) : Prop := k.motion = .unreferenced ∨ k.motion = .backing ∧ k.reverseOwed = false

theorem commitFindsEmpty_iff (s : State) :
    CommitFindsEmpty s ↔ CommitClear s ∧ (s.tracker.Still → ∀ j, (s.phase j).filling = false) := by
  constructor
  · rintro ⟨zones, headCount, legal, idle, away, clear, still⟩
    refine ⟨⟨zones, headCount, legal, idle, away, fun motion j cleared => ?_⟩, still⟩
    by_contra holds
    obtain ⟨from_, upto⟩ := cleared
    have := clear j motion holds
    omega
  · rintro ⟨⟨zones, headCount, legal, idle, away, clear⟩, still⟩
    refine ⟨zones, headCount, legal, idle, away, fun j motion holds => ?_, still⟩
    by_contra cleared
    obtain ⟨from_, upto⟩ := not_or.mp cleared
    exact holds (clear motion j ⟨Nat.not_lt.mp from_, Nat.not_lt.mp upto⟩)

/-- A head that is not installed is in phase EMPTY. -/
theorem CommitClear.awayEmpty {s : State} (hs : CommitClear s) {j : HeadId} (away : s.isInstalled j = false) : s.phase j = .empty :=
  hs.idle j (.inl (hs.away j away))

/-! ## Events that begin no fill, and moves of the tracker alone -/

theorem Calm.commitClear {s t : State} (c : Calm s t) (hs : CommitClear s) : CommitClear t := by
  have tracker : t.tracker = s.tracker := (c 0).tracker
  have installed (j : HeadId) : t.isInstalled j = s.isInstalled j := by rw [State.isInstalled, State.isInstalled, tracker]
  exact ⟨tracker ▸ hs.zones, tracker ▸ hs.headCount, (trackerLegal_congr tracker).mpr hs.legal, fun j => (c j).head.idle (hs.idle j),
    fun j away => (c j).head.out (installed j ▸ away) (hs.away j (installed j ▸ away)),
    fun motion j cleared => (c j).head.phase.empty (hs.clear (tracker ▸ motion) j (tracker ▸ cleared))⟩

theorem Calm.noFill {s t : State} (c : Calm s t) {j : HeadId} (none : (s.phase j).filling = false) : (t.phase j).filling = false :=
  Bool.eq_false_iff.mpr fun filling => by
    rw [State.phase, (c j).head.phase.filling filling] at none
    cases none

theorem Calm.commitFindsEmpty {s t : State} (c : Calm s t) (hs : CommitFindsEmpty s) : CommitFindsEmpty t := by
  obtain ⟨clear, still⟩ := (commitFindsEmpty_iff s).mp hs
  exact (commitFindsEmpty_iff t).mpr ⟨c.commitClear clear, fun e j => c.noFill (still ((c 0).tracker ▸ e) j)⟩

/-- A motion of the tracker that produces no crossing leaves the angle up to which crossings have been produced (R7 to R9, R14). -/
theorem CommitClear.retracked {s : State} {k : Tracker} (hs : CommitClear s) (line : k.line = s.tracker.line)
    (legal : TrackerLegal { s with tracker := k })
    (front : k.motion ≠ .unreferenced → s.tracker.motion ≠ .unreferenced ∧ k.front = s.tracker.front) :
    CommitClear { s with tracker := k } where
  zones := line ▸ hs.zones
  headCount := line ▸ hs.headCount
  legal := legal
  idle := hs.idle
  away j away := hs.away j (by rw [← away, State.isInstalled, State.isInstalled, line])
  clear motion j cleared := by
    obtain ⟨before, same⟩ := front motion
    refine hs.clear before j ?_
    rw [← line, ← same]; exact cleared

/-! ## A crossing at one head -/

theorem seat_head (h : HeadId) (s : State) : seat h s = s ∨ ∃ q tk, seat h s = putTagCounter (s.nextTag + 1) (setHead h { s.head h with
    record := { (s.head h).record with presenceReleased := false }, seq := q, ticket := some tk } s) := by
  obtain same | ⟨tk, q, -, seated⟩ := seat_cases h s
  · exact .inl same
  · exact .inr ⟨q, tk, seated⟩

/-- A seating leaves every other head. -/
theorem infeedCrossing_calmAt {h j : HeadId} (ne : j ≠ h) (s : State) : CalmAt j s (infeedCrossing h s) := by
  unfold infeedCrossing; simp only; split
  · split
    · obtain same | ⟨q, tk, seated⟩ := seat_head h s
      · rw [same]; exact .refl j s
      · rw [seated]
        exact .of_service rfl (by rw [head_putTagCounter, head_setHead_ne ne])
          (.of_eq (by rw [State.phase, head_putTagCounter, head_setHead_ne ne]; rfl))
    · exact changeCauses_calm h _ s j
  · exact .refl j s

/-- Only an IN head is seated (R80). -/
theorem infeedCrossing_idle {h : HeadId} {s : State} (idle : (s.head h).Idle) : ((infeedCrossing h s).head h).Idle := by
  unfold infeedCrossing; simp only; split
  next free =>
    split
    · obtain same | ⟨q, tk, seated⟩ := seat_head h s
      · rw [same]; exact idle
      · rw [seated, head_putTagCounter, head_setHead_self]
        have inn : (s.head h).record.service = .inn := free.1
        rintro (c | c) <;> rw [inn] at c <;> cases c
    · exact (changeCauses_calm h _ s h).head.idle idle
  next => exact idle

theorem crossHead_calmAt {h j : HeadId} (ne : j ≠ h) (s : State) : CalmAt j s (crossHead h s) := by
  unfold crossHead; split
  · exact .refl j s
  next z _ =>
    cases z with
    | infeed => exact infeedCrossing_calmAt ne s
    | gas => exact gasCrossing_calm h s j
    | fill => exact fillCrossing_calm h s j
    | closeBy => exact closeByCrossing_calm h s j
    | sniftBy => exact sniftByCrossing_calm h s j
    | discharge => exact dischargeCrossing_calm h s j
    | commit => exact (commitValues_calm h s j).trans (commitService_calmAt ne _)

/-- The head's own crossing. A head beyond its discharge angle and not beyond its commit angle is in phase EMPTY before it; at the discharge
angle it is after it (R48, R108). -/
theorem crossHead_clear {h : HeadId} {s : State} (zones : ZonesInOrder s.tracker.line) (idle : (s.head h).Idle)
    (before : s.tracker.line.discharge < s.tracker.line.relative s.tracker.angle h →
      s.tracker.line.relative s.tracker.angle h ≤ s.tracker.line.commit → s.phase h = .empty) :
    ((crossHead h s).head h).Idle ∧
    (s.tracker.line.Cleared (s.tracker.line.relative s.tracker.angle h) → (crossHead h s).phase h = .empty) := by
  have order := zones
  obtain ⟨o1, o2, o3, o4, o5, o6, -⟩ := order
  generalize theta : s.tracker.line.relative s.tracker.angle h = a at *
  have early (low : a < s.tracker.line.discharge) (P : Prop) : s.tracker.line.Cleared a → P := fun ⟨c, _⟩ => absurd c (Nat.not_le.mpr low)
  have quiet (t : State) (calm : Calm s t) (low : a < s.tracker.line.discharge) :
      (t.head h).Idle ∧ (s.tracker.line.Cleared a → t.phase h = .empty) := ⟨(calm h).head.idle idle, early low _⟩
  by_cases on : ∃ z, a = s.tracker.line.zoneAngle z
  · obtain ⟨z, e⟩ := on
    rw [crossHead_at zones (theta.trans e)]
    cases z with
    | infeed => exact ⟨infeedCrossing_idle idle, early (by rw [e]; simp only [LineSetup.zoneAngle]; omega) _⟩
    | gas => exact quiet _ (gasCrossing_calm h s) (by rw [e]; simp only [LineSetup.zoneAngle]; omega)
    | fill => exact quiet _ (fillCrossing_calm h s) (by rw [e]; simp only [LineSetup.zoneAngle]; omega)
    | closeBy => exact quiet _ (closeByCrossing_calm h s) (by rw [e]; simp only [LineSetup.zoneAngle]; omega)
    | sniftBy => exact quiet _ (sniftByCrossing_calm h s) (by rw [e]; simp only [LineSetup.zoneAngle]; omega)
    | discharge => exact ⟨fun _ => dischargeCrossing_phase h s, fun _ => dischargeCrossing_phase h s⟩
    | commit =>
      have empty := before (by rw [e]; exact o6) (by rw [e]; exact Nat.le_refl _)
      have calm : CalmAt h s (deliver .commit h s) := commitCrossing_calm empty h
      exact ⟨calm.head.idle idle, fun _ => calm.head.phase.empty empty⟩
  · rw [crossHead_off fun z => by rw [theta]; exact fun e => on ⟨z, e⟩]
    refine ⟨idle, fun ⟨low, high⟩ => before (lt_of_le_of_ne low fun e => on ⟨.discharge, e.symm⟩) high⟩

/-! ## The crossings of one angle -/

/-- The crossings of the present angle, delivered to every installed head (R5, R6). -/
theorem deliverCrossings_clear {s : State} (motion : s.tracker.motion = .tracking) (zones : ZonesInOrder s.tracker.line)
    (headCount : s.tracker.line.headCount ∈ headCounts) (legal : TrackerLegal s) (idle : ∀ j, (s.head j).Idle)
    (away : ∀ j, s.isInstalled j = false → (s.head j).record.service = .out)
    (before : ∀ j, s.tracker.line.discharge < s.tracker.line.relative s.tracker.angle j →
      s.tracker.line.relative s.tracker.angle j ≤ s.tracker.line.commit → s.phase j = .empty) :
    CommitClear (deliverCrossings s) := by
  refine (arbitrate_calm _).commitClear ?_
  have tracker : (forInstalled crossHead s).tracker = s.tracker := outer_tracker (forInstalled_outer crossHead crossHead_outer s)
  have installed (j : HeadId) : (forInstalled crossHead s).isInstalled j = s.isInstalled j := by
    rw [State.isInstalled, State.isInstalled, tracker]
  have front : s.tracker.front = s.tracker.angle := by
    obtain ⟨below, none⟩ := (trackerLegal_tracking motion).mp legal
    rw [Tracker.front, none, Nat.add_zero, Nat.mod_eq_of_lt below]
  have parts (j : HeadId) := forInstalled_headPart (R := CalmAt j) (f := crossHead) (j := j) (CalmAt.refl j) CalmAt.trans
    (fun _ u ne => crossHead_calmAt ne u) s
  have each (j : HeadId) : ((forInstalled crossHead s).head j).Idle ∧
      (s.tracker.line.Cleared (s.tracker.line.relative s.tracker.angle j) → (forInstalled crossHead s).phase j = .empty) := by
    cases present : s.isInstalled j with
    | false =>
      have calm := (parts j).2 present
      exact ⟨calm.head.idle (idle j), fun _ => calm.head.phase.empty (idle j (.inl (away j present)))⟩
    | true =>
      obtain ⟨u, calm, after⟩ := (parts j).1 present
      have crossed := crossHead_clear (h := j) (s := u) (calm.tracker ▸ zones) (calm.head.idle (idle j))
        (by rw [calm.tracker]; exact fun low high => calm.head.phase.empty (before j low high))
      rw [calm.tracker] at crossed
      exact ⟨after.head.idle crossed.1, fun cleared => after.head.phase.empty (crossed.2 cleared)⟩
  refine ⟨tracker ▸ zones, tracker ▸ headCount, (trackerLegal_congr tracker).mpr legal, fun j => (each j).1, fun j absent => ?_,
    fun _ j cleared => (each j).2 ?_⟩
  · rw [installed] at absent
    exact ((parts j).2 absent).head.out absent (away j absent)
  · rw [tracker, front] at cleared; exact cleared

/-- One count on, every head-relative angle is one count on (R5). -/
theorem relative_angleAfter (l : LineSetup) (a : Nat) (h : HeadId) : l.relative (angleAfter a) h = (l.relative a h + 1) % Config.counts := by
  simp only [LineSetup.relative, angleAfter, Config.counts]
  omega

/-- A crossing-producing step (R5): a head whose angle comes to lie beyond the discharge angle and not beyond the commit angle was at the
discharge angle or beyond it. -/
theorem crossingStep_clear {s : State} (motion : s.tracker.motion = .tracking) (hs : CommitClear s) : CommitClear (crossingStep s) := by
  obtain ⟨below, none⟩ := (trackerLegal_tracking motion).mp hs.legal
  have front : s.tracker.front = s.tracker.angle := by rw [Tracker.front, none, Nat.add_zero, Nat.mod_eq_of_lt below]
  have legal : TrackerLegal { s with tracker := s.tracker.step } :=
    (trackerLegal_tracking (s := { s with tracker := s.tracker.step }) motion).mpr ⟨angleAfter_lt _, none⟩
  refine deliverCrossings_clear motion hs.zones hs.headCount legal hs.idle hs.away fun j low high => ?_
  have clear := hs.clear (by rw [motion]; exact nofun) j
  rw [front] at clear
  have on : (s.tracker.line.relative s.tracker.angle j + 1) % 7680 = s.tracker.line.relative s.tracker.step.angle j :=
    (relative_angleAfter s.tracker.line s.tracker.angle j).symm
  have low' : s.tracker.line.discharge < s.tracker.line.relative s.tracker.step.angle j := low
  have high' : s.tracker.line.relative s.tracker.step.angle j ≤ s.tracker.line.commit := high
  rw [← on] at low' high'
  have lt : s.tracker.line.relative s.tracker.angle j < 7680 := Nat.mod_lt _ (by decide)
  refine clear ⟨?_, ?_⟩ <;> omega

theorem not_still_of_tracking {k : Tracker} (motion : k.motion = .tracking) : ¬k.Still := by
  rintro (c | ⟨c, -⟩) <;> rw [motion] at c <;> cases c

theorem CommitClear.findsEmpty_of_tracking {s : State} (hs : CommitClear s) (motion : s.tracker.motion = .tracking) : CommitFindsEmpty s :=
  (commitFindsEmpty_iff s).mpr ⟨hs, fun still => absurd still (not_still_of_tracking motion)⟩

theorem catchUp_clear : ∀ (k : Nat) {s : State}, s.tracker.motion = .tracking → CommitClear s →
    (catchUp k s).tracker.motion = .tracking ∧ CommitClear (catchUp k s)
  | 0, _, motion, hs => ⟨motion, hs⟩
  | k + 1, s, motion, hs => catchUp_clear k (by rw [crossingStep_tracker]; exact motion) (crossingStep_clear motion hs)

/-! ## Encoder events -/

theorem front_payBack {k : Tracker} (owing : 1 ≤ k.backlog) : k.payBack.front = k.front := by
  unfold Tracker.payBack
  split
  · simp only [Tracker.front, angleAfter, Config.counts]; omega
  · simp only [Tracker.front, angleAfter, Config.counts]; omega

theorem front_goBack {k : Tracker} (motion : k.goBack.motion ≠ .unreferenced) : k.goBack.front = k.front := by
  unfold Tracker.goBack at *
  split
  · simp only [Tracker.front, angleBefore, Config.counts]; omega
  next lost => rw [if_neg lost] at motion; exact absurd rfl motion

theorem front_turnBack {k : Tracker} (none : k.backlog = 0) : k.turnBack.front = k.front := by
  simp only [Tracker.turnBack, Tracker.front, angleBefore, Config.counts, none]
  omega

theorem forwardStep_findsEmpty {s : State} (hs : CommitFindsEmpty s) : CommitFindsEmpty (forwardStep s) := by
  obtain ⟨clear, still⟩ := (commitFindsEmpty_iff s).mp hs
  cases m : s.tracker.motion with
  | unreferenced => rw [forwardStep_unreferenced m]; exact hs
  | tracking =>
    rw [forwardStep_tracking m]
    exact (crossingStep_clear m clear).findsEmpty_of_tracking (by rw [crossingStep_tracker]; exact m)
  | backing =>
    obtain ⟨-, owing, -⟩ := (trackerLegal_backing m).mp clear.legal
    have line : s.tracker.payBack.line = s.tracker.line := by unfold Tracker.payBack; split <;> rfl
    have moved := clear.retracked line (payBack_legal m clear.legal) fun _ => ⟨by rw [m]; exact nofun, front_payBack owing⟩
    rw [forwardStep_backing m]
    refine (commitFindsEmpty_iff _).mpr ⟨moved, fun e => still ?_⟩
    have e : s.tracker.payBack.Still := e
    by_cases last : s.tracker.backlog ≤ 1
    · exact absurd e (not_still_of_tracking (by rw [Tracker.payBack, if_pos last]))
    · rw [Tracker.payBack, if_neg last] at e; exact e

/-- An abort of every installed head leaves no fill under way (R7, R15). -/
theorem abortAll_noFill (r : Reason) {s : State} (hs : CommitClear s) (j : HeadId) : ((abortAll r s).phase j).filling = false := by
  refine (arbitrate_calm _).noFill ?_
  cases filling : (s.phase j).filling with
  | false => exact (forInstalled_calm (forceToSnift_calm r) s).noFill filling
  | true =>
    cases installed : s.isInstalled j with
    | false => rw [hs.awayEmpty installed] at filling; cases filling
    | true =>
      have works := (forcedAll_struck (r := r) installed filling).1
      rw [(forcedWorks_vents works).1]; rfl

theorem reverseAbort_findsEmpty {s : State} (hs : CommitClear s) : CommitFindsEmpty (reverseAbort s) := by
  have raised : Calm s (raiseReverse s) := .of_same rfl rfl
  exact (commitFindsEmpty_iff _).mpr ⟨(raised.trans (abortAll_calm .reverse _)).commitClear hs,
    fun _ => abortAll_noFill .reverse (raised.commitClear hs)⟩

theorem reverseStep_findsEmpty {s : State} (hs : CommitFindsEmpty s) : CommitFindsEmpty (reverseStep s) := by
  obtain ⟨clear, still⟩ := (commitFindsEmpty_iff s).mp hs
  cases m : s.tracker.motion with
  | unreferenced => rw [reverseStep_unreferenced m]; exact hs
  | tracking =>
    have none := ((trackerLegal_tracking m).mp clear.legal).2
    have legal : TrackerLegal { s with tracker := s.tracker.turnBack } :=
      (trackerLegal_backing rfl).mpr ⟨angleBefore_lt _, Nat.le_refl 1, (by decide : 1 < Config.counts)⟩
    rw [reverseStep_tracking m]
    exact reverseAbort_findsEmpty (clear.retracked rfl legal fun _ => ⟨by rw [m]; exact nofun, front_turnBack none⟩)
  | backing =>
    have line : s.tracker.goBack.line = s.tracker.line := by unfold Tracker.goBack; split <;> rfl
    have moved := clear.retracked line (goBack_legal m) fun e => ⟨by rw [m]; exact nofun, front_goBack e⟩
    rw [reverseStep_backing m]
    split
    · exact reverseAbort_findsEmpty moved
    next paid => exact (commitFindsEmpty_iff _).mpr ⟨moved, fun _ => still (.inr ⟨m, Bool.eq_false_iff.mpr paid⟩)⟩

/-! ## Index events -/

theorem referencingDischarge_calm (h : HeadId) (s : State) : Calm s (referencingDischarge h s) := by
  unfold referencingDischarge; simp only; split
  · exact dischargeCrossing_calm h s
  · exact .refl s

/-- No head in SNIFT or DONE is left beyond its discharge angle and not beyond its commit angle (R109). -/
theorem referencingDischarge_phase {h : HeadId} {s : State} (low : s.tracker.line.discharge < s.tracker.line.relative 0 h)
    (high : s.tracker.line.relative 0 h ≤ s.tracker.line.commit) (none : (s.phase h).filling = false) :
    (referencingDischarge h s).phase h = .empty := by
  unfold referencingDischarge; simp only; split
  · exact dischargeCrossing_phase h s
  next other =>
    cases phase : s.phase h with
    | empty => rfl
    | snift => exact absurd ⟨.inl phase, low, high⟩ other
    | done => exact absurd ⟨.inr phase, low, high⟩ other
    | _ => rw [phase] at none; cases none

theorem referenceIndex_findsEmpty {s : State} (m : s.tracker.motion = .unreferenced) (hs : CommitFindsEmpty s) :
    CommitFindsEmpty (referenceIndex s) := by
  obtain ⟨clear, still⟩ := (commitFindsEmpty_iff s).mp hs
  let u : State := forInstalled referencingDischarge { s with tracker := s.tracker.reference }
  have calm : Calm { s with tracker := s.tracker.reference } u := forInstalled_calm referencingDischarge_calm _
  have tracker : u.tracker = s.tracker.reference := (calm 0).tracker
  have installed (j : HeadId) : u.isInstalled j = s.isInstalled j := by rw [State.isInstalled, tracker]; rfl
  have motion : u.tracker.motion = .tracking := by rw [tracker]; rfl
  have legal : TrackerLegal u := (trackerLegal_tracking motion).mpr (by rw [tracker]; exact ⟨(by decide : 0 < Config.counts), rfl⟩)
  refine (deliverCrossings_clear motion (by rw [tracker]; exact clear.zones) (by rw [tracker]; exact clear.headCount) legal
    (fun j => (calm j).head.idle (clear.idle j)) (fun j away => (calm j).head.out (installed j ▸ away) (clear.away j (installed j ▸ away)))
    fun j low high => ?_).findsEmpty_of_tracking ?_
  · rw [tracker] at low high
    cases present : s.isInstalled j with
    | false => exact (calm j).head.phase.empty (clear.awayEmpty present)
    | true =>
      obtain ⟨v, before, after⟩ := (forInstalled_headPart (R := CalmAt j) (f := referencingDischarge) (j := j) (CalmAt.refl j) CalmAt.trans
        (fun h w _ => referencingDischarge_calm h w j) { s with tracker := s.tracker.reference }).1 present
      have none : (v.phase j).filling = false :=
        Bool.eq_false_iff.mpr fun filling => by
          have := before.head.phase.filling filling
          rw [show ({ s with tracker := s.tracker.reference } : State).head j = s.head j from rfl] at this
          rw [← State.phase, still (.inl m) j] at this; cases this
      refine after.head.phase.empty (referencingDischarge_phase ?_ ?_ none)
      · rw [before.tracker]; exact low
      · rw [before.tracker]; exact high
  · have : (referenceIndex s).tracker = u.tracker := outer_tracker (deliverCrossings_outer u)
    exact (congrArg Tracker.motion this).trans motion

theorem mismatchedIndex_findsEmpty {s : State} (m : s.tracker.motion = .tracking) (off : s.tracker.angle ≠ 0) (hs : CommitFindsEmpty s) :
    CommitFindsEmpty (mismatchedIndex s) := by
  obtain ⟨clear, -⟩ := (commitFindsEmpty_iff s).mp hs
  obtain ⟨below, none⟩ := (trackerLegal_tracking m).mp clear.legal
  have noted := clear.retracked (k := { s.tracker with lastIndexError := indexError s.tracker.angle }) rfl
    ((trackerLegal_tracking m).mpr ⟨below, none⟩) fun _ => ⟨by rw [m]; exact nofun, rfl⟩
  let u : State := { s with tracker := { s.tracker with lastIndexError := indexError s.tracker.angle } }
  let v : State := angleAbort (mismatch s.tracker.angle) (raiseAngleFault u)
  have calm : Calm u v := by
    have raised : Calm u (raiseAngleFault u) := .of_same rfl rfl
    refine raised.trans ?_
    simp only [v, angleAbort]
    split
    · exact abortAll_calm .angle _
    · exact .refl _
  have aborted : CommitClear v := calm.commitClear noted
  have tracker : v.tracker = u.tracker := (calm 0).tracker
  have motion : v.tracker.motion = .tracking := by rw [tracker]; exact m
  unfold mismatchedIndex; simp only; split
  next extra =>
    have resync : v.tracker.resync.front = v.tracker.front := by
      have angle : v.tracker.angle = s.tracker.angle := by rw [tracker]
      have backlog : v.tracker.backlog = 0 := by rw [tracker]; exact none
      simp only [Tracker.resync, Tracker.front, angle, backlog, mismatch, extra, if_true, Nat.zero_add, Nat.add_zero]
    have legal : TrackerLegal { v with tracker := v.tracker.resync } := by
      refine (trackerLegal_backing rfl).mpr ?_
      have angle : v.tracker.angle = s.tracker.angle := by rw [tracker]
      simp only [Tracker.resync, angle, mismatch, extra, if_true]
      exact ⟨by decide, by omega, below⟩
    refine (commitFindsEmpty_iff _).mpr ⟨aborted.retracked rfl legal fun _ => ⟨by rw [motion]; exact nofun, resync⟩, ?_⟩
    rintro (c | ⟨-, c⟩) <;> cases c
  next =>
    obtain ⟨tracking, caughtUp⟩ := catchUp_clear (mismatch s.tracker.angle) motion aborted
    exact caughtUp.findsEmpty_of_tracking tracking

theorem indexEvent_findsEmpty {s : State} (hs : CommitFindsEmpty s) : CommitFindsEmpty (indexEvent s) := by
  cases m : s.tracker.motion with
  | unreferenced => rw [indexEvent_unreferenced m]; exact referenceIndex_findsEmpty m hs
  | tracking =>
    by_cases zero : s.tracker.angle = 0
    · rw [indexEvent_confirmed m zero]; exact hs
    · rw [indexEvent_mismatched m zero]; exact mismatchedIndex_findsEmpty m zero hs
  | backing => rw [indexEvent_backing m]; exact hs

/-! ## SET LINE, power-on -/

/-- Where every head is OUT and in phase EMPTY, nothing is asked but of line setup and tracker. -/
theorem commitFindsEmpty_of_out {s : State} (zones : ZonesInOrder s.tracker.line) (headCount : s.tracker.line.headCount ∈ headCounts)
    (legal : TrackerLegal s) (out : ∀ j, (s.head j).record.service = .out) (empty : ∀ j, s.phase j = .empty) : CommitFindsEmpty s :=
  (commitFindsEmpty_iff s).mpr ⟨⟨zones, headCount, legal, fun j _ => empty j, fun j _ => out j, fun _ j _ => empty j⟩,
    fun _ j => by rw [empty]; rfl⟩

/-- An accepted line setup has its zones in order and one of the nine head counts (R3). -/
theorem lineSetupOf_legal {f : LineFields} (good : lineFirstBad f = none) :
    ZonesInOrder (lineSetupOf f) ∧ (lineSetupOf f).headCount ∈ headCounts := by
  have test (c : Nat × Bool) (mem : c ∈ lineChecks f) : lineFieldOk f c.1 :=
    (lineChecks_test f c mem).mp (firstBad_none ((lineFirstBad_eq f).symm.trans good) c mem)
  have field (i : Nat) (b : Bool) (mem : (i, b) ∈ lineChecks f) : lineFieldOk f i := test (i, b) mem
  refine ⟨⟨(field 3 _ (by simp [lineChecks]; rfl)).2, (field 4 _ (by simp [lineChecks]; rfl)).2, (field 5 _ (by simp [lineChecks]; rfl)).2,
    (field 6 _ (by simp [lineChecks]; rfl)).2, (field 7 _ (by simp [lineChecks]; rfl)).2, (field 8 _ (by simp [lineChecks]; rfl)).2,
    (field 8 _ (by simp [lineChecks]; rfl)).1⟩, field 1 _ (by simp [lineChecks]; rfl)⟩

theorem applyLine_findsEmpty {l : LineSetup} {s : State} (installedOut : ∀ j, s.isInstalled j = true → (s.head j).record.service = .out)
    (zones : ZonesInOrder l) (headCount : l.headCount ∈ headCounts) (hs : CommitFindsEmpty s) : CommitFindsEmpty (applyLine l s) := by
  obtain ⟨clear, -⟩ := (commitFindsEmpty_iff s).mp hs
  have out (j : HeadId) : (s.head j).record.service = .out := by
    cases installed : s.isInstalled j with
    | true => exact installedOut j installed
    | false => exact clear.away j installed
  have tracker := relined_tracker l s
  rw [applyLine_eq]
  refine (arbitrate_calm _).commitFindsEmpty (commitFindsEmpty_of_out ?_ ?_ ?_ (fun j => ?_) fun j => ?_)
  · rw [tracker]; exact zones
  · rw [tracker]; exact headCount
  · rw [TrackerLegal, tracker]; exact clear.legal
  · rw [head_relined]; split
    · rfl
    · exact out j
  · rw [State.phase, head_relined]; split
    · exact clear.idle j (.inl (out j))
    · exact clear.idle j (.inl (out j))

theorem serve_findsEmpty (r : Request) {s : State} (hs : CommitFindsEmpty s) : CommitFindsEmpty (serve r s).1 := by
  by_cases notLine : ∀ f, r ≠ .setLine f
  · exact (serve_calm notLine s).commitFindsEmpty hs
  · obtain ⟨f, rfl⟩ : ∃ f, r = .setLine f := by simpa using notLine
    simp only [serve, serveSetLine]
    split
    next out =>
      split
      · exact hs
      next good =>
        obtain ⟨zones, headCount⟩ := lineSetupOf_legal good
        exact applyLine_findsEmpty (installed_all_out.mp out) zones headCount hs
    next => exact hs

theorem execPowerOn_findsEmpty {t : Time} {s u : State} (e : execPowerOn t s = .next u) : CommitFindsEmpty u := by
  cases e
  have head (j : HeadId) : (s.heads.map fun x => Head.powerOn x.presence x.pressureEqual)[j.val] =
      Head.powerOn (s.head j).presence (s.head j).pressureEqual := Vector.getElem_map (xs := s.heads) _ j.isLt
  obtain ⟨zones, headCount, -⟩ := commitFindsEmpty_reset
  refine commitFindsEmpty_of_out zones headCount ((trackerLegal_unreferenced rfl).mpr ⟨rfl, rfl⟩) (fun j => ?_) fun j => ?_
  · exact congrArg (fun x : Head => x.record.service) (head j)
  · exact congrArg (fun x : Head => x.seq.phase) (head j)

/-! ## Link, commands -/

theorem serveNext_findsEmpty {s : State} (hs : CommitFindsEmpty s) : CommitFindsEmpty (serveNext s) := by
  have framed (f : Frame) : CommitFindsEmpty (serveFrame f s) := by
    unfold serveFrame replied
    split
    · exact (Calm.of_same rfl rfl).commitFindsEmpty hs
    next r _ => exact (Calm.of_same (s := (serve r s).1) rfl rfl).commitFindsEmpty (serve_findsEmpty r hs)
  unfold serveNext
  split
  · exact hs
  next f _ _ => exact (Calm.of_same (s := serveFrame f s) rfl rfl).commitFindsEmpty (framed f)

theorem takeByte_findsEmpty (b : Byte) {s : State} (hs : CommitFindsEmpty s) : CommitFindsEmpty (takeByte b s) := by
  have linked (l : Link) : CommitFindsEmpty { s with link := l } := (Calm.of_same rfl rfl).commitFindsEmpty hs
  unfold takeByte frameArrives
  simp only
  split
  · exact linked _
  · split
    · split
      · exact serveNext_findsEmpty (linked _)
      · exact linked _
    · exact linked _

theorem takeExpiry_calm (n : TimerName) {act : HeadId → State → State} (calm : ∀ h s, Calm s (act h s)) (h : HeadId) (s : State) :
    Calm s (takeExpiry n act h s) := by
  unfold takeExpiry; split
  · exact (stopTimer_calm n h s).trans ((calm h _).trans (arbitrate_calm _))
  · exact .refl s

theorem exec_findsEmpty {c : Instr} {s u : State} (hs : CommitFindsEmpty s) (e : exec c s = .next u) : CommitFindsEmpty u := by
  have now (t : Time) : Calm s (s.advance t) := .of_same rfl rfl
  have at_ (t : Time) : CommitFindsEmpty (s.advance t) := (now t).commitFindsEmpty hs
  have calm {v : State} (t : Time) (c : Calm (s.advance t) v) : CommitFindsEmpty v := c.commitFindsEmpty (at_ t)
  have request (r : Request) (t : Time) (e : exec (requestCommand t r) s = .next u) : CommitFindsEmpty u := by
    rw [exec_requestCommand] at e
    cases e
    exact (Calm.of_same rfl rfl).commitFindsEmpty (serve_findsEmpty r (at_ t))
  have turned (t : Time) (x : Encoder) : CommitFindsEmpty { s.advance t with encoder := x } := calm t (.of_same rfl rfl)
  cases c with
  | powerOn t => exact execPowerOn_findsEmpty e
  | forwardStep t => cases e; exact forwardStep_findsEmpty (turned t _)
  | reverseStep t => cases e; exact reverseStep_findsEmpty (turned t _)
  | directionlessChange t => cases e; exact turned t _
  | indexEvent t => cases e; exact indexEvent_findsEmpty (at_ t)
  | meterPulse t h =>
    cases e
    split
    · exact calm t (meterPulse_calm h _)
    · exact at_ t
  | presenceEdge t h level => cases e; exact calm t (modHead_calm (.of_service rfl (.refl _)))
  | pressureEqualEdge t h level =>
    have leveled : Calm (s.advance t) (modHead h (fun x => { x with pressureEqual := level }) (s.advance t)) :=
      modHead_calm (.of_service rfl (.refl _))
    cases e
    split
    · refine calm t (leveled.trans ?_)
      unfold countedEdge; split
      · exact (equalize_calm h _).trans (arbitrate_calm _)
      · exact equalize_calm h _
    · exact calm t leveled
  | equalizeExpiry t h => cases e; exact calm t (takeExpiry_calm _ (forceToSnift_calm _) h _)
  | startFlowExpiry t h => cases e; exact calm t (takeExpiry_calm _ (forceToSettle_calm _) h _)
  | stallExpiry t h => cases e; exact calm t (takeExpiry_calm _ (forceToSettle_calm _) h _)
  | flowStillExpiry t h => cases e; exact calm t (takeExpiry_calm _ flowStill_calm h _)
  | settleLimitExpiry t h => cases e; exact calm t (takeExpiry_calm _ (equipmentEnding_calm _ _) h _)
  | sniftExpiry t h => cases e; exact calm t (takeExpiry_calm _ sniftDone_calm h _)
  | boostCompletion t i =>
    have completed (g : Grant) : Calm (s.advance t) (completeBoost i g (s.advance t)) :=
      (Calm.of_same (s := s.advance t) (t := putBoosts ((s.advance t).boosts.set i.val none) (s.advance t)) rfl rfl).trans
        (modPilots_calm g.head _ _)
    simp only [exec, execBoostCompletion] at e
    split at e
    · cases e; exact at_ t
    · cases e
      split
      · exact calm t ((completed _).trans (arbitrate_calm _))
      · exact at_ t
  | dwellEnd t h p =>
    simp only [exec, execDwellEnd] at e
    split at e
    · cases e; exact at_ t
    · cases e
      split
      · exact calm t ((modPilots_calm h _ _).trans (arbitrate_calm _))
      · exact at_ t
  | divisionCompletion t =>
    simp only [exec, execDivisionCompletion] at e
    split at e
    · cases e; exact at_ t
    · cases e; exact calm t (completeDivision_calm _ _)
  | byteReceived t b => cases e; exact takeByte_findsEmpty b (at_ t)
  | interbyteGap t =>
    cases e
    split
    · exact calm t (.of_same rfl rfl)
    · exact at_ t
  | answerEnd t =>
    cases e
    split
    · exact serveNext_findsEmpty (calm t (.of_same rfl rfl))
    · exact at_ t
  | malformed t kind body =>
    cases e
    split
    · exact calm t (.of_same rfl rfl)
    · exact at_ t
  | readStatus t => exact request .readStatus t e
  | readHead t head => exact request (.readHead head) t e
  | readRecipe t slot => exact request (.readRecipe slot) t e
  | readTicket t selector number => exact request (.readTicket selector number) t e
  | findTickets t head slot location disposition verdictPresent startAfter =>
    exact request (.findTickets head slot location disposition verdictPresent startAfter) t e
  | setLine t fields => exact request (.setLine fields) t e
  | writeRecipe t slot block => exact request (.writeRecipe slot block) t e
  | eraseRecipe t slot => exact request (.eraseRecipe slot) t e
  | setHead t head service k slot resetLearning => exact request (.setHead head service k slot resetLearning) t e
  | headReset t head => exact request (.headReset head) t e
  | lineReset t => exact request .lineReset t e
  | abortFill t head => exact request (.abortFill head) t e
  | verdict t tag level => exact request (.verdict tag level) t e
  | keep t tag => exact request (.keep tag) t e
  | retire t tag => exact request (.retire tag) t e
  | calibrate t tag w force => exact request (.calibrate tag w force) t e
  | holdLearning t hold => exact request (.holdLearning hold) t e
  | clearAttention t target kinds => exact request (.clearAttention target kinds) t e
  | setMask t kinds => exact request (.setMask kinds) t e

/-- Settles O60: only a seating begins a fill, ahead of the discharge angle (`crossHead_clear`); every other event is `Calm`, and the tracker
brings no head past its discharge angle but by the discharge crossing. -/
theorem commitCrossingsFindEmpty : Obligations.CommitCrossingsFindEmpty := by
  intro s u hs e
  unfold step at e
  split at e
  · cases e; exact hs
  next c rest _ => exact exec_findsEmpty (s := { s with pending := rest }) ((Calm.of_same rfl rfl).commitFindsEmpty hs) e

end Sys2Proof.Machine
end

section
/-! SUPPORT. Sequencer timers that are not due (R78), READ HEAD (R58), ABORT FILL (R100), the fields of SET HEAD (R45 to R47). -/

namespace Sys2Proof.Machine

/-! ## Expiries -/

/-- An expiry at a head that is not installed, or whose timer is stopped or not due, changes nothing (R37, R78). -/
theorem takeExpiry_idle {n : TimerName} {act : HeadId → State → State} {h : HeadId} {s : State}
    (idle : s.isInstalled h = false ∨ (s.head h).seq.timers.get n = none ∨
      ∃ due, (s.head h).seq.timers.get n = some due ∧ s.now < due) : takeExpiry n act h s = s := by
  refine if_neg fun ⟨installed, expired⟩ => ?_
  unfold State.expired at expired
  obtain away | stopped | ⟨due, running, early⟩ := idle
  · rw [away] at installed; cases installed
  · rw [stopped] at expired; cases expired
  · rw [running] at expired
    exact absurd (of_decide_eq_true expired) (Nat.not_le.mpr early)

/-- Settles O18, by `takeExpiry_idle` at each of the six timers. -/
theorem voidExpiriesChangeNothing : Obligations.VoidExpiriesChangeNothing := by
  intro t h s idle q s'
  have void (n : TimerName) (act : HeadId → State → State) (e : idle (q.get n)) : takeExpiry n act h (s.advance t) = s.advance t :=
    takeExpiry_idle e
  exact ⟨fun e => congrArg _ (void .equalize _ e), fun e => congrArg _ (void .startFlow _ e), fun e => congrArg _ (void .stall _ e),
    fun e => congrArg _ (void .flowStill _ e), fun e => congrArg _ (void .settleLimit _ e), fun e => congrArg _ (void .snift _ e)⟩

/-! ## READ HEAD, ABORT FILL -/

/-- Settles O35, by the two outcomes of finding the head. -/
theorem readHeadClearsCalDone : Obligations.ReadHeadClearsCalDone := by
  intro t head s
  have same : (s.advance t).installedHead head.toNat = s.installedHead head.toNat := rfl
  refine ⟨fun none => ?_, fun h found => ?_⟩
  · simp only [exec, execReadHead, serveReadHead, same, none]; rfl
  · simp only [exec, execReadHead, serveReadHead, same, found]; rfl

/-- The ALL of ABORT FILL is no head number (R100). -/
theorem installedHead_all (s : State) : s.installedHead (0xFF#8 : Byte).toNat = none := by
  unfold State.installedHead
  exact dif_neg (by decide)

/-- Settles O42: ALL by `forcedWhere_forInstalled`, one head by `forceToSnift_forced` and `forceToSnift_other`. -/
theorem abortFillForces : Obligations.AbortFillForces := by
  intro t head s s'
  have same : (s.advance t).installedHead head.toNat = s.installedHead head.toNat := rfl
  refine ⟨fun all => ?_, fun one none => ?_, fun h found => ?_⟩
  · have forced := forcedWhere_forInstalled (r := .aborted) (by decide) (s.advance t)
    have all : head = 0xFF#8 := all
    refine ⟨_, ?_, forced.globals, forced.allForced⟩
    simp only [exec, execAbortFill, serveAbortFill, if_pos all, abortAll_eq]; rfl
  · have one : head ≠ 0xFF#8 := one
    simp only [exec, execAbortFill, serveAbortFill, if_neg one, same, none]; rfl
  · have one : head ≠ 0xFF#8 := fun all => by rw [all, installedHead_all] at found; cases found
    have served : exec (.abortFill t head) s = .next (answered 0x0C .done 0 [] (arbitrate (forceToSnift .aborted h s'))) := by
      simp only [exec, execAbortFill, serveAbortFill, if_neg one, same, found]; rfl
    refine ⟨fun filling => ⟨_, served, forceToSnift_forced (s := s') filling⟩, fun other => ?_⟩
    rw [served, forceToSnift_other (s := s') other]

/-! ## The fields of SET HEAD -/

section Fields
variable {h : HeadId} {s : State}

/-- A head's record changes and nothing else. -/
theorem modRecord_eq_setHead (f : HeadRecord → HeadRecord) :
    modRecord h f s = setHead h { s.head h with record := f (s.head h).record } s := rfl

theorem applyK_some_out (out : (s.head h).record.service = .out) (k : Nat) : applyK (some k) h s = takeK k h s := if_pos out

theorem applyK_some_staged (staged : (s.head h).record.service ≠ .out) (k : Nat) :
    applyK (some k) h s = modRecord h (fun r => { r with stagedK := some k }) s := if_neg staged

theorem applySlot_out {f : SlotField} (changes : f ≠ .noChange) (out : (s.head h).record.service = .out) :
    applySlot f h s = writeSlot (f.applied none) h s := by rw [applySlot, if_neg changes, if_pos out]

theorem applySlot_staged {f : SlotField} (changes : f ≠ .noChange) (staged : (s.head h).record.service ≠ .out) :
    applySlot f h s = modRecord h (fun r => { r with pendingSlot := f.applied none }) s := by
  rw [applySlot, if_neg changes, if_neg staged]

theorem applyReset_out (out : (s.head h).record.service = .out) :
    applyReset true h s = modRecord h (resetLearning (s.usedRevision h)) s := by rw [applyReset, if_neg (by decide), if_pos out]

theorem applyReset_staged (staged : (s.head h).record.service ≠ .out) :
    applyReset true h s = modRecord h (fun r => { r with resetStaged := true }) s := by rw [applyReset, if_neg (by decide), if_neg staged]

theorem bringIn_out (out : (s.head h).record.service = .out) : bringIn h s = becomeJoining h s := by simp only [bringIn, out]

theorem bringIn_leaving (leaving : (s.head h).record.service = .leaving) :
    bringIn h s = modRecord h (fun r => { r with service := .inn }) s := by simp only [bringIn, leaving]

theorem bringIn_member (member : (s.head h).record.service = .joining ∨ (s.head h).record.service = .inn) : bringIn h s = s := by
  obtain service | service := member
  · simp only [bringIn, service]
  · simp only [bringIn, service]

theorem takeOut_full (inn : (s.head h).record.service = .inn) (full : s.phase h ≠ .empty) :
    takeOut h s = modRecord h (fun r => { r with service := .leaving }) s := by simp only [takeOut, inn, full, if_false]

theorem takeOut_gone (gone : (s.head h).record.service = .out ∨ (s.head h).record.service = .leaving) : takeOut h s = s := by
  obtain service | service := gone
  · simp only [takeOut, service]
  · simp only [takeOut, service]

end Fields

/-- Settles O39, field by field. -/
theorem setHeadFieldsApplied : Obligations.SetHeadFieldsApplied := by
  intro h s x r put start
  refine ⟨fun k out => (applyK_some_out out k).trans (takeK_eq k h s), fun k staged => applyK_some_staged staged k, fun n out => ?_,
    fun out => ?_, fun n staged => applySlot_staged (f := .slot n) nofun staged, fun out => ?_, fun staged => applyReset_staged staged,
    ⟨rfl, rfl, rfl, rfl⟩, bringIn_out, bringIn_member, bringIn_leaving, takeOut_goes, takeOut_full, takeOut_gone⟩
  · rw [applySlot_out (f := .slot n) nofun out, writeSlot, modRecord_eq_setHead, resetLearning_eq]; rfl
  · rw [applySlot_out (f := .noSlot) nofun out, writeSlot, modRecord_eq_setHead, resetLearning_eq]; rfl
  · rw [applyReset_out out, modRecord_eq_setHead, resetLearning_eq]

end Sys2Proof.Machine
end

section
/-! SUPPORT. SET HEAD judged as a whole (R44, R197): the codes of its fields, and what each of its five checks refuses. -/

namespace Sys2Proof.Machine

/-! ## The codes of the fields (R197) -/

/-- The service field's byte stands for the change of service. -/
def ServiceField.Named (b : Byte) (sv : ServiceField) : Prop := b = 0 ∧ sv = .noChange ∨ b = 1 ∧ sv = .goIn ∨ b = 2 ∧ sv = .goOut

/-- The slot field's byte stands for the change of slot. -/
def SlotField.Named (b : Byte) (sl : SlotField) : Prop :=
  b = 0xFF ∧ sl = .noChange ∨ b = 0x80 ∧ sl = .noSlot ∨ ∃ n : SlotId, b.toNat = n.val ∧ sl = .slot n

theorem serviceFieldOf_none {b : Byte} (high : 2 < b.toNat) : serviceFieldOf b = none := by
  rw [serviceFieldOf, if_neg (by bv_omega), if_neg (by bv_omega), if_neg (by bv_omega)]

theorem serviceFieldOf_some {b : Byte} (low : b.toNat ≤ 2) : ∃ sv, serviceFieldOf b = some sv ∧ sv.Named b := by
  obtain e | e | e : b = 0#8 ∨ b = 1#8 ∨ b = 2#8 := by bv_omega
  · exact ⟨.noChange, by rw [e]; rfl, .inl ⟨e, rfl⟩⟩
  · exact ⟨.goIn, by rw [e]; rfl, .inr (.inl ⟨e, rfl⟩)⟩
  · exact ⟨.goOut, by rw [e]; rfl, .inr (.inr ⟨e, rfl⟩)⟩

theorem ServiceField.Named.goIn_iff {b : Byte} {sv : ServiceField} (named : sv.Named b) : sv = .goIn ↔ b = 1 := by
  obtain ⟨rfl, rfl⟩ | ⟨rfl, rfl⟩ | ⟨rfl, rfl⟩ := named <;> decide

theorem kFieldOf_none {k : Half} (bad : ¬(k.toNat = 0 ∨ 256 ≤ k.toNat)) : kFieldOf k = none := by
  have range : kInRange k.toNat = false := decide_eq_false fun ⟨low, _⟩ => bad (.inr low)
  have zero : k ≠ 0#16 := fun e => bad (.inl (by rw [e]; rfl))
  rw [kFieldOf, if_neg zero, range]; rfl

theorem kFieldOf_some {k : Half} (good : k.toNat = 0 ∨ 256 ≤ k.toNat) : kFieldOf k = some (if k = 0 then none else some k.toNat) := by
  by_cases zero : k = 0#16
  · rw [kFieldOf, if_pos zero]; exact congrArg some (if_pos zero).symm
  · have range : kInRange k.toNat = true := decide_eq_true (by bv_omega)
    rw [kFieldOf, if_neg zero, if_pos range]; exact congrArg some (if_neg zero).symm

theorem slotFieldOf_none {b : Byte} (bad : ¬(b.toNat < 8 ∨ b = 0x80 ∨ b = 0xFF)) : slotFieldOf b = none := by
  obtain ⟨high, notNone, notSame⟩ : ¬b.toNat < 8 ∧ ¬b = 0x80#8 ∧ ¬b = 0xFF#8 := by simpa [not_or] using bad
  rw [slotFieldOf, if_neg notSame, if_neg notNone, slotOf_none (Nat.not_lt.mp high)]; rfl

theorem slotFieldOf_some {b : Byte} (good : b.toNat < 8 ∨ b = 0x80 ∨ b = 0xFF) : ∃ sl, slotFieldOf b = some sl ∧ sl.Named b := by
  obtain low | e | e := good
  · refine ⟨.slot ⟨b.toNat, low⟩, ?_, .inr (.inr ⟨_, rfl, rfl⟩)⟩
    rw [slotFieldOf, if_neg (by bv_omega), if_neg (by bv_omega), slotOf_some (n := ⟨b.toNat, low⟩) rfl]; rfl
  · exact ⟨.noSlot, by rw [e]; rfl, .inr (.inl ⟨e, rfl⟩)⟩
  · exact ⟨.noChange, by rw [e]; rfl, .inl ⟨e, rfl⟩⟩

theorem SlotField.Named.noSlot_iff {b : Byte} {sl : SlotField} (named : sl.Named b) : sl = .noSlot ↔ b = 0x80 := by
  obtain ⟨rfl, rfl⟩ | ⟨rfl, rfl⟩ | ⟨n, e, rfl⟩ := named
  · decide
  · decide
  · refine ⟨nofun, fun e' => ?_⟩
    have := n.isLt
    rw [e'] at e; simp at e; omega

theorem SlotField.Named.slot_iff {b : Byte} {sl : SlotField} (named : sl.Named b) (n : SlotId) : sl = .slot n ↔ b.toNat = n.val := by
  obtain ⟨rfl, rfl⟩ | ⟨rfl, rfl⟩ | ⟨m, e, rfl⟩ := named
  · have := n.isLt
    refine ⟨nofun, fun e => ?_⟩
    simp at e; omega
  · have := n.isLt
    refine ⟨nofun, fun e => ?_⟩
    simp at e; omega
  · rw [e, Fin.val_inj, SlotField.slot.injEq]

/-- The slot an OUT head will hold, read off the slot field's byte (R44, check 5). -/
theorem SlotField.Named.applied_iff {b : Byte} {sl : SlotField} (named : sl.Named b) (present : Option SlotId) (n : SlotId) :
    sl.applied present = some n ↔ b = 0xFF ∧ present = some n ∨ b.toNat = n.val := by
  rw [← named.slot_iff n]
  obtain ⟨rfl, rfl⟩ | ⟨rfl, rfl⟩ | ⟨m, e, rfl⟩ := named
  · simp [SlotField.applied]
  · simp [SlotField.applied]
  · have : b ≠ 0xFF#8 := fun same => by have := m.isLt; rw [same] at e; simp at e; omega
    simp [SlotField.applied, this]

theorem flagOf_none {b : Byte} (high : 1 < b.toNat) : flagOf b = none := by
  cases e : flagOf b with
  | none => rfl
  | some v => exact absurd ((flagOf_isSome b).mp (by rw [e]; rfl)) (Nat.not_le.mpr high)

theorem flagOf_some {b : Byte} (low : b.toNat ≤ 1) : flagOf b = some (decide (b = 1)) := by
  obtain e | e : b = 0#8 ∨ b = 1#8 := by bv_omega
  · rw [e]; rfl
  · rw [e]; rfl

/-- Fields that are codes give the change asked for. -/
theorem headFieldsOf_ok {service slot reset : Byte} {k : Half} (serviceOk : service.toNat ≤ 2) (kOk : k.toNat = 0 ∨ 256 ≤ k.toNat)
    (slotOk : slot.toNat < 8 ∨ slot = 0x80 ∨ slot = 0xFF) (resetOk : reset.toNat ≤ 1) :
    ∃ sv sl, sv.Named service ∧ sl.Named slot ∧ headFieldsOf service k slot reset =
      .ok { service := sv, k := if k = 0 then none else some k.toNat, slot := sl, reset := decide (reset = 1) } := by
  obtain ⟨sv, readService, service⟩ := serviceFieldOf_some serviceOk
  obtain ⟨sl, readSlot, slot⟩ := slotFieldOf_some slotOk
  exact ⟨sv, sl, service, slot, by simp only [headFieldsOf, readService, kFieldOf_some kOk, readSlot, flagOf_some resetOk]⟩

/-! ## What the checks refuse (R44) -/

section Checks
variable {f : HeadFields} {h : HeadId} {s : State}

theorem slotEmpty_iff {n : SlotId} : s.slotEmpty n = true ↔ (s.slot n).current = none := by
  cases current : (s.slot n).current with
  | none => simp [State.slotEmpty, Slot.state, current]
  | some rev =>
    simp only [State.slotEmpty, Slot.state, current, Option.isNone_some, Bool.false_eq_true, if_false, decide_eq_true_eq, reduceCtorEq,
      iff_false]
    split <;> decide

/-- Check 3: a head that is not OUT does without no slot and takes no EMPTY one. -/
theorem slotRefusal_some_iff {c : AnswerCode} : slotRefusal f h s = some c ↔ (s.head h).record.service ≠ .out ∧
    (f.slot = .noSlot ∧ c = .notAllowed ∨ ∃ n, f.slot = .slot n ∧ (s.slot n).current = none ∧ c = .slotEmpty) := by
  unfold slotRefusal
  by_cases out : (s.head h).record.service = .out
  · simp [out]
  · cases f.slot with
    | noChange => simp [out]
    | noSlot => simp [out, @eq_comm _ c]
    | slot n =>
      simp only [out, if_false, ← slotEmpty_iff]
      cases empty : s.slotEmpty n <;> simp [out, empty, @eq_comm _ c]

/-- Check 5: an OUT head is brought in only with a slot that is not EMPTY. -/
theorem joinRefusal_some_iff {c : AnswerCode} : joinRefusal f h s = some c ↔ (f.service = .goIn ∧ (s.head h).record.service = .out) ∧
    ((∀ n, f.slot.applied (s.head h).record.slot ≠ some n) ∧ c = .notAllowed ∨
      ∃ n, f.slot.applied (s.head h).record.slot = some n ∧ (s.slot n).current = none ∧ c = .slotEmpty) := by
  unfold joinRefusal
  by_cases joins : f.service = .goIn ∧ (s.head h).record.service = .out
  · rw [if_pos joins]
    cases f.slot.applied (s.head h).record.slot with
    | none => simp [joins, @eq_comm _ c]
    | some n =>
      simp only [← slotEmpty_iff]
      cases empty : s.slotEmpty n <;> simp [joins, empty, @eq_comm _ c]
  · rw [if_neg joins]; simp [joins]

end Checks

/-! ## The answers -/

section Answers
variable {t : Time} {head service : Byte} {k : Half} {slot reset : Byte} {s : State} {h : HeadId}

/-- A byte names an installed head exactly by its number (section 3.1). -/
theorem installedHead_named {n : Nat} (named : n = h.val) (installed : s.isInstalled h = true) : s.installedHead n = some h := by
  subst named
  rw [State.installedHead, dif_pos h.isLt, if_pos (of_decide_eq_true installed)]

theorem installedHead_beyond {n : Nat} (beyond : s.tracker.line.headCount ≤ n) : s.installedHead n = none := by
  unfold State.installedHead
  split
  · exact if_neg (Nat.not_lt.mpr beyond)
  · rfl

theorem exec_setHead_badField (found : s.installedHead head.toNat = some h) {i : Nat} (bad : headFieldsOf service k slot reset = .error i) :
    exec (.setHead t head service k slot reset) s = .next (answered 0x09 .badField (BitVec.ofNat 8 i) [] (s.advance t)) := by
  have same : (s.advance t).installedHead head.toNat = s.installedHead head.toNat := rfl
  simp only [exec, execSetHead, serveSetHead, same, found, bad]; rfl

theorem exec_setHead_refused (found : s.installedHead head.toNat = some h) {f : HeadFields} (ok : headFieldsOf service k slot reset = .ok f)
    {c : AnswerCode} (refused : setHeadRefusal f h s = some c) :
    exec (.setHead t head service k slot reset) s = .next (answered 0x09 c 0 [] (s.advance t)) := by
  have same : (s.advance t).installedHead head.toNat = s.installedHead head.toNat := rfl
  have refused' : setHeadRefusal f h (s.advance t) = some c := refused
  simp only [exec, execSetHead, serveSetHead, same, found, ok, refused']; rfl

theorem exec_setHead_done (found : s.installedHead head.toNat = some h) {f : HeadFields} (ok : headFieldsOf service k slot reset = .ok f)
    (passed : setHeadRefusal f h s = none) :
    exec (.setHead t head service k slot reset) s = .next (answered 0x09 .done 0 [] (applyHeadFields f h (s.advance t))) := by
  have same : (s.advance t).installedHead head.toNat = s.installedHead head.toNat := rfl
  have passed' : setHeadRefusal f h (s.advance t) = none := passed
  simp only [exec, execSetHead, serveSetHead, same, found, ok, passed']; rfl

end Answers

/-- Settles O38: the codes by `headFieldsOf_ok`, the refusals check by check. -/
theorem setHeadJudgedAsWhole : Obligations.SetHeadJudgedAsWhole := by
  intro t head service k slot reset s s' refused
  refine ⟨fun beyond => ?_, fun h named installed => ?_⟩
  · have none : (s.advance t).installedHead head.toNat = none := installedHead_beyond beyond
    simp only [refused, exec, execSetHead, serveSetHead, none]; rfl
  intro r out kOk slotOk fieldsOk emptySlot badSlot equipment held badJoin
  have found := installedHead_named named installed
  have passing (ok : fieldsOk) : ∃ sv sl, sv.Named service ∧ sl.Named slot ∧ ∃ f : HeadFields,
      f = { service := sv, k := if k = 0 then none else some k.toNat, slot := sl, reset := decide (reset = 1) } ∧
      headFieldsOf service k slot reset = .ok f ∧ (∀ c, badSlot c ↔ slotRefusal f h s = some c) ∧
      equipmentRefusal f h s = (if equipment then some .notAllowed else none) ∧ (∀ c, badJoin c ↔ joinRefusal f h s = some c) := by
    obtain ⟨serviceOk, kOk, slotOk, resetOk⟩ := ok
    obtain ⟨sv, sl, svNamed, slNamed, read⟩ := headFieldsOf_ok serviceOk kOk slotOk resetOk
    refine ⟨sv, sl, svNamed, slNamed, _, rfl, read, fun c => ?_, ?_, fun c => ?_⟩
    · rw [slotRefusal_some_iff]
      simp only [slNamed.noSlot_iff, slNamed.slot_iff]; rfl
    · simp only [equipmentRefusal, svNamed.goIn_iff]; rfl
    · rw [joinRefusal_some_iff]
      simp only [svNamed.goIn_iff, ne_eq, slNamed.applied_iff, and_assoc]; rfl
  refine ⟨fun bad => ?_, fun serviceOk bad => ?_, fun serviceOk kOk bad => ?_, fun serviceOk kOk slotOk bad => ?_,
    fun c ok bad => ?_, fun ok slotPasses bad => ?_, fun c ok slotPasses calm bad => ?_, fun ok slotPasses calm joins => ?_⟩
  · refine exec_setHead_badField found ?_
    simp only [headFieldsOf, serviceFieldOf_none bad]
  · obtain ⟨sv, readService, -⟩ := serviceFieldOf_some serviceOk
    refine exec_setHead_badField found ?_
    simp only [headFieldsOf, readService, kFieldOf_none bad]
  · obtain ⟨sv, readService, -⟩ := serviceFieldOf_some serviceOk
    refine exec_setHead_badField found ?_
    simp only [headFieldsOf, readService, kFieldOf_some kOk, slotFieldOf_none bad]
  · obtain ⟨sv, readService, -⟩ := serviceFieldOf_some serviceOk
    obtain ⟨sl, readSlot, -⟩ := slotFieldOf_some slotOk
    refine exec_setHead_badField found ?_
    simp only [headFieldsOf, readService, kFieldOf_some kOk, readSlot, flagOf_none bad]
  · obtain ⟨-, -, -, -, f, -, read, slotCheck, -, -⟩ := passing ok
    exact exec_setHead_refused found read (by rw [setHeadRefusal, (slotCheck c).mp bad]; rfl)
  · obtain ⟨-, -, -, -, f, -, read, slotCheck, equipmentCheck, -⟩ := passing ok
    have passes : slotRefusal f h s = none := Option.eq_none_iff_forall_ne_some.mpr fun c e => slotPasses c ((slotCheck c).mpr e)
    exact exec_setHead_refused found read (by rw [setHeadRefusal, passes, equipmentCheck, if_pos bad]; rfl)
  · obtain ⟨-, -, -, -, f, -, read, slotCheck, equipmentCheck, joinCheck⟩ := passing ok
    have passes : slotRefusal f h s = none := Option.eq_none_iff_forall_ne_some.mpr fun c e => slotPasses c ((slotCheck c).mpr e)
    exact exec_setHead_refused found read (by rw [setHeadRefusal, passes, equipmentCheck, if_neg calm, (joinCheck c).mp bad]; rfl)
  · obtain ⟨sv, sl, svNamed, slNamed, f, rfl, read, slotCheck, equipmentCheck, joinCheck⟩ := passing ok
    refine ⟨sv, sl, svNamed, slNamed, exec_setHead_done found read ?_⟩
    have passes := Option.eq_none_iff_forall_ne_some.mpr fun c e => slotPasses c ((slotCheck c).mpr e)
    have joined := Option.eq_none_iff_forall_ne_some.mpr fun c e => joins c ((joinCheck c).mpr e)
    rw [setHeadRefusal, passes, equipmentCheck, if_neg calm, joined]; rfl

end Sys2Proof.Machine
end

section
/-! SUPPORT. The input edges of a head (R80, R84). -/

namespace Sys2Proof.Machine

theorem edgeCounts_iff (s : State) (h : HeadId) (level : Bool) : s.edgeCounts h level = true ↔
    s.isInstalled h = true ∧ level = true ∧ (s.head h).pressureEqual = false ∧ (s.head h).seq.phase = .pressurize ∧
      (s.head h).seq.gasGranted = true ∧ (s.head h).seq.equalized = false := by
  simp [State.edgeCounts, and_assoc]

/-- An equalized head: the equalize timer stopped, and the FILL open queued where the fill crossing is reached (R84). -/
theorem equalize_setHead (h : HeadId) (y : Head) (s : State) : equalize h (setHead h y s) =
    if y.seq.fillReached = true then
      queueOpen .fill h (setHead h { y with seq := { y.seq with equalized := true, timers := { y.seq.timers with equalize := none } } } s)
    else setHead h { y with seq := { y.seq with equalized := true, timers := { y.seq.timers with equalize := none } } } s := by
  simp only [equalize, stopTimer, modSeq, modHead_setHead, head_setHead_self, Timers.put]

theorem countedEdge_setHead_reached {h : HeadId} {y : Head} {s : State} (reached : y.seq.fillReached = true) :
    countedEdge h (setHead h y s) = arbitrate (queueOpen .fill h
      (setHead h { y with seq := { y.seq with equalized := true, timers := { y.seq.timers with equalize := none } } } s)) := by
  rw [countedEdge, head_setHead_self, if_pos reached, equalize_setHead, if_pos reached]

theorem countedEdge_setHead_before {h : HeadId} {y : Head} {s : State} (before : y.seq.fillReached = false) :
    countedEdge h (setHead h y s) =
      setHead h { y with seq := { y.seq with equalized := true, timers := { y.seq.timers with equalize := none } } } s := by
  rw [countedEdge, head_setHead_self, if_neg (by rw [before]; decide), equalize_setHead, if_neg (by rw [before]; decide)]

/-- Settles O13, by `edgeCounts_iff` and the two outcomes of a counted edge. -/
theorem inputEdgesTaken : Obligations.InputEdgesTaken := by
  intro t h level s s' x counts u
  have counted : s.edgeCounts h level = true ↔ counts := edgeCounts_iff s h level
  have taken (c : counts) : exec (.pressureEqualEdge t h level) s =
      .next (countedEdge h (setHead h { x with pressureEqual := true } s')) := by
    have ⟨_, rising, _⟩ := c
    simp only [exec, execPressureEqualEdge, if_pos (counted.mpr c)]
    rw [rising]; rfl
  refine ⟨rfl, fun other => ?_, fun c before => ?_, fun c reached => ?_⟩
  · simp only [exec, execPressureEqualEdge, if_neg (mt counted.mp other)]; rfl
  · rw [taken c, countedEdge_setHead_before (y := { x with pressureEqual := true }) before]
  · rw [taken c, countedEdge_setHead_reached (y := { x with pressureEqual := true }) reached]; rfl

end Sys2Proof.Machine
end

section
/-! SUPPORT. A forced ending that raises EQUIPMENT first (R99), and the pulses that are not counted (R60 to R62). -/

namespace Sys2Proof.Machine

/-! ## EQUIPMENT raised at a head that holds a container -/

section Raised
variable {h : HeadId} {s u : State}

/-- EQUIPMENT changes of the rest of the machine the line alone (R43). -/
theorem raiseEquipment_othersStand (d : EquipmentDetail) (h : HeadId) (s : State) : OthersStand h s (raiseEquipment d h s) :=
  ⟨by simp, by simp, plant_globals (by simp [raiseEquipment]), by simp⟩

theorem raiseEquipment_plant (d : EquipmentDetail) (h : HeadId) (s : State) : (raiseEquipment d h s).plant = s.plant := by
  simp [raiseEquipment]

theorem raiseEquipment_causes (d : EquipmentDetail) (h : HeadId) (s : State) :
    ((raiseEquipment d h s).head h).causes = { (s.head h).causes with equipment := some d } := by
  rw [raiseEquipment, takeOut_causes, head_changeCauses]

theorem raiseEquipment_faults (d : EquipmentDetail) (h : HeadId) (s : State) :
    ((raiseEquipment d h s).head h).record.faultCount = (s.head h).record.faultCount := by
  rw [raiseEquipment, faults_at (takeOut_faults h _), head_changeCauses]

/-- A head that holds a container becomes LEAVING if it is IN, and no member comes or goes (R42, R43). -/
theorem raiseEquipment_holding {d : EquipmentDetail} (member : (s.head h).record.service ≠ .joining) (holds : s.phase h ≠ .empty) :
    ((raiseEquipment d h s).head h).record = { (s.head h).record with service := leavingIfIn (s.head h).record.service } ∧
    MembersStand h s (raiseEquipment d h s) := by
  have raised : takeOut h (changeCauses h (fun c => { c with equipment := some d }) s) = _ :=
    takeOut_holding (by rw [head_changeCauses]; exact member) (by rw [State.phase, head_changeCauses]; exact holds)
  rw [raiseEquipment, raised]
  refine ⟨?_, (changeCauses_membersStand h _ s).trans (modRecord_membersStand h _ _)⟩
  rw [modRecord, head_modHead_self, head_changeCauses]

theorem leavingIfIn_eq_out {sv : Service} : leavingIfIn sv = .out ↔ sv = .out := by cases sv <;> decide
theorem leavingIfIn_eq_joining {sv : Service} : leavingIfIn sv = .joining ↔ sv = .joining := by cases sv <;> decide

/-- A head that becomes LEAVING uses the revision it used, and learns into the values it learnt into. -/
theorem learnedPending_leaving (tk : Ticket)
    (record : (u.head h).record = { (s.head h).record with service := leavingIfIn (s.head h).record.service })
    (slots : u.slots = s.slots) (hold : u.learningHold = s.learningHold) : u.learnedPending h tk = s.learnedPending h tk := by
  have used : u.usedRevision h = s.usedRevision h := by
    simp only [State.usedRevision, record, State.slot, slots, ne_eq, leavingIfIn_eq_out]
  simp only [State.learnedPending, used, record, hold]

end Raised

/-- A forced ending with EQUIPMENT (R99): the head is forced straight to SNIFT with the cause pending and, if IN, LEAVING. -/
theorem equipmentEnding_forced (d : EquipmentDetail) (r : Reason) {h : HeadId} {s : State} (filling : (s.phase h).filling = true) :
    ForcedToSnift r h { (s.head h).causes with equipment := some d } (leavingIfIn (s.head h).record.service) s
      (equipmentEnding d r h s) := by
  intro tk held
  have raised := plant_works (raiseEquipment_plant d h s) h
  have others := raiseEquipment_othersStand d h s
  have phase : (raiseEquipment d h s).phase h = s.phase h := phase_of_works raised
  have step : (raiseEquipment d h s).tracker.stepCount = s.tracker.stepCount := congrArg Tracker.stepCount (outer_tracker others.outer)
  obtain ⟨⟨ticket, entry, causes, record, lastCounted, presence, pressureEqual, ending, -⟩, seq, pilots⟩ :=
    forceToSnift_forced (r := r) (by rw [phase]; exact filling) tk ((works_ticket raised).trans held)
  rw [raiseEquipment_faults, raiseEquipment_causes] at causes
  rw [raiseEquipment_faults] at record
  rw [works_seq raised] at seq
  refine ⟨⟨phase ▸ ticket, step ▸ entry, phase ▸ causes, fun member => ?_, lastCounted.trans (works_lastCounted raised),
    presence.trans (works_presence raised), pressureEqual.trans (works_pressureEqual raised), others.trans ending,
    fun _ => equipmentEnding_judged d r h s⟩, seq, fun p => (pilots p).trans ?_⟩
  · obtain ⟨leaving, members⟩ := raiseEquipment_holding (d := d) member (Phase.ne_empty_of_filling filling)
    have stays : leavingIfIn (s.head h).record.service ≠ .joining := mt leavingIfIn_eq_joining.mp member
    obtain ⟨after, ended⟩ := record (by rw [leaving]; exact stays)
    rw [learnedPending_leaving _ leaving members.2 (outer_hold others.outer), leaving, phase] at after
    exact ⟨after, members.trans ended⟩
  · exact releasedPilot_congr (by rw [works_pilots raised]) (outer_now others.outer)

/-! ## Pulses that are not counted -/

theorem meterPulse_stray {h : HeadId} {s : State} (other : (s.phase h).counting = false) : meterPulse h s = strayPulse h s :=
  if_neg (by rw [other]; decide)

theorem meterPulse_glitch {h : HeadId} {s : State} {tk : Ticket} {last : Time} (counting : (s.phase h).counting = true)
    (held : (s.head h).ticket = some tk) (counted : (s.head h).lastCounted = some last) (soon : s.now - last < 40) :
    meterPulse h s = glitchPulse tk h s := by
  have glitch : isGlitch (s.head h).lastCounted s.now = true := by rw [counted]; exact decide_eq_true soon
  simp only [meterPulse, counting, if_true, held, glitch]

theorem countGlitch_eq {h : HeadId} {s : State} {tk : Ticket} (held : (s.head h).ticket = some tk) :
    countGlitch h s = modHead h (fun x => { x with ticket := some { tk with glitches := tk.glitches + 1 } }) s := by
  have ticket : (s.head h).ticket.map (fun t => { t with glitches := t.glitches + 1 }) = some { tk with glitches := tk.glitches + 1 } := by
    rw [held]; rfl
  exact congrArg (fun o => setHead h { s.head h with ticket := o } s) ticket

/-- Settles O9: stray pulses and glitches by the cases of `meterPulse`, the sixteenth glitch by `equipmentEnding_forced`. -/
theorem strayAndGlitchPulses : Obligations.StrayAndGlitchPulses := by
  refine ⟨fun t h s => ⟨fun installed idle => ?_, fun away => ?_⟩, fun t h s tk last installed counts held counted soon => ?_⟩
  · have other : ((s.advance t).phase h).counting = false := by
      have all : ∀ p ∈ [Phase.empty, .seated, .pressurize, .snift, .done], p.counting = false := by decide
      exact all _ idle
    have here : (s.advance t).isInstalled h = true := installed
    simp only [exec, execMeterPulse, here, if_true, meterPulse_stray other]; rfl
  · have gone : (s.advance t).isInstalled h = false := away
    simp only [exec, execMeterPulse, gone, Bool.false_eq_true, if_false]; rfl
  intro s' tk' s1
  have counting : (s'.phase h).counting = true ∧ (s'.phase h).filling = true := by
    have all : ∀ p ∈ [Phase.fast, .slow, .settle, .topup], p.counting = true ∧ p.filling = true := by decide
    exact all _ counts
  have pulse : exec (.meterPulse t h) s = .next (glitchPulse tk h s') := by
    have here : (s.advance t).isInstalled h = true := installed
    have glitch : meterPulse h (s.advance t) = glitchPulse tk h s' := meterPulse_glitch counting.1 held counted soon
    simp only [exec, execMeterPulse, here, if_true, glitch]
  have noted : countGlitch h s' = s1 := countGlitch_eq held
  have head : s1.head h = { s'.head h with ticket := some tk' } := head_modHead_self h _ s'
  refine ⟨fun early => ?_, fun sixteenth => ⟨equipmentEnding .meterNoise .meterNoise h s1, ?_, ?_⟩⟩
  · rw [pulse, glitchPulse, if_neg early, noted]
  · rw [pulse, glitchPulse, if_pos sixteenth, noted]
  · have forced := equipmentEnding_forced .meterNoise .meterNoise (h := h) (s := s1) (by rw [State.phase, head]; exact counting.2)
    rw [head] at forced
    exact forced

end Sys2Proof.Machine
end

section
/-! SUPPORT. Discharge (R108, R116 to R119): the hand-over of a ticket, and a ticket cut short. -/

namespace Sys2Proof.Machine

theorem papers_transit {s t : State} (e : t.papers = s.papers) : t.transit = s.transit := congrArg Papers.transit e
theorem papers_lines {s t : State} (e : t.papers = s.papers) : t.lines = s.lines := congrArg Papers.lines e

/-! ## Hand-over -/

/-- The transit list with room for one more ticket (R117). -/
def State.transitRoom (s : State) : List Ticket := if s.transit.length < 64 then s.transit else s.transit.eraseP fun k => !k.kept

/-- The global flags after room has been made in the transit list (R117). -/
def State.roomGlobals (s : State) : Globals := if s.transit.length < 64 then s.globals else { s.globals with verdictLoss := true }

theorem displaceIfFull_room {s : State} (room : s.transit.length < 64) : displaceIfFull s = s := if_pos room

theorem displaceIfFull_eq (s : State) : displaceIfFull s = { s with
    transit := s.transitRoom, globals := s.roomGlobals, attentionLine := (displaceIfFull s).attentionLine } := by
  by_cases room : s.transit.length < 64
  · rw [displaceIfFull_room room, State.transitRoom, State.roomGlobals, if_pos room, if_pos room]
  · have full : ¬s.transit.length < Config.transitMax := room
    rw [displaceIfFull, if_neg full, State.transitRoom, State.roomGlobals, if_neg room, if_neg room]; rfl

/-- A handed ticket joins the tail of the transit list and is reported on the discharge lines (R108, R116, R118). -/
theorem handOver_eq {h : HeadId} {s : State} {tk : Ticket} (held : (s.head h).ticket = some tk) : handOver h s =
    { setHead h { s.head h with
        ticket := none
        seq := { (s.head h).seq with phase := .empty, timers := (s.head h).seq.timers.leaving (s.phase h) .empty } } s with
      transit := s.transitRoom ++ [{ tk with kept := false, verdict := none }]
      lines := { container := true, reject := decide (tk.disposition = .reject) }
      globals := s.roomGlobals, attentionLine := (displaceIfFull s).attentionLine } := by
  simp only [handOver, held, moveToTransit]
  rw [displaceIfFull_eq s]
  have twice (x : Head) (u : State) : enterPhase .empty h (setHead h x u) =
      setHead h { x with seq := { x.seq with phase := .empty, timers := x.seq.timers.leaving x.seq.phase .empty } } u :=
    modHead_setHead h (fun y => { y with seq := { y.seq with phase := .empty, timers := y.seq.timers.leaving y.seq.phase .empty } }) x u
  rw [modHead, twice]; rfl

/-! ## A ticket cut short -/

theorem Timers.leaving_done (q : Timers) : q.leaving .done .empty = q := rfl
theorem Timers.leaving_snift (q : Timers) : (q.put .snift none).leaving .snift .empty = { q with snift := none } := rfl

section Short
variable {h : HeadId} {s : State}

/-- A release withdraws the open that names the pilot if the pilot is off (R171, R172). -/
theorem entryOf_release (p : Pilot) (h : HeadId) (s : State) : (release p h s).entryOf h = s.entryWithout [p] h := by
  cases on : s.energised h p with
  | true =>
    have keeps : s.entryWithout [p] h = s.entryOf h := by
      simp only [State.entryWithout, List.any_cons, List.any_nil, on, Bool.not_true, Bool.and_false, Bool.or_false, Bool.not_false]
      cases s.entryOf h <;> rfl
    simp only [release, on, if_true, keeps]; rfl
  | false =>
    have drops : s.entryWithout [p] h = (s.entryOf h).filter fun e => !e.kind.pilots.contains p := by
      simp [State.entryWithout, on]
    rw [drops]
    simp only [release, on, Bool.false_eq_true, if_false]
    cases entry : s.entryOf h with
    | none => exact entry
    | some e =>
      cases named : e.kind.pilots.contains p with
      | true => simp only [named, if_true]; rw [entryOf_withdraw, if_pos rfl, Option.filter_some, named]; rfl
      | false => simp only [named, Bool.false_eq_true, if_false, entry]; rw [Option.filter_some, named]; rfl

/-- The head before the hand-over of a ticket cut short. -/
theorem head_ventShort (h : HeadId) (s : State) : (ventShort h s).head h = { s.head h with
    seq := { (s.head h).seq with timers := (s.head h).seq.timers.put .snift none }
    pilots := { (s.head h).pilots with snift := s.releasedPilot h .snift }
    causes := { (s.head h).causes with fillFault := some .sniftShort }
    ticket := (s.head h).ticket.map Ticket.cutShort } := by
  simp only [ventShort, raiseFillFault, head_changeCauses, modTicket, stopTimer, modSeq, head_modHead_self, head_release]
  rfl

theorem ventShort_rest (h : HeadId) (s : State) : (ventShort h s).papers = s.papers ∧ (ventShort h s).globals = s.globals ∧
    (ventShort h s).slots = s.slots ∧ (ventShort h s).entryOf h = s.entryWithout [.snift] h := by
  have same : (ventShort h s).papers = s.papers ∧ (ventShort h s).globals = (release .snift h s).globals ∧
      (ventShort h s).slots = (release .snift h s).slots ∧ (ventShort h s).entryOf h = (release .snift h s).entryOf h := by
    simp [ventShort, raiseFillFault, changeCauses, modCauses, modTicket, stopTimer, modSeq, State.entryOf]
  obtain ⟨papers, globals, slots, entry⟩ := same
  exact ⟨papers, globals.trans (release_fillOnly .snift h s).others.globals, slots.trans (release_slots .snift h s),
    entry.trans (entryOf_release .snift h s)⟩

variable {tk : Ticket} (snift : s.phase h = .snift) (held : (s.head h).ticket = some tk)
include snift held

/-- The head and the rest of the machine after the hand-over of a ticket cut short. -/
theorem handedShort_spec : (handedShort h s).head h = { s.head h with
      ticket := none
      seq := { (s.head h).seq with phase := .empty, timers := { (s.head h).seq.timers with snift := none } }
      pilots := { (s.head h).pilots with snift := s.releasedPilot h .snift }
      causes := { (s.head h).causes with fillFault := some .sniftShort } } ∧
    (handedShort h s).transit = s.transitRoom ++ [{ tk.cutShort with kept := false, verdict := none }] ∧
    (handedShort h s).lines = { container := true, reject := true } ∧ (handedShort h s).globals = s.roomGlobals ∧
    (handedShort h s).slots = s.slots ∧ (handedShort h s).entryOf h = s.entryWithout [.snift] h := by
  obtain ⟨papers, globals, slots, entry⟩ := ventShort_rest h s
  have transit : (ventShort h s).transit = s.transit := papers_transit papers
  have phase : (ventShort h s).phase h = .snift := by rw [State.phase, head_ventShort]; exact snift
  have ticket : ((ventShort h s).head h).ticket = some tk.cutShort := by rw [head_ventShort, held]; rfl
  rw [handedShort, handOver_eq ticket, phase, head_ventShort, Timers.leaving_snift]
  refine ⟨?_, ?_, rfl, ?_, ?_, ?_⟩
  · simp only [State.head]; exact head_setHead_self h _ (ventShort h s)
  · simp only [State.transitRoom, transit]
  · simp only [State.roomGlobals, transit, globals]
  · simp only [setHead_slots]; exact slots
  · simp only [State.entryOf, setHead_pilotQueue]; exact entry

end Short

/-! ## The count of the fault (R55) -/

section Count
variable {h : HeadId} {s : State}

theorem countFault_fillFault (h : HeadId) (s : State) : ((countFault h s).head h).causes.fillFault = (s.head h).causes.fillFault := by
  unfold countFault; split
  · rw [modRecord, head_modHead_self]
  · rw [raiseRepeatedFaults, takeOut_causes, head_changeCauses, modRecord, head_modHead_self]

theorem countFault_count (h : HeadId) (s : State) : ((countFault h s).head h).record.faultCount =
    if (s.head h).record.faultCount + 1 < 3 then (s.head h).record.faultCount + 1 else 0 := by
  split
  next below => rw [countFault_below below, modRecord, head_modHead_self]
  next third =>
    rw [countFault_third third, raiseRepeatedFaults, faults_at (takeOut_faults h _), head_changeCauses, modRecord, head_modHead_self]

theorem countFault_intervention (third : ¬(s.head h).record.faultCount + 1 < 3) :
    ((countFault h s).head h).causes.intervention = some .repeatedFaults := by
  rw [countFault_third third, raiseRepeatedFaults, takeOut_causes, head_changeCauses]

/-- At the third fault an IN or JOINING head in EMPTY becomes OUT (R42, R43). -/
theorem countFault_out (third : ¬(s.head h).record.faultCount + 1 < 3) (empty : s.phase h = .empty)
    (member : (s.head h).record.service = .inn ∨ (s.head h).record.service = .joining) :
    ((countFault h s).head h).record.service = .out := by
  have head := head_changeCauses h (fun c => { c with intervention := some .repeatedFaults })
    (modRecord h (fun r => { r with faultCount := 0 }) s)
  rw [modRecord, head_modHead_self] at head
  rw [countFault_third third, raiseRepeatedFaults, takeOut_goes, (becomeOut_self h _).1]
  rw [State.phase, modRecord, head]
  exact member.elim (fun inn => .inr ⟨inn, empty⟩) .inl

end Count

/-! ## The discharge crossing -/

section Crossing
variable {h : HeadId} {s : State}

theorem dischargeCrossing_snift (snift : s.phase h = .snift) : dischargeCrossing h s = dischargeSnift h s := by
  simp only [dischargeCrossing, snift]

theorem dischargeCrossing_filling (filling : (s.phase h).filling = true) :
    dischargeCrossing h s = dischargeSnift h (sniftByCrossing h s) := by
  unfold dischargeCrossing
  cases phase : s.phase h with
  | empty | snift | done => rw [phase] at filling; cases filling
  | seated | pressurize | fast | slow | settle | topup => rfl

/-- The snift-by crossing ends every fill under way (R107). -/
theorem sniftByCrossing_phase (filling : (s.phase h).filling = true) : (sniftByCrossing h s).phase h = .snift := by
  unfold sniftByCrossing
  cases phase : s.phase h with
  | empty | snift | done => rw [phase] at filling; cases filling
  | seated | pressurize | fast | slow | topup => exact forceToSnift_phase filling
  | settle => simp only [State.phase]; rw [works_seq (plant_works (doseEnd_plant h _) h), head_doseJudged]

theorem dischargeSnift_counted {tk : Ticket} (held : (s.head h).ticket = some tk) : dischargeSnift h s =
    if tk.faultReason.isSome = true then handedShort h s else countFault h (handedShort h s) := by
  rw [dischargeSnift_eq, held]; rfl

/-- The count of the fault touches record, slots and REPEATED_FAULTS alone. -/
theorem dischargeSnift_stands (h : HeadId) (s : State) : (dischargeSnift h s).plant = (handedShort h s).plant ∧
    (dischargeSnift h s).papers = (handedShort h s).papers ∧
    ((dischargeSnift h s).head h).causes.fillFault = ((handedShort h s).head h).causes.fillFault := by
  rw [dischargeSnift_eq]
  split
  · exact ⟨rfl, rfl, rfl⟩
  · exact ⟨countFault_plant h _, countFault_papers h _, countFault_fillFault h _⟩

end Crossing

/-- Settles O22: the hand-over by `handOver_eq`, the ticket cut short by `handedShort_spec`, its fault by the count's own rules. -/
theorem dischargeMovesTicketToTransit : Obligations.DischargeMovesTicketToTransit := by
  intro h s tk x u room lossOf cut
  refine ⟨fun empty => ?_, fun filling => ?_, fun done held => ?_, fun snift held => ?_⟩
  · simp only [u, dischargeCrossing, empty]; rfl
  · rw [dischargeCrossing_snift (sniftByCrossing_phase filling)]
    exact dischargeCrossing_filling filling
  · have handed : u = handOver h s := by simp only [u, dischargeCrossing, done]
    rw [handed, handOver_eq held, done, Timers.leaving_done]
    exact ⟨fun free => by rw [displaceIfFull_room free], rfl⟩
  · obtain ⟨head, transit, lines, globals, slots, entry⟩ := handedShort_spec snift held
    have vented : u = dischargeSnift h s := dischargeCrossing_snift snift
    have outer : u.outer = s.outer := dischargeCrossing_outer h s
    have apart : u.elsewhere h = s.elsewhere h := dischargeCrossing_elsewhere h s
    clear_value u
    obtain ⟨plant, papers, fillFault⟩ := dischargeSnift_stands h s
    rw [← vented] at plant papers fillFault
    have works := plant_works plant h
    have seq := works_seq works
    simp only [head] at seq fillFault
    have counted (fresh : tk.faultReason = none) : u = countFault h (handedShort h s) := by
      rw [vented, dischargeSnift_counted held, if_neg (by rw [fresh]; decide)]
    refine ⟨congrArg Sequencer.phase seq, (works_ticket works).trans (by rw [head]), congrArg Sequencer.timers seq,
      (works_pilots works).trans (by rw [head]), (plant_entryOf plant h).trans entry, (papers_transit papers).trans transit,
      (papers_lines papers).trans lines, (plant_globals plant).trans globals, fillFault, fun old => ?_, fun fresh => ?_,
      fun fresh third => ?_, outer, apart⟩
    · rw [vented, dischargeSnift_counted held, if_pos old, head]
      exact ⟨rfl, slots⟩
    · rw [counted fresh, countFault_count, head]
    · have third : ¬((handedShort h s).head h).record.faultCount + 1 < 3 := by rw [head]; exact Nat.not_lt.mpr third
      rw [counted fresh]
      refine ⟨countFault_intervention third, fun member => countFault_out third (by rw [State.phase, head]) ?_⟩
      rw [head]; exact member

end Sys2Proof.Machine
end

section
/-! SUPPORT. SETTLE entered (R88, R90, R94, R97): what each operation on the way to it leaves for the statement `Settled`, and the expiries
of the start-flow and stall timers (R89). -/

namespace Sys2Proof.Machine

/-! ## Due timers -/

/-- A timer that has run down is stopped, and the sequencer acts (R78). -/
theorem takeExpiry_due {n : TimerName} {act : HeadId → State → State} {h : HeadId} {s : State} {due : Time}
    (installed : s.isInstalled h = true) (running : (s.head h).seq.timers.get n = some due) (passed : due ≤ s.now) :
    takeExpiry n act h s = arbitrate (act h (stopTimer n h s)) := by
  have expired : s.expired n h = true := by rw [State.expired, running]; exact decide_eq_true passed
  exact if_pos ⟨installed, expired⟩

/-! ## Work on the fill alone -/

/-- A head replaced by one with another sequencer, ticket and pilots. -/
theorem setHead_fillOnly (h : HeadId) (s : State) (q : Sequencer) (ps : Pilots) (o : Option Ticket) :
    FillOnly h s (setHead h { s.head h with seq := q, pilots := ps, ticket := o } s) := by
  have head := head_setHead_self h { s.head h with seq := q, pilots := ps, ticket := o } s
  have elsewhere := modHead_elsewhere h (fun x => { x with seq := q, pilots := ps, ticket := o }) s
  have attn := modHead_attn h (fun x => { x with seq := q, pilots := ps, ticket := o }) (fun _ => rfl) s
  exact ⟨by rw [head], by rw [head], by rw [head], by rw [head], by rw [head], ⟨rfl, rfl, rfl, elsewhere⟩,
    modHead_membersStand h (fun x => { x with seq := q, pilots := ps, ticket := o }) s, attn⟩

theorem startTimer_eq {n : TimerName} {h : HeadId} {s : State} {tk : Ticket} (held : (s.head h).ticket = some tk) :
    startTimer n h s =
      modSeq h (fun q => { q with timers := q.timers.put n (some (s.now + 100 * tk.snapshot.recipe.duration n)) }) s := by
  simp only [startTimer, held]

theorem FillOnly.attentionLine {h : HeadId} {s u : State} (e : FillOnly h s u) : u.attentionLine = s.attentionLine :=
  congrArg (·.2.2.1) e.attn

/-! ## The queued open and the pilots once several pilots have been released -/

theorem entryWithout_nil (h : HeadId) (s : State) : s.entryWithout [] h = s.entryOf h := by
  have all : (fun e : Entry => !([] : List Pilot).any fun p => e.kind.pilots.contains p && !s.energised h p) = fun _ => true := rfl
  rw [State.entryWithout, all]
  cases s.entryOf h <;> rfl

/-- What becomes of the queued open depends on it and on the head's pilots alone. -/
theorem entryWithout_congr {ps : List Pilot} {h : HeadId} {s t : State} (entry : t.entryOf h = s.entryOf h)
    (pilots : (t.head h).pilots = (s.head h).pilots) : t.entryWithout ps h = s.entryWithout ps h := by
  have on (p : Pilot) : t.energised h p = s.energised h p := energised_congr (by rw [pilots])
  simp only [State.entryWithout, entry, on]

/-- One release and then others withdraw what they withdraw together. -/
theorem entryWithout_release {p : Pilot} {ps : List Pilot} (new : p ∉ ps) (h : HeadId) (s : State) :
    (release p h s).entryWithout ps h = s.entryWithout (p :: ps) h := by
  have on (q : Pilot) (mem : q ∈ ps) : (release p h s).energised h q = s.energised h q :=
    energised_congr (by rw [get_release, if_neg (ne_of_mem_of_not_mem mem new)])
  have names (e : Entry) : (ps.any fun q => e.kind.pilots.contains q && !(release p h s).energised h q) =
      ps.any fun q => e.kind.pilots.contains q && !s.energised h q := by
    rw [Bool.eq_iff_iff, List.any_eq_true, List.any_eq_true]
    exact exists_congr fun q => and_congr_right fun mem => by rw [on q mem]
  rw [State.entryWithout, entryOf_release]
  simp only [names, State.entryWithout, Option.filter_filter, List.any_cons, List.any_nil, Bool.or_false, Bool.not_or]

/-- A pilot's record once these pilots of the head have been released (R171). -/
def State.pilotAfter (s : State) (ps : List Pilot) (h : HeadId) (p : Pilot) : PilotRecord :=
  if p ∈ ps then s.releasedPilot h p else (s.head h).pilots.get p

theorem pilotAfter_congr {ps : List Pilot} {h : HeadId} {s t : State} (pilots : (t.head h).pilots = (s.head h).pilots)
    (now : t.now = s.now) (p : Pilot) : t.pilotAfter ps h p = s.pilotAfter ps h p := by
  rw [State.pilotAfter, State.pilotAfter, releasedPilot_congr (by rw [pilots]) now, pilots]

theorem pilotAfter_release {p : Pilot} {ps : List Pilot} (new : p ∉ ps) (h : HeadId) (s : State) (q : Pilot) :
    (release p h s).pilotAfter ps h q = s.pilotAfter (p :: ps) h q := by
  by_cases mine : q = p
  · rw [State.pilotAfter, State.pilotAfter, if_neg (mine ▸ new), if_pos (by simp [mine]), get_release, if_pos mine, mine]
  · have same : ((release p h s).head h).pilots.get q = (s.head h).pilots.get q := by rw [get_release, if_neg mine]
    rw [State.pilotAfter, State.pilotAfter, same, releasedPilot_congr same (outer_now (release_outer p h s))]
    simp only [List.mem_cons, mine, false_or]

/-! ## On the way to SETTLE -/

/-- A sequencer with its start-flow and stall timers stopped. -/
def Sequencer.flowStopped (q : Sequencer) : Sequencer := { q with timers := { q.timers with startFlow := none, stall := none } }

/-- A sequencer that has entered SETTLE out of FAST, SLOW or TOPUP (R88, R90). -/
def Sequencer.settled (w : Settle) (now : Time) (r : Recipe) (q : Sequencer) : Sequencer :=
  { q with
    phase := .settle, settle := w
    timers := { q.timers with
      startFlow := none, stall := none, flowStill := some (now + 100 * r.tStill), settleLimit := some (now + 100 * r.tSettleMax) } }

theorem settled_flowStopped (w : Settle) (now : Time) (r : Recipe) (q : Sequencer) :
    q.flowStopped.settled w now r = q.settled w now r := rfl

/-- Whether the head has settled may be judged from an earlier state, if only its fill was worked on and only pilots released since. -/
theorem Settled.of_fillOnly {w : Settle} {ps qs : List Pilot} {h : HeadId} {tk : Ticket} {s u v : State} (before : FillOnly h s u)
    (seq : (u.head h).seq.flowStopped = (s.head h).seq.flowStopped) (pilots : ∀ p, u.pilotAfter ps h p = s.pilotAfter qs h p)
    (entry : u.entryWithout ps h = s.entryWithout qs h) (settled : Settled w ps h tk u v) : Settled w qs h tk s v := by
  obtain ⟨ticket, sequencer, pilots', entry', record, causes, lastCounted, presence, pressureEqual, others, members, line⟩ := settled
  have now : u.now = s.now := outer_now before.others.outer
  have sequencer : (v.head h).seq = (s.head h).seq.settled w s.now tk.snapshot.recipe := calc
    _ = (u.head h).seq.settled w u.now tk.snapshot.recipe := sequencer
    _ = (u.head h).seq.flowStopped.settled w s.now tk.snapshot.recipe := by rw [settled_flowStopped, now]
    _ = _ := by rw [seq, settled_flowStopped]
  exact ⟨ticket, sequencer, fun p => (pilots' p).trans (pilots p), entry'.trans entry, record.trans before.record,
    causes.trans before.causes, lastCounted.trans before.lastCounted, presence.trans before.presence,
    pressureEqual.trans before.pressureEqual, before.others.trans others, before.members.trans members, line.trans before.attentionLine⟩

section Way
variable {w : Settle} {ps : List Pilot} {h : HeadId} {tk : Ticket} {s v : State}

theorem Settled.of_release {p : Pilot} (new : p ∉ ps) (e : Settled w ps h tk (release p h s) v) : Settled w (p :: ps) h tk s v :=
  e.of_fillOnly (release_fillOnly p h s) (by rw [head_release]) (pilotAfter_release new h s) (entryWithout_release new h s)

theorem Settled.of_releaseFill (e : Settled w [] h tk (releaseFill h s) v) : Settled w [.fast, .slow] h tk s v :=
  (e.of_release List.not_mem_nil).of_release (by decide)

theorem Settled.of_modTicket {f : Ticket → Ticket} (e : Settled w ps h tk (modTicket h f s) v) : Settled w ps h tk s v := by
  have head : (modTicket h f s).head h = { s.head h with ticket := (s.head h).ticket.map f } := head_modHead_self h _ s
  exact e.of_fillOnly (modTicket_fillOnly h f s) (by rw [head]) (pilotAfter_congr (by rw [head]) rfl)
    (entryWithout_congr rfl (by rw [head]))

theorem Settled.of_closeIfMetered (e : Settled w ps h tk (closeIfMetered h s) v) : Settled w ps h tk s v := by
  unfold closeIfMetered at e
  split at e
  · exact e.of_modTicket
  · exact e

/-- The start-flow and stall timers may be stopped before SETTLE is entered, which stops them (R78). -/
theorem Settled.of_stopTimer {n : TimerName} (flow : n = .startFlow ∨ n = .stall) (e : Settled w ps h tk (stopTimer n h s) v) :
    Settled w ps h tk s v := by
  have head : (stopTimer n h s).head h = { s.head h with seq := { (s.head h).seq with timers := (s.head h).seq.timers.put n none } } :=
    head_modHead_self h _ s
  have seq : ((stopTimer n h s).head h).seq.flowStopped = (s.head h).seq.flowStopped := by
    rw [head]; obtain rfl | rfl := flow <;> rfl
  exact e.of_fillOnly (u := stopTimer n h s) (modSeq_fillOnly h _ s) seq (pilotAfter_congr (by rw [head]) rfl)
    (entryWithout_congr rfl (by rw [head]))

/-- The head enters SETTLE (R90). -/
theorem enterSettle_settled (flowing : s.phase h = .fast ∨ s.phase h = .slow ∨ s.phase h = .topup)
    (held : (s.head h).ticket = some tk) : Settled w [] h tk s (enterSettle w h s) := by
  have entered : enterSettle w h s = setHead h { s.head h with seq := (s.head h).seq.settled w s.now tk.snapshot.recipe } s := by
    have leaving : ∀ p, p = .fast ∨ p = .slow ∨ p = .topup →
        (s.head h).seq.timers.leaving p .settle = (s.head h).seq.flowStopped.timers := by
      rintro p (rfl | rfl | rfl) <;> rfl
    have left : enterPhase .settle h s =
        setHead h { s.head h with seq := { (s.head h).seq.flowStopped with phase := .settle } } s := by
      rw [enterPhase, modSeq, modHead]
      exact congrArg (fun q => setHead h { s.head h with seq := { (s.head h).seq with phase := .settle, timers := q } } s)
        (leaving _ flowing)
    have start (n : TimerName) (q : Sequencer) : startTimer n h (setHead h { s.head h with seq := q } s) =
        setHead h { s.head h with seq := { q with timers := q.timers.put n (some (s.now + 100 * tk.snapshot.recipe.duration n)) } } s := by
      rw [startTimer_eq (tk := tk) (by rw [head_setHead_self]; exact held), modSeq, modHead_setHead]; rfl
    rw [enterSettle, left, modSeq, modHead_setHead, start, start]; rfl
  have only := setHead_fillOnly h s ((s.head h).seq.settled w s.now tk.snapshot.recipe) (s.head h).pilots (s.head h).ticket
  rw [entered]
  refine ⟨?_, ?_, fun p => ?_, (entryWithout_nil h s).symm, only.record, only.causes, only.lastCounted, only.presence,
    only.pressureEqual, only.others, only.members, only.attentionLine⟩
  · rw [head_setHead_self]; exact held
  · rw [head_setHead_self]; rfl
  · rw [head_setHead_self]; rfl

/-- A forced ending to SETTLE, as R68, R90 and R97 have it. -/
theorem forceToSettle_settled {r : Reason} (flowing : s.phase h = .fast ∨ s.phase h = .slow ∨ s.phase h = .topup)
    (held : (s.head h).ticket = some tk) :
    Settled (settleAfter (s.phase h)) [.fast, .slow] h (tk.endedWith r (s.phase h)) s (forceToSettle r h s) := by
  let u := closeIfMetered h (stopTimer .stall h (stopTimer .startFlow h (releaseFill h (modTicket h (Ticket.addReason r) s))))
  have ends : forceToSettle r h s = enterSettle (settleAfter (s.phase h)) h u := by
    unfold forceToSettle
    obtain e | e | e := flowing <;> simp only [e, u]
  have phase : u.phase h = s.phase h := by
    simp only [u, closeIfMetered_phase, stopTimer_phase, releaseFill_phase]
    rw [State.phase, modTicket, head_modHead_self]; rfl
  have ticket : (u.head h).ticket = some (tk.endedWith r (s.phase h)) := by
    have marked : ((stopTimer .stall h (stopTimer .startFlow h (releaseFill h (modTicket h (Ticket.addReason r) s)))).head h).ticket =
        (s.head h).ticket.map (Ticket.addReason r) := by
      simp only [stopTimer, modSeq, head_modHead_self, releaseFill, head_release, modTicket]
    have before : (stopTimer .stall h (stopTimer .startFlow h (releaseFill h (modTicket h (Ticket.addReason r) s)))).phase h =
        s.phase h := (closeIfMetered_phase h _).symm.trans phase
    rw [head_closeIfMetered, marked, before, metered_endedWith, held]; rfl
  rw [ends]
  exact ((((enterSettle_settled (by rw [phase]; exact flowing) ticket).of_closeIfMetered.of_stopTimer (.inr rfl)).of_stopTimer
    (.inl rfl)).of_releaseFill).of_modTicket

end Way

/-- The expiry of the start-flow or the stall timer (R89, R90). -/
theorem takeExpiry_forceToSettle {n : TimerName} (flow : n = .startFlow ∨ n = .stall) (r : Reason) {h : HeadId} {s : State} {tk : Ticket}
    {due : Time} (installed : s.isInstalled h = true) (held : (s.head h).ticket = some tk) (passed : due ≤ s.now)
    (flowing : s.phase h = .fast ∨ s.phase h = .slow ∨ s.phase h = .topup) (running : (s.head h).seq.timers.get n = some due) :
    takeExpiry n (forceToSettle r) h s = arbitrate (forceToSettle r h (stopTimer n h s)) ∧
    Settled (settleAfter (s.phase h)) [.fast, .slow] h (tk.endedWith r (s.phase h)) s (forceToSettle r h (stopTimer n h s)) := by
  have phase : (stopTimer n h s).phase h = s.phase h := stopTimer_phase n h s
  have ticket : ((stopTimer n h s).head h).ticket = some tk := by rw [stopTimer, modSeq, head_modHead_self]; exact held
  have settled := forceToSettle_settled (r := r) (by rw [phase]; exact flowing) ticket
  rw [phase] at settled
  exact ⟨takeExpiry_due installed running passed, settled.of_stopTimer flow⟩

/-- Settles O15, by `takeExpiry_forceToSettle` at each of the two timers. -/
theorem noFlowAndStallSettle : Obligations.NoFlowAndStallSettle := by
  intro t due h s tk installed held passed s' settles
  have ending (n : TimerName) (flow : n = .startFlow ∨ n = .stall) (r : Reason) (phase : s.phase h ∈ [Phase.fast, .slow, .topup])
      (running : (s.head h).seq.timers.get n = some due) :
      takeExpiry n (forceToSettle r) h s' = arbitrate (forceToSettle r h (stopTimer n h s')) ∧
        settles r (forceToSettle r h (stopTimer n h s')) := by
    have flowing : s.phase h = .fast ∨ s.phase h = .slow ∨ s.phase h = .topup := by simpa using phase
    obtain ⟨taken, settled⟩ := takeExpiry_forceToSettle (s := s') flow r installed held passed flowing running
    have same : s'.phase h = s.phase h := rfl
    rw [same] at settled
    refine ⟨taken, fun metered => ?_, fun topup => ?_⟩
    · have first : settleAfter (s.phase h) = .first := by
        have all : ∀ p ∈ [Phase.fast, .slow], settleAfter p = .first := by decide
        exact all _ metered
      rw [first] at settled; exact settled
    · rw [topup] at settled; exact settled
  refine ⟨fun phase running => ?_, fun phase running => ?_⟩
  · obtain ⟨taken, settled⟩ := ending .startFlow (.inl rfl) .noFlow phase running
    exact ⟨_, congrArg _ taken, settled⟩
  · obtain ⟨taken, settled⟩ := ending .stall (.inr rfl) .stall phase running
    exact ⟨_, congrArg _ taken, settled⟩

end Sys2Proof.Machine
end

section
/-! SUPPORT. Counted pulses (R61, R63, R65, R86): the ticket and timers of a pulse, and the crossings of the switch and close thresholds
(R66, R67, R87, R88, R94). -/

namespace Sys2Proof.Machine

/-! ## The timers of a counted pulse (R86) -/

/-- The timers while product flows: start-flow stopped, stall restarted. -/
def Timers.flowing (now : Time) (r : Recipe) (q : Timers) : Timers := { q with startFlow := none, stall := some (now + 100 * r.tStall) }

/-- The timers after a counted pulse, by phase; `granted` says that the SLOW pilot is energised. -/
def Timers.pulsed (p : Phase) (granted : Bool) (now : Time) (r : Recipe) (q : Timers) : Timers :=
  match p with
  | .fast | .slow => q.flowing now r
  | .topup => if granted then q.flowing now r else q
  | .settle => { q with flowStill := some (now + 100 * r.tStill) }
  | .empty | .seated | .pressurize | .snift | .done => q

theorem pulseTimers_eq {h : HeadId} {s : State} {tk : Ticket} (held : (s.head h).ticket = some tk) : pulseTimers h s =
    modSeq h (fun q => { q with timers := q.timers.pulsed (s.phase h) (s.energised h .slow) s.now tk.snapshot.recipe }) s := by
  have same : s = modSeq h (fun q => { q with timers := q.timers }) s := (setHead_same h s).symm
  have flow : startTimer .stall h (stopTimer .startFlow h s) =
      modSeq h (fun q => { q with timers := q.timers.flowing s.now tk.snapshot.recipe }) s := by
    have ticket : ((stopTimer .startFlow h s).head h).ticket = some tk := by rw [stopTimer, modSeq, head_modHead_self]; exact held
    rw [startTimer_eq ticket]
    exact modHead_setHead h _ _ s
  unfold pulseTimers
  cases s.phase h with
  | fast | slow => exact flow
  | topup =>
    cases s.energised h .slow with
    | true => exact flow
    | false => exact same
  | settle => exact startTimer_eq held
  | empty | seated | pressurize | snift | done => exact same

/-- A counted pulse: the ticket counts, the moment is noted, the timers follow (R61, R63, R86). -/
theorem countPulse_eq (tk : Ticket) (h : HeadId) (s : State) : countPulse tk h s = setHead h { s.head h with
    lastCounted := some s.now, ticket := some tk.count
    seq := { (s.head h).seq with
      timers := (s.head h).seq.timers.pulsed (s.phase h) (s.energised h .slow) s.now tk.snapshot.recipe } } s := by
  have head := head_setHead_self h { s.head h with lastCounted := some s.now, ticket := some tk.count } s
  have phase : (setHead h { s.head h with lastCounted := some s.now, ticket := some tk.count } s).phase h = s.phase h := by
    rw [State.phase, head]; rfl
  have on : (setHead h { s.head h with lastCounted := some s.now, ticket := some tk.count } s).energised h .slow = s.energised h .slow :=
    energised_congr (by rw [head])
  rw [countPulse, modHead, pulseTimers_eq (tk := tk.count) (by rw [head]), phase, on, modSeq, modHead_setHead]; rfl

/-! ## The pulse -/

theorem meterPulse_counted {h : HeadId} {s : State} {tk : Ticket} (counting : (s.phase h).counting = true)
    (held : (s.head h).ticket = some tk) (apart : ∀ last, (s.head h).lastCounted = some last → 40 ≤ s.now - last) :
    meterPulse h s = countedPulse tk h s := by
  have passes : isGlitch (s.head h).lastCounted s.now = false := by
    cases counted : (s.head h).lastCounted with
    | none => rfl
    | some last => exact decide_eq_false (Nat.not_lt.mpr (apart last counted))
  simp only [meterPulse, counting, if_true, held, passes, Bool.false_eq_true, if_false]

theorem countedPulse_below {tk : Ticket} {h : HeadId} {s : State} (below : tk.count.crossing (s.phase h) = .none) :
    countedPulse tk h s = countPulse tk h s := by
  simp only [countedPulse, below]

theorem countedPulse_crossing {tk : Ticket} {h : HeadId} {s : State} {c : DoseCrossing} (crossing : tk.count.crossing (s.phase h) = c)
    (crosses : c ≠ .none) : countedPulse tk h s = arbitrate (takeDoseCrossing c h (countPulse tk h s)) := by
  unfold countedPulse
  rw [crossing]
  split
  next => exact absurd rfl crosses
  next => rfl

/-- A pulse of an installed head in a counting phase that is no glitch is counted (R61). -/
theorem exec_meterPulse_counted {t : Time} {h : HeadId} {s : State} {tk : Ticket} (installed : s.isInstalled h = true)
    (counting : (s.phase h).counting = true) (held : (s.head h).ticket = some tk)
    (apart : ∀ last, (s.head h).lastCounted = some last → 40 ≤ max s.now t - last) :
    exec (.meterPulse t h) s = .next (countedPulse tk h (s.advance t)) := by
  have here : (s.advance t).isInstalled h = true := installed
  have pulse : meterPulse h (s.advance t) = countedPulse tk h (s.advance t) := meterPulse_counted counting held apart
  simp only [exec, execMeterPulse, here, if_true, pulse]

/-! ## Thresholds (R64, R65) -/

theorem reached_iff {tk : Ticket} {du : Int} : tk.reached du = true ↔ 256 * du ≤ (tk.d : Int) := decide_eq_true_iff
theorem reached_false_iff {tk : Ticket} {du : Int} : tk.reached du = false ↔ (tk.d : Int) < 256 * du := by
  rw [Ticket.reached, decide_eq_false_iff_not, Int.not_le]

section Crossing
variable {tk : Ticket}

theorem crossing_fast_below (close : (tk.d : Int) < 256 * tk.snapshot.e) (switch : (tk.d : Int) < 256 * tk.snapshot.f) :
    tk.crossing .fast = .none := by
  simp only [Ticket.crossing, reached_false_iff.mpr close, reached_false_iff.mpr switch, Bool.false_eq_true, if_false]
theorem crossing_fast_switch (close : (tk.d : Int) < 256 * tk.snapshot.e) (switch : 256 * tk.snapshot.f ≤ (tk.d : Int)) :
    tk.crossing .fast = .switch := by
  simp only [Ticket.crossing, reached_false_iff.mpr close, reached_iff.mpr switch, Bool.false_eq_true, if_false, if_true]
theorem crossing_slow_below (close : (tk.d : Int) < 256 * tk.snapshot.e) : tk.crossing .slow = .none := by
  simp only [Ticket.crossing, reached_false_iff.mpr close, Bool.false_eq_true, if_false]
theorem crossing_close {p : Phase} (metered : p = .fast ∨ p = .slow) (close : 256 * tk.snapshot.e ≤ (tk.d : Int)) :
    tk.crossing p = .close := by
  obtain rfl | rfl := metered <;> simp only [Ticket.crossing, reached_iff.mpr close, if_true]
theorem crossing_topup_below (close : (tk.d : Int) < 256 * tk.snapshot.eTop) : tk.crossing .topup = .none := by
  simp only [Ticket.crossing, reached_false_iff.mpr close, Bool.false_eq_true, if_false]
theorem crossing_topup_close (close : 256 * tk.snapshot.eTop ≤ (tk.d : Int)) : tk.crossing .topup = .topUpClose := by
  simp only [Ticket.crossing, reached_iff.mpr close, if_true]

end Crossing

/-- Settles O10: below the thresholds `countedPulse_below`, the timers by phase `countPulse_eq`. -/
theorem countedPulseAccumulates : Obligations.CountedPulseAccumulates := by
  intro t h s tk installed held apart now x d tk' flow still counted
  have pulse (counting : (s.phase h).counting = true) (below : tk.count.crossing (s.phase h) = .none) :
      exec (.meterPulse t h) s = counted (x.seq.timers.pulsed (s.phase h) (s.energised h .slow) now tk.snapshot.recipe) := by
    rw [exec_meterPulse_counted installed counting held apart]
    exact congrArg _ ((countedPulse_below (s := s.advance t) below).trans (countPulse_eq tk h _))
  refine ⟨fun fast close switch => ?_, fun slow close => ?_, fun settle => ?_, fun topup close => ?_⟩
  · rw [pulse (by rw [fast]; rfl) (by rw [fast]; exact crossing_fast_below close switch), fast]; rfl
  · rw [pulse (by rw [slow]; rfl) (by rw [slow]; exact crossing_slow_below close), slow]; rfl
  · rw [pulse (by rw [settle]; rfl) (by rw [settle]; rfl), settle]; rfl
  · rw [pulse (by rw [topup]; rfl) (by rw [topup]; exact crossing_topup_below close), topup]; rfl

/-! ## The crossings -/

section Taken
variable {h : HeadId} {s : State} {tk : Ticket}

/-- The close crossing, as R67 and R88 have it. -/
theorem closeCrossing_settled (metered : s.phase h = .fast ∨ s.phase h = .slow) (held : (s.head h).ticket = some tk) :
    Settled .first [.fast, .slow] h { tk.recordClose with noSlow := tk.noSlow || decide (s.phase h = .fast) } s (closeCrossing h s) := by
  have marked (f : Ticket → Ticket) : (releaseFill h (modTicket h f s)).phase h = s.phase h ∧
      ((releaseFill h (modTicket h f s)).head h).ticket = some (f tk) := by
    rw [releaseFill_phase]
    simp only [State.phase, releaseFill, head_release, modTicket, head_modHead_self, held, Option.map_some, and_self]
  obtain ⟨phase, ticket⟩ := marked fun k => { k.recordClose with noSlow := k.noSlow || decide (s.phase h = .fast) }
  exact (enterSettle_settled (by rw [phase]; exact metered.imp_right .inl) ticket).of_releaseFill.of_modTicket

/-- The top-up close crossing, as R94 has it. -/
theorem topUpClose_settled (topup : s.phase h = .topup) (held : (s.head h).ticket = some tk) :
    Settled .second [.slow] h tk s (takeDoseCrossing .topUpClose h s) := by
  have phase : (release .slow h s).phase h = .topup := by rw [State.phase, head_release]; exact topup
  have ticket : ((release .slow h s).head h).ticket = some tk := by rw [head_release]; exact held
  exact (enterSettle_settled (.inr (.inr phase)) ticket).of_release List.not_mem_nil

/-- The head after the switch crossing (R66, R87). -/
theorem head_switch (fast : s.phase h = .fast) : (takeDoseCrossing .switch h s).head h = { s.head h with
    seq := { (s.head h).seq with phase := .slow, timers := { (s.head h).seq.timers with startFlow := none } }
    pilots := { (s.head h).pilots with fast := s.releasedPilot h .fast } } := by
  have phase : (s.head h).seq.phase = .fast := fast
  simp only [takeDoseCrossing, enterPhase, modSeq, head_modHead_self, head_release, phase]; rfl

theorem switch_fillOnly (h : HeadId) (s : State) : FillOnly h s (takeDoseCrossing .switch h s) :=
  (release_fillOnly .fast h s).trans (enterPhase_fillOnly .slow h _)

theorem entryOf_switch (h : HeadId) (s : State) : (takeDoseCrossing .switch h s).entryOf h = s.entryWithout [.fast] h :=
  entryOf_release .fast h s

end Taken

/-- The moment of a counted pulse is noted (R61). -/
def noteMoment (h : HeadId) (s : State) : State := setHead h { s.head h with lastCounted := some s.now } s

section Noted
variable {h : HeadId} {s : State} {tk : Ticket}

theorem head_noteMoment (h : HeadId) (s : State) : (noteMoment h s).head h = { s.head h with lastCounted := some s.now } :=
  head_setHead_self h _ s

theorem countPulse_fillOnly (tk : Ticket) (h : HeadId) (s : State) : FillOnly h (noteMoment h s) (countPulse tk h s) := by
  have only := setHead_fillOnly h (noteMoment h s) { (s.head h).seq with
    timers := (s.head h).seq.timers.pulsed (s.phase h) (s.energised h .slow) s.now tk.snapshot.recipe } (s.head h).pilots (some tk.count)
  rw [head_noteMoment, noteMoment, setHead_setHead] at only
  rw [countPulse_eq]
  exact only

theorem head_countPulse (tk : Ticket) (h : HeadId) (s : State) : (countPulse tk h s).head h = { s.head h with
    lastCounted := some s.now, ticket := some tk.count
    seq := { (s.head h).seq with
      timers := (s.head h).seq.timers.pulsed (s.phase h) (s.energised h .slow) s.now tk.snapshot.recipe } } := by
  rw [countPulse_eq, head_setHead_self]

theorem entryOf_countPulse (tk : Ticket) (h : HeadId) (s : State) : (countPulse tk h s).entryOf h = s.entryOf h := by
  rw [countPulse_eq]; rfl

/-- A counted pulse leaves the head's pilots. -/
theorem countPulse_pilots (tk : Ticket) (h : HeadId) (s : State) :
    ((countPulse tk h s).head h).pilots = ((noteMoment h s).head h).pilots := by
  rw [head_countPulse, head_noteMoment]

/-- What follows a counted pulse may be judged from the state in which only its moment is noted. -/
theorem Settled.of_countPulse {w : Settle} {ps : List Pilot} {k : Ticket} {v : State}
    (flowing : s.phase h = .fast ∨ s.phase h = .slow ∨ s.phase h = .topup) (e : Settled w ps h k (countPulse tk h s) v) :
    Settled w ps h k (noteMoment h s) v := by
  have only := countPulse_fillOnly tk h s
  have pilots := countPulse_pilots tk h s
  have timers (q : Timers) (granted : Bool) : ({ (s.head h).seq with
      timers := q.pulsed (s.phase h) granted s.now tk.snapshot.recipe } : Sequencer).flowStopped =
      ({ (s.head h).seq with timers := q } : Sequencer).flowStopped := by
    obtain phase | phase | phase := flowing
    · rw [phase]; rfl
    · rw [phase]; rfl
    · rw [phase]; cases granted <;> rfl
  exact e.of_fillOnly only (by rw [head_countPulse, head_noteMoment]; exact timers _ _)
    (pilotAfter_congr pilots (outer_now only.others.outer)) (entryWithout_congr (entryOf_countPulse tk h s) pilots)

end Noted

/-- Settles O11: the switch crossing by `head_switch`, the close crossings by `closeCrossing_settled` and `topUpClose_settled`. -/
theorem countedPulseCrossesThreshold : Obligations.CountedPulseCrossesThreshold := by
  intro t h s tk installed held apart now x d tk' s1
  let c := countPulse tk h (s.advance t)
  have phase : c.phase h = s.phase h := countPulse_phase tk h (s.advance t)
  have head := head_countPulse tk h (s.advance t)
  have ticket : (c.head h).ticket = some tk' := by simp only [c, head]; rfl
  have pulse {k : DoseCrossing} (counting : (s.phase h).counting = true) (crossing : tk.count.crossing (s.phase h) = k)
      (crosses : k ≠ .none) : exec (.meterPulse t h) s = .next (arbitrate (takeDoseCrossing k h c)) := by
    rw [exec_meterPulse_counted installed counting held apart]
    exact congrArg _ (countedPulse_crossing (s := s.advance t) crossing crosses)
  refine ⟨fun fast close switch => ?_, fun metered close => ?_, fun topup close => ?_⟩
  · have only := (countPulse_fillOnly tk h (s.advance t)).trans (switch_fillOnly h c)
    have pilots := countPulse_pilots tk h (s.advance t)
    have released : c.releasedPilot h .fast = s1.releasedPilot h .fast :=
      releasedPilot_congr (by rw [pilots]; rfl) (outer_now (countPulse_fillOnly tk h (s.advance t)).others.outer)
    refine ⟨_, pulse (by rw [fast]; rfl) (by rw [fast]; exact crossing_fast_switch close switch) (by decide), ?_, ?_,
      only.others, only.members, only.attentionLine⟩
    · rw [head_switch (phase.trans fast), released, head, show (s.advance t).phase h = .fast from fast]; rfl
    · rw [entryOf_switch]
      exact entryWithout_congr (entryOf_countPulse tk h (s.advance t)) (by rw [head]; rfl)
  · have counting : (s.phase h).counting = true := by obtain e | e := metered <;> rw [e] <;> rfl
    have settled := closeCrossing_settled (by rw [phase]; exact metered) ticket
    rw [phase] at settled
    exact ⟨_, pulse counting (crossing_close metered close) (by decide), settled.of_countPulse (metered.imp_right .inl)⟩
  · exact ⟨_, pulse (by rw [topup]; rfl) (by rw [topup]; exact crossing_topup_close close) (by decide),
      (topUpClose_settled (phase.trans topup) ticket).of_countPulse (.inr (.inr topup))⟩

end Sys2Proof.Machine
end

section
/-! SUPPORT. The flow at rest (R91): the sample of the first settle, TOPUP, and dose end out of SETTLE (R70, R71, R73, R93, R103). -/

namespace Sys2Proof.Machine

section Still
variable {h : HeadId} {s u : State} {tk : Ticket}

/-! ## The two settles -/

theorem flowStill_second (settling : s.phase h = .settle) (second : (s.head h).seq.settle = .second) (held : (s.head h).ticket = some tk) :
    flowStill h s = doseEnd h s := by
  simp only [flowStill, settling, second, held]

theorem flowStill_topUp (settling : s.phase h = .settle) (first : (s.head h).seq.settle = .first) (held : (s.head h).ticket = some tk)
    (met : tk.topUpCounts (s.head h).seq.closeByPassed = true ∧ tk.topUpMet = true) :
    flowStill h s = enterTopUp h (modTicket h Ticket.recordSample s) := by
  simp only [flowStill, settling, first, held]
  exact if_pos met

theorem flowStill_ends (settling : s.phase h = .settle) (first : (s.head h).seq.settle = .first) (held : (s.head h).ticket = some tk)
    (unmet : ¬(tk.topUpCounts (s.head h).seq.closeByPassed = true ∧ tk.topUpMet = true)) :
    flowStill h s = doseEnd h (modTicket h Ticket.recordSample s) := by
  simp only [flowStill, settling, first, held]
  exact if_neg unmet

/-- The top-up test counts and is met (R73, R91). -/
theorem topUp_iff (tk : Ticket) (passed : Bool) : (tk.topUpCounts passed = true ∧ tk.topUpMet = true) ↔
    tk.snapshot.recipe.topUp = true ∧ tk.forced = false ∧ tk.toppedUp = false ∧ passed = false ∧
      (((tk.d + 128) / 256 : Nat) : Int) < (tk.snapshot.recipe.vt : Int) + tk.snapshot.t - tk.snapshot.recipe.u := by
  have below : tk.topUpMet = true ↔
      (((tk.d + 128) / 256 : Nat) : Int) < (tk.snapshot.recipe.vt : Int) + tk.snapshot.t - tk.snapshot.recipe.u :=
    decide_eq_true_iff
  simp only [Ticket.topUpCounts, below, Bool.and_eq_true, Bool.not_eq_true', and_assoc]

/-! ## Out of SETTLE -/

/-- A sequencer with its flow-still and settle-limit timers stopped, as it leaves SETTLE (R78). -/
def Sequencer.rested (p : Phase) (q : Sequencer) : Sequencer :=
  { q with phase := p, timers := { q.timers with flowStill := none, settleLimit := none } }

/-- TOPUP entered out of SETTLE (R93). -/
theorem enterTopUp_setHead {y : Head} (settling : y.seq.phase = .settle) : enterTopUp h (setHead h y s) =
    queueOpen .topUp h (setHead h { y with
      seq := y.seq.rested .topup, ticket := y.ticket.map fun k => { k with toppedUp := true } } s) := by
  have queued (k : OpenKind) (z : Head) : queueOpen k h (setHead h z s) = setHead h z (queueOpen k h s) := rfl
  have left : y.seq.timers.leaving y.seq.phase .topup = (y.seq.rested .topup).timers := by rw [settling]; rfl
  rw [enterTopUp, modTicket, modHead_setHead, queued, queued, enterPhase, modSeq, modHead_setHead]
  simp only [left]; rfl

/-- Dose end out of SETTLE, from a state after which only the ticket was worked on and the flow-still timer stopped (R91, R103). -/
theorem doseEnd_settle (before : FillOnly h s u) (held : (u.head h).ticket = some tk) (settling : s.phase h = .settle)
    (seq : (u.head h).seq = { (s.head h).seq with timers := { (s.head h).seq.timers with flowStill := none } })
    (pilots : (u.head h).pilots = (s.head h).pilots) :
    DoseEnded h tk.judge (s.head h).causes (s.head h).record.service s (doseEnd h u) ∧
    ((doseEnd h u).head h).seq = (s.head h).seq.rested .snift ∧
    ((doseEnd h u).head h).pilots = { (s.head h).pilots with gas := s.releasedPilot h .gas } := by
  have works := plant_works (doseEnd_plant h u) h
  have gas : u.releasedPilot h .gas = s.releasedPilot h .gas := releasedPilot_congr (by rw [pilots]) (outer_now before.others.outer)
  have phase : (s.head h).seq.phase = .settle := settling
  refine ⟨.of_fillOnly before (doseEnd_doseEnded held), ?_, ?_⟩
  · rw [works_seq works, head_doseJudged]
    simp only [State.phase, seq, phase]; rfl
  · rw [works_pilots works, head_doseJudged]
    simp only [gas, pilots]; rfl

end Still

/-- Settles O16: TOPUP by `enterTopUp_setHead`, dose end by `doseEnd_settle`. -/
theorem flowStillEndsSettle : Obligations.FlowStillEndsSettle := by
  intro t due h s tk installed held settling running passed s' x sample sampled rested topUp ends
  have taken : exec (.flowStillExpiry t h) s = .next (arbitrate (flowStill h (stopTimer .flowStill h s'))) :=
    congrArg _ (takeExpiry_due (n := .flowStill) (s := s') installed running passed)
  let stopped : Sequencer := { x.seq with timers := { x.seq.timers with flowStill := none } }
  have stop : stopTimer .flowStill h s' = setHead h { x with seq := stopped } s' := rfl
  have head : (stopTimer .flowStill h s').head h = { x with seq := stopped } := by rw [stop, head_setHead_self]
  have phase : (stopTimer .flowStill h s').phase h = .settle := by rw [State.phase, head]; exact settling
  have ticket : ((stopTimer .flowStill h s').head h).ticket = some tk := by rw [head]; exact held
  have sampling : modTicket h Ticket.recordSample (stopTimer .flowStill h s') =
      setHead h { x with seq := stopped, ticket := some sampled } s' := by
    rw [stop, modTicket, modHead_setHead]
    simp only [x, held]; rfl
  have ending {tk' : Ticket} {o : Option Ticket} (kept : o = some tk')
      (still : flowStill h (stopTimer .flowStill h s') = doseEnd h (setHead h { x with seq := stopped, ticket := o } s')) : ends tk' := by
    have only : FillOnly h s' (setHead h { x with seq := stopped, ticket := o } s') := setHead_fillOnly h s' stopped x.pilots o
    have u := head_setHead_self h { x with seq := stopped, ticket := o } s'
    exact ⟨_, taken.trans (congrArg (fun v => Host.Outcome.next (arbitrate v)) still),
      doseEnd_settle only (by rw [u]; exact kept) settling (by rw [u]; rfl) (by rw [u]; rfl)⟩
  have met : (tk.topUpCounts ((stopTimer .flowStill h s').head h).seq.closeByPassed = true ∧ tk.topUpMet = true) ↔ topUp := by
    rw [head]; exact topUp_iff tk x.seq.closeByPassed
  refine ⟨fun first counts => ?_, fun first fails => ?_, fun second => ?_⟩
  · have still := flowStill_topUp phase (by rw [head]; exact first) ticket (met.mpr counts)
    rw [taken, still, sampling, enterTopUp_setHead (y := { x with seq := stopped, ticket := some sampled }) settling]; rfl
  · have still := flowStill_ends phase (by rw [head]; exact first) ticket (mt met.mp fails)
    rw [sampling] at still
    exact ending rfl still
  · exact ending held (flowStill_second phase (by rw [head]; exact second) ticket)

end Sys2Proof.Machine
end

section
/-! SUPPORT. The figures of dose end (R72, R74, R104): the reject reasons as a set, and what the judgement adds to it. -/

namespace Sys2Proof.Machine

/-! ## Sets of reasons (R197) -/

/-- The codes of the reasons are 0 to 14. -/
theorem Reason.exists_code {i : Nat} (lt : i < 15) : ∃ q : Reason, q.code = i :=
  ⟨Reason.ofNat i, (by decide : ∀ i < 15, (Reason.ofNat i).code = i) i lt⟩

/-- A set holds a reason added to it. -/
theorem bit_getLsbD (r q : Reason) : r.bit.getLsbD q.code = decide (q = r) := by
  cases r <;> cases q <;> decide

/-- No reason has code 15. -/
theorem bit_getLsbD_unused (r : Reason) : r.bit.getLsbD 15 = false := by cases r <;> decide

/-- A set whose unused bit is clear is empty where it holds no reason. -/
theorem reasons_eq_zero_iff {v : Half} (unused : v.getLsbD 15 = false) : v = 0#16 ↔ ∀ q : Reason, v.getLsbD q.code = false := by
  refine ⟨fun zero q => by rw [zero]; exact BitVec.getLsbD_zero, fun none => BitVec.eq_of_getLsbD_eq fun i lt => ?_⟩
  rw [BitVec.getLsbD_zero]
  obtain below | last : i < 15 ∨ i = 15 := by omega
  · obtain ⟨q, code⟩ := Reason.exists_code below
    rw [← code]; exact none q
  · rw [last]; exact unused

/-- A ticket is forced where it carries a reason other than LOW and HIGH. -/
theorem forced_iff {tk : Ticket} (unused : tk.reasons.getLsbD 15 = false) :
    tk.forced = true ↔ ∃ q : Reason, q ≠ .low ∧ q ≠ .high ∧ tk.has q = true := by
  have masked (q : Reason) : (tk.reasons &&& ~~~unforcedReasons).getLsbD q.code = false ↔ ¬(q ≠ .low ∧ q ≠ .high ∧ tk.has q = true) := by
    have mask : (~~~unforcedReasons).getLsbD q.code = decide (q ≠ .low ∧ q ≠ .high) := by cases q <;> decide
    rw [BitVec.getLsbD_and, mask, ← Ticket.has]
    cases tk.has q <;> simp
  have clear : (tk.reasons &&& ~~~unforcedReasons).getLsbD 15 = false := by rw [BitVec.getLsbD_and, unused, Bool.false_and]
  rw [Ticket.forced, decide_eq_true_iff, Ne, reasons_eq_zero_iff clear, not_forall]
  exact exists_congr fun q => by rw [masked, not_not]

/-! ## The judgement (R74, R104) -/

section Judged
variable {tk : Ticket}

theorem toleranceReasons_unused (unused : tk.reasons.getLsbD 15 = false) : tk.toleranceReasons.getLsbD 15 = false := by
  have test (c : Bool) (r : Reason) : (if c then r.bit else 0#16).getLsbD 15 = false := by
    split
    · exact bit_getLsbD_unused r
    · rfl
  unfold Ticket.toleranceReasons
  split
  · exact unused
  · rw [BitVec.getLsbD_or, BitVec.getLsbD_or, unused, test, test]; rfl

/-- The judged ticket carries the reasons it had and, without a forced one, LOW and HIGH as the tolerance tests find them. -/
theorem judge_has_iff (tk : Ticket) (q : Reason) : tk.judge.has q = true ↔
    tk.has q = true ∨ tk.forced = false ∧ (q = .low ∧ tk.isLow = true ∨ q = .high ∧ tk.isHigh = true) := by
  have test (c : Bool) (r : Reason) : (if c then r.bit else 0#16).getLsbD q.code = true ↔ q = r ∧ c = true := by
    cases c
    · simp
    · simp [bit_getLsbD]
  have judged : tk.judge.has q = tk.toleranceReasons.getLsbD q.code := rfl
  rw [judged, Ticket.toleranceReasons]
  cases forced : tk.forced with
  | true => simp [Ticket.has]
  | false => simp only [Bool.false_eq_true, if_false, BitVec.getLsbD_or, Bool.or_eq_true, test, Ticket.has, true_and, or_assoc]

/-- The disposition is GOOD exactly where the judged ticket carries no reason. -/
theorem judge_good_iff (unused : tk.reasons.getLsbD 15 = false) : tk.judge.disposition = .good ↔ ∀ q : Reason, tk.judge.has q = false := by
  have good : tk.judge.disposition = .good ↔ tk.toleranceReasons = 0#16 := by
    simp only [Ticket.judge]
    split <;> simp [*]
  rw [good, reasons_eq_zero_iff (toleranceReasons_unused unused)]; rfl

theorem judge_disposition (tk : Ticket) : tk.judge.disposition = .good ∨ tk.judge.disposition = .reject := by
  simp only [Ticket.judge]
  split
  · exact .inl rfl
  · exact .inr rfl

end Judged

/-- Settles O12, by `forced_iff`, `judge_has_iff` and `judge_good_iff`. -/
theorem ticketJudgedAtDoseEnd : Obligations.TicketJudgedAtDoseEnd := by
  intro tk final r forced low high small
  have unused : tk.reasons.getLsbD 15 = false := Nat.testBit_lt_two_pow small
  have standing : tk.forced = true ↔ forced := forced_iff unused
  have isLow : tk.isLow = true ↔ low := decide_eq_true_iff
  have isHigh : tk.isHigh = true ↔ high := decide_eq_true_iff
  refine ⟨rfl, standing, fun q => ?_, judge_good_iff unused, judge_disposition tk, rfl⟩
  rw [judge_has_iff, isLow, isHigh, ← Bool.not_eq_true, standing]

end Sys2Proof.Machine
end

section
/-! SUPPORT. Tags (R115) and the infeed crossing (R80, R81): the first free tag from the offered one on, and the container seated with
it. -/

namespace Sys2Proof.Machine

/-! ## The tags of the existing tickets -/

theorem tagHeld_iff (s : State) (tag : Tag) : s.tagHeld tag = true ↔ tag ∈ s.tags := by
  have held (x : Head) : (x.ticket.any fun k => decide (k.tag = tag)) = true ↔ ∃ k, x.ticket = some k ∧ k.tag = tag := by
    cases x.ticket <;> simp
  rw [State.tagHeld, Bool.or_eq_true, List.any_eq_true, List.any_eq_true]
  simp only [held, decide_eq_true_eq, State.tags, State.allTickets, List.map_append, List.map_map, List.map_filterMap, List.mem_append,
    List.mem_map, List.mem_filterMap, Option.map_map, Option.map_eq_some_iff, Function.comp]

/-- A live ticket per head at most, beside the transit list (R120). -/
theorem length_tags_le (s : State) : s.tags.length ≤ s.transit.length + 96 := by
  have live : (s.heads.toList.filterMap fun x => x.ticket.map fun k => (Location.live, k)).length ≤ 96 :=
    (List.length_filterMap_le _ _).trans (by simp)
  simp only [State.tags, State.allTickets, List.length_map, List.length_append]
  omega

/-! ## The first free tag (R115) -/

/-- The tag found lies some offers on; every tag passed over is held, and it is free unless the offers have run out. -/
theorem freeTag_spec (s : State) : ∀ (n : Nat) (tag : Tag), ∃ k ≤ n, s.freeTag n tag = tag + BitVec.ofNat 12 k ∧
    (∀ i < k, s.tagHeld (tag + BitVec.ofNat 12 i) = true) ∧ (k < n → s.tagHeld (tag + BitVec.ofNat 12 k) = false)
  | 0, tag => ⟨0, le_rfl, by simp [State.freeTag], fun i lt => absurd lt (Nat.not_lt_zero i), fun lt => absurd lt (Nat.lt_irrefl 0)⟩
  | n + 1, tag => by
    have next (i : Nat) : tag + 1 + BitVec.ofNat 12 i = tag + BitVec.ofNat 12 (i + 1) := by
      rw [BitVec.ofNat_add, BitVec.add_assoc, BitVec.add_comm 1]; rfl
    cases held : s.tagHeld tag with
    | false =>
      exact ⟨0, Nat.zero_le _, by simp [State.freeTag, held], fun i lt => absurd lt (Nat.not_lt_zero i), fun _ => by simpa using held⟩
    | true =>
      obtain ⟨k, le, found, passed, free⟩ := freeTag_spec s n (tag + 1)
      refine ⟨k + 1, Nat.succ_le_succ le, ?_, fun i lt => ?_, fun lt => ?_⟩
      · rw [State.freeTag, if_pos held, found, next]
      · cases i with
        | zero => simpa using held
        | succ i => rw [← next]; exact passed i (Nat.lt_of_succ_lt_succ lt)
      · rw [← next]; exact free (Nat.lt_of_succ_lt_succ lt)

/-- With at most 64 tickets in transit the next tag is the first one, from the offered one on, that no ticket holds. -/
theorem nextTag_spec {s : State} (room : s.transit.length ≤ 64) : s.nextTag ∉ s.tags ∧
    ∀ i : Nat, i < (s.nextTag - s.tagCounter).toNat → s.tagCounter + BitVec.ofNat 12 i ∈ s.tags := by
  obtain ⟨k, le, found, passed, free⟩ := freeTag_spec s 161 s.tagCounter
  have found : s.nextTag = s.tagCounter + BitVec.ofNat 12 k := found
  have passed (i : Nat) (lt : i < k) : s.tagCounter + BitVec.ofNat 12 i ∈ s.tags := (tagHeld_iff s _).mp (passed i lt)
  have few : k ≤ 160 := by
    let offers := (List.range k).map fun i => s.tagCounter + BitVec.ofNat 12 i
    have distinct : offers.Nodup := List.nodup_range.map_on fun i hi j hj e => by
      have := congrArg BitVec.toNat (((BitVec.add_right_inj _).mp e))
      simp only [BitVec.toNat_ofNat, List.mem_range] at this hi hj
      omega
    have within : offers ⊆ s.tags := fun tag mem => by
      obtain ⟨i, lt, rfl⟩ := List.mem_map.mp mem
      exact passed i (List.mem_range.mp lt)
    have count : offers.length = k := by simp [offers]
    have := (distinct.subperm within).length_le
    have := length_tags_le s
    omega
  have offset : (s.nextTag - s.tagCounter).toNat = k := by
    rw [found, BitVec.add_comm, BitVec.add_sub_cancel, BitVec.toNat_ofNat]
    omega
  refine ⟨fun held => ?_, fun i lt => passed i (offset ▸ lt)⟩
  have unheld := free (Nat.lt_succ_of_le few)
  rw [← found, (tagHeld_iff s _).mpr held] at unheld
  cases unheld

/-! ## Seating -/

/-- A container is seated: the latch CLEAR, the sequencer's items at their start, a new ticket (R64, R81, R114). -/
theorem seat_eq {h : HeadId} {s : State} {n : SlotId} {rev : Revision} (assigned : (s.head h).record.slot = some n)
    (used : s.usedRevision h = some rev) : seat h s = putTagCounter (s.nextTag + 1) (setHead h { s.head h with
      record := { (s.head h).record with presenceReleased := false }
      seq := { Sequencer.powerOn with phase := .seated, timers := (s.head h).seq.timers }
      ticket := some (newTicket s.nextTag h n (s.head h).record rev) } s) := by
  unfold seat
  split
  next n' rev' assigned' used' =>
    obtain rfl := Option.some.inj (assigned'.symm.trans assigned)
    obtain rfl := Option.some.inj (used'.symm.trans used)
    rfl
  next other => exact absurd used (other n rev assigned)

/-- Settles O19: the seating by `seat_eq`, its tag by `nextTag_spec`. -/
theorem infeedCrossingSeats : Obligations.InfeedCrossingSeats := by
  intro h s x r here
  refine ⟨fun n rev seats released assigned used => ⟨s.nextTag, ?_, nextTag_spec⟩, fun stuck latched => ?_, fun other => if_neg other⟩
  · have crossing : infeedCrossing h s = seat h s := (if_pos seats).trans (if_pos released)
    rw [crossing, seat_eq assigned used]; rfl
  · have crossing : infeedCrossing h s = raisePresenceStuck h s := (if_pos stuck).trans (if_neg (by rw [latched]; decide))
    rw [crossing]; rfl

end Sys2Proof.Machine
end

section
/-! SUPPORT. What ties a head's ticket, pilots and queued opens to its phase (R79, R81, R165), head by head; the events that keep it because
they leave the phases; and how a head that is made ready for a phase enters it. -/

namespace Sys2Proof.Machine

/-! ## The three invariants -/

/-- The head has a live ticket exactly when its phase is not EMPTY (R81). -/
def TicketFits (h : HeadId) (s : State) : Prop := (s.head h).ticket.isSome = true ↔ s.phase h ≠ .empty

/-- The head's pilots are energised, and its opens queued, only as its phase allows (R79). -/
structure PilotsFit (h : HeadId) (s : State) : Prop where
  allowed : ∀ p, s.energised h p = true → pilotAllowed p (s.phase h) = true
  opens : ∀ e ∈ s.pilotQueue, e.head = h → s.phase h = e.kind.phase ∧ ∀ p ∈ e.kind.pilots, s.energised h p = false

theorem pilotsFollowPhases_iff {s : State} : PilotsFollowPhases s ↔ ∀ h, PilotsFit h s := by
  constructor
  · rintro ⟨allowed, opens⟩ h
    exact ⟨allowed h, fun e mem mine => mine ▸ opens e mem⟩
  · exact fun fits => ⟨fun h => (fits h).allowed, fun e mem => (fits e.head).opens e mem rfl⟩

/-- Pilots that go OFF and opens that leave the queue keep the rest fitting. -/
theorem PilotsFit.less {h : HeadId} {s t : State} (fits : PilotsFit h s) (phase : t.phase h = s.phase h)
    (pilots : ∀ p, t.energised h p = true → s.energised h p = true)
    (queue : ∀ e ∈ t.pilotQueue, e.head = h → e ∈ s.pilotQueue) : PilotsFit h t where
  allowed p on := by rw [phase]; exact fits.allowed p (pilots p on)
  opens e mem mine := by
    obtain ⟨phase', off⟩ := fits.opens e (queue e mem mine) mine
    exact ⟨phase.trans phase', fun p named => Bool.eq_false_iff.mpr fun on => Bool.false_ne_true ((off p named).symm.trans (pilots p on))⟩

/-- What an event leaves of another head fits as it did. -/
theorem ticketFits_apart {h j : HeadId} {s t : State} (apart : t.elsewhere h = s.elsewhere h) (ne : j ≠ h) (fits : TicketFits j s) :
    TicketFits j t := by
  have works := works_of_elsewhere apart ne
  rw [TicketFits, works_ticket works, phase_of_works works]; exact fits
theorem pilotsFit_apart {h j : HeadId} {s t : State} (apart : t.elsewhere h = s.elsewhere h) (ne : j ≠ h) (fits : PilotsFit j s) :
    PilotsFit j t := by
  have works := works_of_elsewhere apart ne
  refine fits.less (phase_of_works works) (by rw [energised_of_works works]; exact fun _ => id) fun e mem mine => ?_
  have other : e ∈ t.pilotQueue.filter (fun x => decide (x.head ≠ h)) := List.mem_filter.mpr ⟨mem, decide_eq_true (mine ▸ ne)⟩
  rw [queue_of_elsewhere apart] at other
  exact (List.mem_filter.mp other).1

/-- The event keeps the queue in order, and every head's ticket, pilots and opens fitting its phase. -/
structure Orderly (s t : State) : Prop where
  queue : QueueSorted s → QueueSorted t
  ticket : ∀ h, TicketFits h s → TicketFits h t
  pilots : ∀ h, PilotsFit h s → PilotsFit h t

theorem Orderly.refl (s : State) : Orderly s s := ⟨id, fun _ => id, fun _ => id⟩

theorem Orderly.trans {s t u : State} (a : Orderly s t) (b : Orderly t u) : Orderly s u :=
  ⟨fun sorted => b.queue (a.queue sorted), fun h fits => b.ticket h (a.ticket h fits), fun h fits => b.pilots h (a.pilots h fits)⟩

/-- An event of one head is judged by what it makes of that head and of the queue's order. -/
theorem Orderly.of_apart {h : HeadId} {s t : State} (apart : t.elsewhere h = s.elsewhere h) (queue : QueueSorted s → QueueSorted t)
    (ticket : TicketFits h s → TicketFits h t) (pilots : PilotsFit h s → PilotsFit h t) : Orderly s t where
  queue := queue
  ticket j fits := if e : j = h then by subst e; exact ticket fits else ticketFits_apart apart e fits
  pilots j fits := if e : j = h then by subst e; exact pilots fits else pilotsFit_apart apart e fits

/-! ## Events that leave the phases -/

/-- No phase has changed and no ticket come or gone; pilots have at most gone OFF, opens at most been withdrawn. -/
structure Eased (s t : State) : Prop where
  phase : ∀ j, t.phase j = s.phase j
  ticket : ∀ j, (t.head j).ticket.isSome = (s.head j).ticket.isSome
  pilots : ∀ j p, t.energised j p = true → s.energised j p = true
  queue : t.pilotQueue.Sublist s.pilotQueue

theorem Eased.refl (s : State) : Eased s s := ⟨fun _ => rfl, fun _ => rfl, fun _ _ => id, .refl _⟩

theorem Eased.trans {s t u : State} (a : Eased s t) (b : Eased t u) : Eased s u where
  phase j := (b.phase j).trans (a.phase j)
  ticket j := (b.ticket j).trans (a.ticket j)
  pilots j p on := a.pilots j p (b.pilots j p on)
  queue := b.queue.trans a.queue

theorem Eased.off {s t : State} (e : Eased s t) {h : HeadId} {p : Pilot} (off : s.energised h p = false) : t.energised h p = false :=
  Bool.eq_false_iff.mpr fun on => Bool.false_ne_true (off.symm.trans (e.pilots h p on))

theorem Eased.ticketFits {s t : State} (e : Eased s t) {h : HeadId} (fits : TicketFits h s) : TicketFits h t := by
  rw [TicketFits, e.ticket, e.phase]; exact fits

theorem Eased.pilotsFit {s t : State} (e : Eased s t) {h : HeadId} (fits : PilotsFit h s) : PilotsFit h t :=
  fits.less (e.phase h) (e.pilots h) fun _ mem _ => e.queue.subset mem

theorem Eased.orderly {s t : State} (e : Eased s t) : Orderly s t :=
  ⟨queueSorted_of_sublist e.queue, fun _ => e.ticketFits, fun _ => e.pilotsFit⟩

theorem Eased.of_works {s t : State} (works : ∀ j, (t.head j).works = (s.head j).works) (queue : t.pilotQueue = s.pilotQueue) :
    Eased s t where
  phase j := phase_of_works (works j)
  ticket j := congrArg Option.isSome (works_ticket (works j))
  pilots j p on := by rwa [energised_of_works (works j)] at on
  queue := by rw [queue]

theorem Eased.of_plant {s t : State} (e : t.plant = s.plant) : Eased s t := .of_works (plant_works e) (plant_queue e)

theorem Eased.of_same {s t : State} (heads : t.heads = s.heads) (queue : t.pilotQueue = s.pilotQueue) : Eased s t :=
  .of_works (fun j => by rw [State.head, State.head, heads]) queue

theorem energised_iff {h : HeadId} {p : Pilot} {s : State} : s.energised h p = true ↔ ((s.head h).pilots.get p).state ≠ .off :=
  decide_eq_true_iff

theorem Orderly.of_same {s t : State} (heads : t.heads = s.heads) (queue : t.pilotQueue = s.pilotQueue) : Orderly s t :=
  (Eased.of_same heads queue).orderly

/-- A change of one head that leaves its phase and whether it has a ticket, and energises no pilot. -/
theorem modHead_eased {h : HeadId} {f : Head → Head} {s : State} (phase : (f (s.head h)).seq.phase = s.phase h)
    (ticket : (f (s.head h)).ticket.isSome = (s.head h).ticket.isSome)
    (pilots : ∀ p, ((s.head h).pilots.get p).state = .off → ((f (s.head h)).pilots.get p).state = .off) : Eased s (modHead h f s) := by
  refine ⟨fun j => ?_, fun j => ?_, fun j p => ?_, .refl _⟩ <;> by_cases e : j = h
  · rw [State.phase, e, head_modHead_self]; exact phase
  · rw [State.phase, head_modHead_ne e]; rfl
  · rw [e, head_modHead_self]; exact ticket
  · rw [head_modHead_ne e]
  · subst e
    rw [energised_iff, energised_iff, head_modHead_self]
    exact mt (pilots p)
  · rw [State.energised, State.pilot, head_modHead_ne e]; exact id

theorem modSeq_eased {h : HeadId} {f : Sequencer → Sequencer} {s : State} (phase : ∀ q, (f q).phase = q.phase := by intro; rfl) :
    Eased s (modSeq h f s) := modHead_eased (phase _) rfl fun _ => id
theorem modTicket_eased (h : HeadId) (f : Ticket → Ticket) (s : State) : Eased s (modTicket h f s) :=
  modHead_eased rfl Option.isSome_map fun _ => id
theorem modPilots_eased {h : HeadId} {f : Pilots → Pilots} {s : State}
    (pilots : ∀ p, ((s.head h).pilots.get p).state = .off → ((f (s.head h).pilots).get p).state = .off) : Eased s (modPilots h f s) :=
  modHead_eased rfl rfl pilots
theorem modRecord_eased (h : HeadId) (f : HeadRecord → HeadRecord) (s : State) : Eased s (modRecord h f s) :=
  .of_plant (modRecord_plant h f s)
theorem changeCauses_eased (h : HeadId) (f : Causes → Causes) (s : State) : Eased s (changeCauses h f s) :=
  .of_plant (changeCauses_plant h f s)
theorem changeGlobals_eased (f : Globals → Globals) (s : State) : Eased s (changeGlobals f s) := .of_same rfl rfl

theorem startTimer_eased (n : TimerName) (h : HeadId) (s : State) : Eased s (startTimer n h s) := by
  unfold startTimer; split
  · exact .refl s
  · exact modSeq_eased
theorem stopTimer_eased (n : TimerName) (h : HeadId) (s : State) : Eased s (stopTimer n h s) := modSeq_eased

theorem withdraw_eased (h : HeadId) (s : State) : Eased s (withdraw h s) :=
  ⟨fun _ => rfl, fun _ => rfl, fun _ _ => id, List.filter_sublist⟩

/-- After a release the pilot is off, and every other pilot as before. -/
theorem energised_release (p q : Pilot) (h : HeadId) (s : State) :
    (release p h s).energised h q = true ↔ q ≠ p ∧ s.energised h q = true := by
  rw [energised_iff, get_release]
  by_cases mine : q = p
  · have off : (s.releasedPilot h p).state = .off := by
      unfold State.releasedPilot; split
      · rfl
      next off => exact not_not.mp (mt energised_iff.mpr off)
    rw [if_pos mine, off]
    exact iff_of_false (fun on => on rfl) fun both => both.1 mine
  · rw [if_neg mine, energised_iff]
    exact (and_iff_right mine).symm

theorem release_eased (p : Pilot) (h : HeadId) (s : State) : Eased s (release p h s) where
  phase j := phase_release p h j s
  ticket j := by
    by_cases e : j = h
    · rw [e, head_release]
    · rw [head_release_ne e]
  pilots j q on := by
    by_cases e : j = h
    · subst e; exact ((energised_release p q j s).mp on).2
    · rwa [State.energised, State.pilot, head_release_ne e] at on
  queue := release_sublist p h s

theorem releaseFill_eased (h : HeadId) (s : State) : Eased s (releaseFill h s) := (release_eased .fast h s).trans (release_eased .slow h _)

theorem forInstalled_orderly {f : HeadId → State → State} (hf : ∀ h s, Orderly s (f h s)) (s : State) : Orderly s (forInstalled f s) :=
  forInstalled_keeps (P := Orderly s) (fun h u e => e.trans (hf h u)) (.refl s)

/-! ## Ready for a phase -/

/-- The head's energised pilots are among those the phase allows, and it has no open queued. -/
structure Ready (p : Phase) (h : HeadId) (s : State) : Prop where
  pilots : ∀ q, s.energised h q = true → pilotAllowed q p = true
  unqueued : ∀ e ∈ s.pilotQueue, e.head ≠ h

theorem Ready.fits {h : HeadId} {s : State} (e : Ready (s.phase h) h s) : PilotsFit h s :=
  ⟨e.pilots, fun x mem mine => absurd mine (e.unqueued x mem)⟩

/-- In a phase in which no open may be queued the head has none. -/
theorem PilotsFit.ready {p : Phase} {h : HeadId} {s : State} (fits : PilotsFit h s) (phase : s.phase h = p)
    (noOpen : ∀ k : OpenKind, k.phase ≠ p := by intro k; cases k <;> decide) : Ready p h s :=
  ⟨fun q on => phase ▸ fits.allowed q on, fun e mem mine => noOpen e.kind ((fits.opens e mem mine).1.symm.trans phase)⟩

theorem Ready.eased {p : Phase} {h : HeadId} {s t : State} (r : Ready p h s) (e : Eased s t) : Ready p h t :=
  ⟨fun q on => r.pilots q (e.pilots h q on), fun x mem => r.unqueued x (e.queue.subset mem)⟩

theorem Ready.off {p : Phase} {q : Pilot} {h : HeadId} {s : State} (r : Ready p h s) (barred : pilotAllowed q p = false := by rfl) :
    s.energised h q = false :=
  Bool.eq_false_iff.mpr fun on => Bool.false_ne_true (barred.symm.trans (r.pilots q on))

/-- Ready for one phase and with pilots off, the head is ready for another that bars those pilots alone. -/
theorem Ready.change {p p' : Phase} {h : HeadId} {s : State} (r : Ready p h s)
    (pilots : ∀ q, s.energised h q = true → pilotAllowed q p = true → pilotAllowed q p' = true) : Ready p' h s :=
  ⟨fun q on => pilots q on (r.pilots q on), r.unqueued⟩

/-- A release withdraws the head's opens where each of them names the pilot. -/
theorem release_unqueued {p : Pilot} {h : HeadId} {s : State} (fits : PilotsFit h s)
    (named : ∀ k : OpenKind, k.phase = s.phase h → p ∈ k.pilots) : ∀ e ∈ (release p h s).pilotQueue, e.head ≠ h := by
  have names (e : Entry) (mem : e ∈ s.pilotQueue) (mine : e.head = h) : p ∈ e.kind.pilots := named e.kind (fits.opens e mem mine).1.symm
  intro e mem mine
  have before : e ∈ s.pilotQueue := (release_sublist p h s).subset mem
  have off : s.energised h p = false := (fits.opens e before mine).2 p (names e before mine)
  have queued : s.entryOf h ≠ none := fun none => by simpa [mine] using List.find?_eq_none.mp none e before
  obtain ⟨x, found⟩ := Option.ne_none_iff_exists'.mp queued
  have contains : x.kind.pilots.contains p = true :=
    List.contains_iff_mem.mpr (names x (List.mem_of_find?_eq_some found) (by simpa using List.find?_some found))
  have withdrawn : release p h s = withdraw h s := by
    simp only [release, off, Bool.false_eq_true, if_false, found, contains, if_true]
  rw [withdrawn] at mem
  exact of_decide_eq_true (List.mem_filter.mp mem).2 mine

/-- After a release the head is ready for a phase that allows its other energised pilots, where its opens all named the pilot. -/
theorem release_ready {p : Pilot} {p' : Phase} {h : HeadId} {s : State} (fits : PilotsFit h s)
    (named : ∀ k : OpenKind, k.phase = s.phase h → p ∈ k.pilots)
    (left : ∀ q, q ≠ p → s.energised h q = true → pilotAllowed q p' = true) : Ready p' h (release p h s) where
  pilots q on := have ⟨other, before⟩ := (energised_release p q h s).mp on; left q other before
  unqueued := release_unqueued fits named

/-! ## Entering a phase -/

theorem ticket_enterPhase (p : Phase) (h : HeadId) (s : State) : ((enterPhase p h s).head h).ticket = (s.head h).ticket := by
  rw [enterPhase, modSeq, head_modHead_self]

theorem energised_enterPhase (p : Phase) (h : HeadId) (s : State) (q : Pilot) : (enterPhase p h s).energised h q = s.energised h q :=
  energised_congr (by rw [enterPhase, modSeq, head_modHead_self])

theorem enterPhase_fits {p : Phase} {h : HeadId} {s : State} (r : Ready p h s) : PilotsFit h (enterPhase p h s) :=
  Ready.fits (by rw [enterPhase_phase]; exact ⟨fun q => by rw [energised_enterPhase]; exact r.pilots q, r.unqueued⟩)

/-- A head with a container that has been made ready for a phase enters it. -/
theorem Orderly.entering {p : Phase} {h : HeadId} {s u : State} (before : s.phase h ≠ .empty) (after : p ≠ .empty) (e : Eased s u)
    (ready : PilotsFit h s → Ready p h u) : Orderly s (enterPhase p h u) where
  queue := queueSorted_of_sublist (s := s) e.queue
  ticket j fits := by
    by_cases mine : j = h
    · subst mine
      rw [TicketFits, ticket_enterPhase, enterPhase_phase, e.ticket]
      exact fits.trans ⟨fun _ => after, fun _ => before⟩
    · exact ticketFits_apart (enterPhase_elsewhere p h u) mine (e.ticketFits fits)
  pilots j fits := by
    by_cases mine : j = h
    · subst mine; exact enterPhase_fits (ready fits)
    · exact pilotsFit_apart (enterPhase_elsewhere p h u) mine (e.pilotsFit fits)

/-- An open is queued in the phase that allows it while its pilots are off (R79). -/
theorem queueOpen_orderly {k : OpenKind} {h : HeadId} {s : State} (phase : s.phase h = k.phase)
    (off : PilotsFit h s → ∀ p ∈ k.pilots, s.energised h p = false) : Orderly s (queueOpen k h s) where
  queue := queueOpen_sorted
  ticket _ := id
  pilots j fits := ⟨fits.allowed, fun e mem mine => by
    obtain rfl | old := mem_insertEntry mem
    · subst mine; exact ⟨phase, off fits⟩
    · exact fits.opens e old mine⟩

/-- A head with a container enters a phase and queues its open there. -/
theorem Orderly.opening {k : OpenKind} {h : HeadId} {s u : State} (before : s.phase h ≠ .empty) (e : Eased s u)
    (ready : PilotsFit h s → Ready k.phase h u) (off : PilotsFit h s → ∀ p ∈ k.pilots, u.energised h p = false) :
    Orderly s (queueOpen k h (enterPhase k.phase h u)) := by
  have entered : Orderly s (enterPhase k.phase h u) := .entering before (by cases k <;> decide) e ready
  refine ⟨fun sorted => queueOpen_sorted (entered.queue sorted), entered.ticket, fun j fits => ?_⟩
  by_cases mine : j = h
  · subst mine
    refine (queueOpen_orderly (enterPhase_phase k.phase j u) fun _ p named => ?_).pilots j (entered.pilots j fits)
    rw [energised_enterPhase]; exact off fits p named
  · exact pilotsFit_apart (queueOpen_elsewhere k h _) mine (entered.pilots j fits)

end Sys2Proof.Machine
end

section
/-! SUPPORT. The fill sequence and the grants keep ticket, pilots and opens with the phase (R79, R81, R165). -/

namespace Sys2Proof.Machine

/-! ## Work that leaves the phase -/

theorem closeIfMetered_eased (h : HeadId) (s : State) : Eased s (closeIfMetered h s) := by
  unfold closeIfMetered; split
  · exact modTicket_eased h _ s
  · exact .refl s

theorem pulseTimers_eased (h : HeadId) (s : State) : Eased s (pulseTimers h s) := by
  have restarted : Eased s (startTimer .stall h (stopTimer .startFlow h s)) := (stopTimer_eased _ h s).trans (startTimer_eased _ h _)
  unfold pulseTimers; split
  · exact restarted
  · exact restarted
  · split
    · exact restarted
    · exact .refl s
  · exact startTimer_eased _ h s
  all_goals exact .refl s

theorem countPulse_eased {tk : Ticket} {h : HeadId} {s : State} (held : (s.head h).ticket = some tk) : Eased s (countPulse tk h s) :=
  (modHead_eased rfl (by rw [held]; rfl) fun _ => id).trans (pulseTimers_eased h _)

theorem raiseEquipment_eased (d : EquipmentDetail) (h : HeadId) (s : State) : Eased s (raiseEquipment d h s) :=
  .of_plant (raiseEquipment_plant d h s)

/-! ## Dose end and forced endings -/

/-- Dose end with FAST, SLOW and SNIFT off and no open queued (R103). -/
theorem doseEnd_orderly {h : HeadId} {s u : State} (before : s.phase h ≠ .empty) (e : Eased s u)
    (ready : PilotsFit h s → Ready .settle h u) : Orderly s (doseEnd h u) := by
  have released : Eased u (release .gas h (modTicket h Ticket.judge u)) := (modTicket_eased h _ u).trans (release_eased .gas h _)
  have allOff (fits : PilotsFit h s) : Ready .done h (release .gas h (modTicket h Ticket.judge u)) :=
    ((ready fits).eased released).change fun q on settle => by
      have notGas := ((energised_release .gas q h _).mp on).1
      revert notGas settle; cases q <;> decide
  have judged : Orderly s (doseJudged h u) := .opening (k := .snift) before (e.trans released)
    (fun fits => (allOff fits).change fun q _ none => by revert none; cases q <;> decide)
    (fun fits p named => by rw [List.mem_singleton.mp named]; exact (allOff fits).off)
  exact judged.trans (Eased.of_plant (doseEnd_plant h u)).orderly

theorem gasLeft_off {h : HeadId} {p : Pilot} {s t : State} (pilots : (t.head h).pilots = s.gasLeft h) (ne : p ≠ .gas) :
    t.energised h p = false := by
  have released (q : Pilot) : (s.releasedPilot h q).state = .off := by
    unfold State.releasedPilot; split
    · rfl
    next off => exact not_not.mp (mt energised_iff.mpr off)
  refine Bool.eq_false_iff.mpr fun on => energised_iff.mp on ?_
  rw [pilots]
  cases p with
  | gas => exact absurd rfl ne
  | fast => exact released .fast
  | slow => exact released .slow
  | snift => exact released .snift

theorem forcePrepared_eased (r : Reason) (h : HeadId) (s : State) : Eased s (forcePrepared r h s) :=
  (modTicket_eased h _ s).trans <| (releaseFill_eased h _).trans <| (release_eased .snift h _).trans <| (withdraw_eased h _).trans <|
    (modSeq_eased (f := fun q => { q with timers := .stopped })).trans (closeIfMetered_eased h _)

theorem forcePrepared_ready (r : Reason) (h : HeadId) (s : State) : Ready .settle h (forcePrepared r h s) where
  pilots q on := by
    have pilots : ((forcePrepared r h s).head h).pilots = s.gasLeft h := by rw [head_forcePrepared]
    by_cases gas : q = .gas
    · rw [gas]; rfl
    · rw [gasLeft_off pilots gas] at on; cases on
  unqueued e mem := by
    have withdrawn (u : State) (mem : e ∈ (stopTimers h (withdraw h u)).pilotQueue) : e.head ≠ h :=
      of_decide_eq_true (List.mem_filter.mp mem).2
    exact withdrawn _ ((closeIfMetered_eased h _).queue.subset mem)

theorem forceToSnift_orderly (r : Reason) (h : HeadId) (s : State) : Orderly s (forceToSnift r h s) := by
  cases filling : (s.phase h).filling with
  | false => rw [forceToSnift_other filling]; exact .refl s
  | true =>
    rw [forceToSnift_filling filling]
    exact doseEnd_orderly (Phase.ne_empty_of_filling filling) (forcePrepared_eased r h s) fun _ => forcePrepared_ready r h s

theorem equipmentEnding_orderly (d : EquipmentDetail) (r : Reason) (h : HeadId) (s : State) : Orderly s (equipmentEnding d r h s) :=
  (raiseEquipment_eased d h s).orderly.trans (forceToSnift_orderly r h _)

/-- Dose end out of SETTLE, where only GAS may be energised and no open queued (R91, R96). -/
theorem doseEnd_settle_orderly {h : HeadId} {s u : State} (settle : s.phase h = .settle) (e : Eased s u) : Orderly s (doseEnd h u) :=
  doseEnd_orderly (by rw [settle]; decide) e fun fits => (fits.ready settle).eased e

/-! ## SETTLE entered -/

/-- The head enters SETTLE out of FAST, SLOW or TOPUP (R90). -/
theorem enterSettle_orderly {w : Settle} {h : HeadId} {s u : State} (before : s.phase h ≠ .empty) (e : Eased s u)
    (ready : PilotsFit h s → Ready .settle h u) : Orderly s (enterSettle w h u) :=
  (Orderly.entering before (by decide) e ready).trans <| Eased.orderly <|
    (modSeq_eased (f := fun q => { q with settle := w })).trans ((startTimer_eased _ h _).trans (startTimer_eased _ h _))

/-- With FAST off, the release of SLOW makes a metered head, or one in TOPUP, ready for SETTLE. -/
theorem releaseSlow_ready {h : HeadId} {s : State} (flowing : s.phase h = .fast ∨ s.phase h = .slow ∨ s.phase h = .topup)
    (fastOff : s.energised h .fast = false) (fits : PilotsFit h s) : Ready .settle h (release .slow h s) := by
  refine release_ready fits (fun k phase => ?_) fun q other on => ?_
  · obtain e | e | e := flowing <;> rw [e] at phase <;> revert phase <;> cases k <;> decide
  · have notFast : q ≠ .fast := fun e => by rw [e, fastOff] at on; cases on
    have allowed := fits.allowed q on
    revert other notFast allowed
    obtain e | e | e := flowing <;> rw [e] <;> cases q <;> decide

theorem releaseFill_ready {h : HeadId} {s : State} (flowing : s.phase h = .fast ∨ s.phase h = .slow ∨ s.phase h = .topup)
    (fits : PilotsFit h s) : Ready .settle h (releaseFill h s) :=
  releaseSlow_ready (by rw [phase_release]; exact flowing)
    (Bool.eq_false_iff.mpr fun on => ((energised_release .fast .fast h s).mp on).1 rfl) ((release_eased .fast h s).pilotsFit fits)

/-- Both fill pilots released, the head enters SETTLE. -/
theorem releaseFill_settle_orderly {w : Settle} {h : HeadId} {s u v : State}
    (flowing : s.phase h = .fast ∨ s.phase h = .slow ∨ s.phase h = .topup) (before : Eased s u) (after : Eased (releaseFill h u) v) :
    Orderly s (enterSettle w h v) := by
  refine enterSettle_orderly ?_ (before.trans ((releaseFill_eased h u).trans after)) fun fits => ?_
  · obtain e | e | e := flowing <;> rw [e] <;> decide
  · exact (releaseFill_ready (by rw [before.phase]; exact flowing) (before.pilotsFit fits)).eased after

theorem forceToSettle_orderly (r : Reason) (h : HeadId) (s : State) : Orderly s (forceToSettle r h s) := by
  have settled (w : Settle) (flowing : s.phase h = .fast ∨ s.phase h = .slow ∨ s.phase h = .topup) : Orderly s (enterSettle w h
      (closeIfMetered h (stopTimer .stall h (stopTimer .startFlow h (releaseFill h (modTicket h (Ticket.addReason r) s)))))) :=
    releaseFill_settle_orderly flowing (modTicket_eased h _ s)
      ((stopTimer_eased _ h _).trans ((stopTimer_eased _ h _).trans (closeIfMetered_eased h _)))
  unfold forceToSettle; split
  next fast => exact settled _ (.inl fast)
  next slow => exact settled _ (.inr (.inl slow))
  next topup => exact settled _ (.inr (.inr topup))
  all_goals exact .refl s

/-! ## Counted pulses -/

/-- The switch crossing: FAST released, SLOW entered (R87). -/
theorem switch_orderly {h : HeadId} {s : State} (fast : s.phase h = .fast) : Orderly s (enterPhase .slow h (release .fast h s)) :=
  .entering (by rw [fast]; decide) (by decide) (release_eased .fast h s) fun fits =>
    ((fits.ready fast).eased (release_eased .fast h s)).change
    fun q on allowed => by
      have notFast := ((energised_release .fast q h s).mp on).1
      revert notFast allowed; cases q <;> decide

theorem closeCrossing_orderly {h : HeadId} {s : State} (metered : s.phase h = .fast ∨ s.phase h = .slow) : Orderly s (closeCrossing h s) :=
  releaseFill_settle_orderly (metered.imp_right .inl) (modTicket_eased h _ s) (.refl _)

theorem topUpClose_orderly {h : HeadId} {s : State} (topup : s.phase h = .topup) :
    Orderly s (enterSettle .second h (release .slow h s)) :=
  enterSettle_orderly (by rw [topup]; decide) (release_eased .slow h s) fun fits =>
    releaseSlow_ready (.inr (.inr topup))
      (Bool.eq_false_iff.mpr fun on => absurd (fits.allowed .fast on) (by rw [topup]; decide)) fits

/-- The phases in which a pulse hands over each crossing (R65). -/
theorem crossing_phase (tk : Ticket) (p : Phase) : (tk.crossing p = .switch → p = .fast) ∧
    (tk.crossing p = .close → p = .fast ∨ p = .slow) ∧ (tk.crossing p = .topUpClose → p = .topup) := by
  cases p <;> simp only [Ticket.crossing] <;> (try split) <;> (try split) <;> simp

theorem takeDoseCrossing_orderly (k : Ticket) {h : HeadId} {s : State} : Orderly s (takeDoseCrossing (k.crossing (s.phase h)) h s) := by
  obtain ⟨switch, close, topUpClose⟩ := crossing_phase k (s.phase h)
  cases c : k.crossing (s.phase h) with
  | none => exact .refl s
  | switch => exact switch_orderly (switch c)
  | close => exact closeCrossing_orderly (close c)
  | topUpClose => exact topUpClose_orderly (topUpClose c)

/-! ## The end of settle and snift -/

theorem enterTopUp_orderly {h : HeadId} {s u : State} (settle : s.phase h = .settle) (e : Eased s u) : Orderly s (enterTopUp h u) := by
  have eased := e.trans (modTicket_eased h (fun tk => { tk with toppedUp := true }) u)
  have ready (fits : PilotsFit h s) := (fits.ready settle).eased eased
  exact .opening (k := .topUp) (by rw [settle]; decide) eased
    (fun fits => (ready fits).change fun q _ allowed => by revert allowed; cases q <;> decide)
    (fun fits p named => by rw [List.mem_singleton.mp named]; exact (ready fits).off)

theorem flowStill_orderly (h : HeadId) (s : State) : Orderly s (flowStill h s) := by
  have sampled := modTicket_eased h Ticket.recordSample s
  unfold flowStill; split
  next settle _ _ =>
    simp only
    split
    · exact enterTopUp_orderly settle sampled
    · exact doseEnd_settle_orderly settle sampled
  next settle _ _ => exact doseEnd_settle_orderly settle (.refl s)
  next => exact .refl s

/-- SNIFT released, a head in SNIFT has every pilot off and no open queued. -/
theorem releaseSnift_ready {p : Phase} {h : HeadId} {s : State} (snift : s.phase h = .snift) (fits : PilotsFit h s) :
    Ready p h (release .snift h s) := by
  refine release_ready fits (fun k phase => ?_) fun q other on => ?_
  · rw [snift] at phase; revert phase; cases k <;> decide
  · have allowed := fits.allowed q on
    rw [snift] at allowed
    revert other allowed; cases q <;> simp [pilotAllowed]

theorem sniftDone_orderly (h : HeadId) (s : State) : Orderly s (sniftDone h s) := by
  unfold sniftDone; split
  next snift =>
    have vented := modTicket_eased h (fun tk => { tk with headEnd := some .vented }) (release .snift h s)
    exact .entering (by rw [snift]; decide) (by decide) ((release_eased .snift h s).trans vented)
      fun fits => (releaseSnift_ready snift fits).eased vented
  next => exact .refl s

/-- In PRESSURIZE the FILL open may be queued (R79). -/
theorem queueFill_orderly {h : HeadId} {s : State} (pressurize : s.phase h = .pressurize) : Orderly s (queueOpen .fill h s) :=
  queueOpen_orderly pressurize fun fits p named => Bool.eq_false_iff.mpr fun on => by
    have allowed := fits.allowed p on
    rw [pressurize] at allowed
    revert named allowed; cases p <;> decide

/-- A head in PRESSURIZE is equalized and may queue its FILL open (R84). -/
theorem equalize_orderly {h : HeadId} {s : State} (pressurize : s.phase h = .pressurize) : Orderly s (equalize h s) := by
  have equalized : Eased s (stopTimer .equalize h (modSeq h (fun q => { q with equalized := true }) s)) :=
    (modSeq_eased).trans (stopTimer_eased _ h _)
  unfold equalize; simp only; split
  · exact equalized.orderly.trans (queueFill_orderly ((equalized.phase h).trans pressurize))
  · exact equalized.orderly

end Sys2Proof.Machine
end

section
/-! SUPPORT. Grants, crossings, pulses and tracker events keep ticket, pilots and opens with the phase (R79, R81, R165). -/

namespace Sys2Proof.Machine

/-! ## Grants (R83, R85, R93, R106, R169) -/

theorem gasGrant_orderly (h : HeadId) (s : State) : Orderly s (gasGrant h s) := by
  have granted : Eased s (startTimer .equalize h (modSeq h (fun q => { q with gasGranted := true }) s)) :=
    (modSeq_eased).trans (startTimer_eased _ h _)
  unfold gasGrant; simp only; split
  · exact granted.orderly.trans (equipmentEnding_orderly _ _ h _)
  · exact granted.orderly

/-- The phase of a head once its open has been granted: FAST after a FILL grant, otherwise the phase the open was queued in. -/
def OpenKind.granted : OpenKind → Phase
  | .gas => .pressurize | .fill => .fast | .topUp => .topup | .snift => .snift

/-- The phase after a grant allows the granted pilots, and every pilot that the phase before it allowed (R79). -/
theorem granted_allows (k : OpenKind) (q : Pilot) : q ∈ k.pilots ∨ pilotAllowed q k.phase = true → pilotAllowed q k.granted = true := by
  cases k <;> cases q <;> decide

theorem takeGrant_sorted (k : OpenKind) {h : HeadId} {s : State} (sorted : QueueSorted s) : QueueSorted (takeGrant k h s) := by
  have timed (n : TimerName) (u : State) (sorted : QueueSorted u) : QueueSorted (startTimer n h u) :=
    (startTimer_eased n h u).orderly.queue sorted
  unfold takeGrant; split
  · exact (gasGrant_orderly h s).queue sorted
  · exact timed _ _ sorted
  · exact timed _ _ sorted
  · exact timed _ _ sorted
  · exact sorted

theorem takeGrant_ticket (k : OpenKind) {h : HeadId} {s : State} (fits : TicketFits h s) : TicketFits h (takeGrant k h s) := by
  unfold takeGrant; split
  · exact (gasGrant_orderly h s).ticket h fits
  next pressurize =>
    refine (startTimer_eased _ h _).ticketFits ?_
    rw [TicketFits, ticket_enterPhase, enterPhase_phase]
    exact fits.trans ⟨fun _ => by decide, fun _ => by rw [pressurize]; decide⟩
  · exact (startTimer_eased _ h s).ticketFits fits
  · exact (startTimer_eased _ h s).ticketFits fits
  · exact fits

theorem takeGrant_fits {k : OpenKind} {h : HeadId} {s : State} (phase : s.phase h = k.phase) (ready : Ready k.granted h s) :
    PilotsFit h (takeGrant k h s) := by
  have stays (same : k.granted = k.phase) : PilotsFit h s := Ready.fits (by rw [phase, ← same]; exact ready)
  cases k with
  | gas => simp only [takeGrant, phase]; exact (gasGrant_orderly h s).pilots h (stays rfl)
  | fill => simp only [takeGrant, phase]; exact (startTimer_eased _ h _).pilotsFit (enterPhase_fits ready)
  | topUp => simp only [takeGrant, phase]; exact (startTimer_eased _ h s).pilotsFit (stays rfl)
  | snift => simp only [takeGrant, phase]; exact (startTimer_eased _ h s).pilotsFit (stays rfl)

/-- Energising pilots leaves every other pilot's record. -/
theorem get_energised {q : Pilot} {ps : List Pilot} (other : q ∉ ps) (r : Pilots) :
    (ps.foldl (fun r p => r.put p { r.get p with state := .boost }) r).get q = r.get q := by
  induction ps generalizing r with
  | nil => rfl
  | cons p ps ih =>
    obtain ⟨ne, other⟩ := not_or.mp (mt List.mem_cons.mpr other)
    rw [List.foldl_cons, ih other, Pilots.get_put, if_neg ne]

theorem energise_on {ps : List Pilot} {h : HeadId} {s : State} {q : Pilot} (on : (energise ps h s).energised h q = true) :
    q ∈ ps ∨ s.energised h q = true := by
  refine or_iff_not_imp_left.mpr fun other => ?_
  rw [energised_iff, energise, modPilots, head_modHead_self] at on
  exact energised_iff.mpr ((congrArg PilotRecord.state (get_energised other _)).symm ▸ on)

/-- A grant to a queued open (R169). -/
theorem grant_orderly (i : BoostId) {e : Entry} {s : State} (queued : e ∈ s.pilotQueue) : Orderly s (grant i e s) := by
  let g : Grant := { head := e.head, pilots := e.kind.pilots, completion := s.now + Config.timerUnit * s.tracker.line.boostTime }
  let s1 := putBoosts (s.boosts.set i.val (some g)) s
  let u := withdraw e.head (energise e.kind.pilots e.head s1)
  have phase : u.phase e.head = s1.phase e.head := by
    simp only [u, State.phase, withdraw, head_putQueue, energise, modPilots, head_modHead_self]
  have ticket : (u.head e.head).ticket = (s1.head e.head).ticket := by
    simp only [u, withdraw, head_putQueue, energise, modPilots, head_modHead_self]
  have apart : (takeGrant e.kind e.head u).elsewhere e.head = s1.elsewhere e.head := by simp [u, energise]
  have held : Orderly s s1 := .of_same rfl rfl
  refine held.trans <| .of_apart apart (fun sorted => ?_) (fun fits => ?_) fun fits => ?_
  · exact takeGrant_sorted _ (queueSorted_of_sublist (s := s1) List.filter_sublist sorted)
  · exact takeGrant_ticket _ (by rw [TicketFits, ticket, phase]; exact fits)
  · have queuedPhase : s1.phase e.head = e.kind.phase := (fits.opens e queued rfl).1
    refine takeGrant_fits (phase.trans queuedPhase) ⟨fun q on => granted_allows e.kind q ?_, fun x mem => ?_⟩
    · exact (energise_on on).imp_right fun before => queuedPhase ▸ fits.allowed q before
    · exact of_decide_eq_true (List.mem_filter.mp mem).2

/-- The entry a grant goes to is one of the queue (R168). -/
theorem firstEligible_queued {s : State} {e : Entry} (first : s.firstEligible = some e) : e ∈ s.pilotQueue := by
  have among (l : List Entry) : ∀ acc : Option Entry, (∀ x, acc = some x → x ∈ s.pilotQueue) → (∀ x ∈ l, x ∈ s.pilotQueue) →
      ∀ x, l.foldl (fun acc e => match acc with
        | none => some e
        | some b => if s.grantBefore e b then some e else some b) acc = some x → x ∈ s.pilotQueue := by
    induction l with
    | nil => exact fun acc start _ => start
    | cons a l ih =>
      intro acc start all
      refine ih _ (fun x found => ?_) fun x mem => all x (List.mem_cons_of_mem a mem)
      have here := all a List.mem_cons_self
      cases acc with
      | none => exact Option.some.inj found ▸ here
      | some b =>
        dsimp only at found
        split at found
        · exact Option.some.inj found ▸ here
        · exact start x found
  exact among _ none (fun x none => nomatch none) (fun x mem => (List.mem_filter.mp mem).1) e first

theorem arbitrate_orderly (s : State) : Orderly s (arbitrate s) :=
  arbitrate_keeps (P := Orderly s) (fun i _ _ _ first e => e.trans (grant_orderly i (firstEligible_queued first))) (.refl s)

theorem abortAll_orderly (r : Reason) (s : State) : Orderly s (abortAll r s) :=
  (forInstalled_orderly (forceToSnift_orderly r) s).trans (arbitrate_orderly _)

/-! ## Seating and the crossings on the way (R80, R82, R84, R95, R96) -/

/-- A container seated: the ticket opened, SEATED entered, pilots and queue as they were (R81). -/
theorem seat_opens {h : HeadId} {s : State} {n : SlotId} {rev : Revision} (assigned : (s.head h).record.slot = some n)
    (used : s.usedRevision h = some rev) : ((seat h s).head h).ticket.isSome = true ∧ (seat h s).phase h = .seated ∧
      ((seat h s).head h).pilots = (s.head h).pilots ∧ (seat h s).pilotQueue = s.pilotQueue := by
  rw [seat_eq assigned used, State.phase, head_putTagCounter, head_setHead_self]
  exact ⟨rfl, rfl, rfl, rfl⟩

/-- A container is seated at an empty head, which has no pilot energised and no open queued. -/
theorem seat_orderly {h : HeadId} {s : State} (empty : s.phase h = .empty) : Orderly s (seat h s) := by
  cases assigned : (s.head h).record.slot with
  | none => simp only [seat, assigned]; exact .refl s
  | some n =>
    cases used : s.usedRevision h with
    | none => simp only [seat, assigned, used]; exact .refl s
    | some rev =>
      obtain ⟨ticket, phase, pilots, queue⟩ := seat_opens assigned used
      refine .of_apart (seat_elsewhere h s) (fun sorted => ?_) (fun _ => ?_) fun fits => ?_
      · rw [QueueSorted, queue]; exact sorted
      · rw [TicketFits, ticket, phase]; decide
      · have ready := fits.ready empty
        refine Ready.fits ⟨fun q on => ?_, queue ▸ ready.unqueued⟩
        rw [energised_iff, pilots, ← energised_iff, ready.off (by cases q <;> rfl)] at on
        cases on

theorem infeedCrossing_orderly (h : HeadId) (s : State) : Orderly s (infeedCrossing h s) := by
  unfold infeedCrossing; simp only; split
  next free =>
    split
    · exact seat_orderly free.2.1
    · exact (changeCauses_eased h _ s).orderly
  next => exact .refl s

theorem gasCrossing_orderly (h : HeadId) (s : State) : Orderly s (gasCrossing h s) := by
  unfold gasCrossing; split
  next seated =>
    exact .opening (k := .gas) (u := s) (by rw [seated]; decide) (.refl s)
      (fun fits => (fits.ready seated).change fun q _ allowed => by revert allowed; cases q <;> decide)
      fun fits p named => by rw [List.mem_singleton.mp named]; exact (fits.ready seated).off
  next => exact .refl s

theorem fillCrossing_orderly (h : HeadId) (s : State) : Orderly s (fillCrossing h s) := by
  have reached : Eased s (modSeq h (fun q => { q with fillReached := true }) s) := modSeq_eased
  unfold fillCrossing; split
  next pressurize =>
    simp only
    split
    · exact reached.orderly.trans (queueFill_orderly ((reached.phase h).trans pressurize))
    · exact reached.orderly
  · exact reached.orderly
  all_goals exact .refl s

theorem closeByCrossing_orderly (h : HeadId) (s : State) : Orderly s (closeByCrossing h s) := by
  have passed : Orderly s (modSeq h (fun q => { q with closeByPassed := true }) s) := (modSeq_eased).orderly
  have settled := passed.trans (forceToSettle_orderly .closeBy h _)
  have sniffed := passed.trans (forceToSnift_orderly .closeBy h _)
  unfold closeByCrossing; simp only; split
  · exact .refl s
  · exact settled
  · exact settled
  · exact settled
  · exact sniffed
  · exact sniffed
  all_goals exact passed

theorem sniftByCrossing_orderly (h : HeadId) (s : State) : Orderly s (sniftByCrossing h s) := by
  have forced := forceToSnift_orderly .sniftBy h s
  unfold sniftByCrossing; split
  · exact forced
  · exact forced
  · exact forced
  · exact forced
  · exact forced
  next settle => exact doseEnd_settle_orderly settle (modTicket_eased h _ s)
  all_goals exact .refl s

/-! ## Discharge (R108) -/

/-- The head handed over is in phase EMPTY without a ticket; its pilots and the queue are as they were. -/
theorem handOver_head (h : HeadId) (s : State) : ((handOver h s).head h).ticket = none ∧
    ((handOver h s).head h).pilots = (s.head h).pilots ∧ (handOver h s).pilotQueue = s.pilotQueue := by
  cases held : (s.head h).ticket with
  | none =>
    have stays : handOver h s = enterPhase .empty h s := by simp only [handOver, held]
    rw [stays, enterPhase, modSeq, head_modHead_self]
    exact ⟨held, rfl, rfl⟩
  | some tk =>
    have head : (handOver h s).head h = { s.head h with
        ticket := none
        seq := { (s.head h).seq with phase := .empty, timers := (s.head h).seq.timers.leaving (s.phase h) .empty } } := by
      rw [handOver_eq held]
      exact head_setHead_self h _ s
    exact ⟨by rw [head], by rw [head], by rw [handOver_eq held]; rfl⟩

theorem handOver_orderly {h : HeadId} {s u : State} (e : Eased s u) (ready : PilotsFit h s → Ready .empty h u) :
    Orderly s (handOver h u) := by
  obtain ⟨ticket, pilots, queue⟩ := handOver_head h u
  refine ⟨fun sorted => ?_, fun j fits => ?_, fun j fits => ?_⟩
  · exact queueSorted_of_sublist (queue ▸ e.queue) sorted
  · by_cases mine : j = h
    · subst mine; rw [TicketFits, ticket, handOver_phase]; decide
    · exact ticketFits_apart (handOver_elsewhere h u) mine (e.ticketFits fits)
  · by_cases mine : j = h
    · subst mine
      refine Ready.fits ?_
      rw [handOver_phase]
      exact ⟨fun q on => (ready fits).pilots q (by rwa [energised_iff, pilots, ← energised_iff] at on), queue ▸ (ready fits).unqueued⟩
    · exact pilotsFit_apart (handOver_elsewhere h u) mine (e.pilotsFit fits)

theorem dischargeSnift_orderly {h : HeadId} {s : State} (snift : s.phase h = .snift) : Orderly s (dischargeSnift h s) := by
  have vented : Eased (release .snift h s) (ventShort h s) :=
    (stopTimer_eased .snift h _).trans ((modTicket_eased h Ticket.cutShort _).trans (changeCauses_eased h _ _))
  have handed : Orderly s (handedShort h s) := handOver_orderly ((release_eased .snift h s).trans vented)
    fun fits => (releaseSnift_ready snift fits).eased vented
  exact handed.trans (Eased.of_plant (dischargeSnift_stands h s).1).orderly

theorem dischargeCrossing_orderly (h : HeadId) (s : State) : Orderly s (dischargeCrossing h s) := by
  cases filling : (s.phase h).filling with
  | true =>
    rw [dischargeCrossing_filling filling]
    exact (sniftByCrossing_orderly h s).trans (dischargeSnift_orderly (sniftByCrossing_phase filling))
  | false =>
    unfold dischargeCrossing; split
    · exact .of_same rfl rfl
    next done =>
      exact handOver_orderly (.refl s) fun fits => (fits.ready done).change fun q _ allowed => by revert allowed; cases q <;> decide
    next snift => exact dischargeSnift_orderly snift
    all_goals next phase => rw [phase] at filling; cases filling

/-! ## Every crossing, pulse and tracker event -/

theorem takeK_plant (k : Nat) (h : HeadId) (s : State) : (takeK k h s).plant = s.plant := by simp [takeK, clearTrimLimit]

theorem commitCrossing_plant (h : HeadId) (s : State) : (commitCrossing h s).plant = s.plant := by
  have presence (u : State) : (commitPresence h u).plant = u.plant := by unfold commitPresence; split <;> simp
  have stray (u : State) : (commitStray h u).plant = u.plant := by
    unfold commitStray; simp only [modRecord_plant]; split
    · exact raiseEquipment_plant _ h u
    · rfl
  have k (u : State) : (commitK h u).plant = u.plant := by
    unfold commitK; split
    · rfl
    · exact takeK_plant _ h u
  have service (u : State) : (commitService h u).plant = u.plant := by unfold commitService; split <;> simp
  rw [commitCrossing, service, commitAdopt_plant, commitSlot_plant, commitPending, modRecord_plant, k, stray, presence]

theorem crossHead_orderly (h : HeadId) (s : State) : Orderly s (crossHead h s) := by
  have delivered (z : Zone) : Orderly s (deliver z h s) := by
    cases z with
    | infeed => exact infeedCrossing_orderly h s
    | gas => exact gasCrossing_orderly h s
    | fill => exact fillCrossing_orderly h s
    | closeBy => exact closeByCrossing_orderly h s
    | sniftBy => exact sniftByCrossing_orderly h s
    | discharge => exact dischargeCrossing_orderly h s
    | commit => exact (Eased.of_plant (commitCrossing_plant h s)).orderly
  unfold crossHead; split
  · exact .refl s
  · exact delivered _

theorem deliverCrossings_orderly (s : State) : Orderly s (deliverCrossings s) :=
  (forInstalled_orderly crossHead_orderly s).trans (arbitrate_orderly _)

theorem retracked_orderly (k : Tracker) (s : State) : Orderly s { s with tracker := k } := .of_same rfl rfl

theorem crossingStep_orderly (s : State) : Orderly s (crossingStep s) := (retracked_orderly _ s).trans (deliverCrossings_orderly _)

theorem catchUp_orderly : ∀ (k : Nat) (s : State), Orderly s (catchUp k s)
  | 0, s => .refl s
  | k + 1, s => (crossingStep_orderly s).trans (catchUp_orderly k _)

theorem forwardStep_orderly (s : State) : Orderly s (forwardStep s) := by
  unfold forwardStep; split
  · exact crossingStep_orderly s
  · exact retracked_orderly _ s
  · exact .refl s

theorem reverseStep_orderly (s : State) : Orderly s (reverseStep s) := by
  have aborted (u : State) : Orderly u (reverseAbort u) := (changeGlobals_eased _ u).orderly.trans (abortAll_orderly _ _)
  unfold reverseStep; split
  · exact (retracked_orderly _ s).trans (aborted _)
  · simp only
    split
    · exact (retracked_orderly _ s).trans (aborted _)
    · exact retracked_orderly _ s
  · exact .refl s

theorem referencingDischarge_orderly (h : HeadId) (s : State) : Orderly s (referencingDischarge h s) := by
  unfold referencingDischarge; simp only; split
  · exact dischargeCrossing_orderly h s
  · exact .refl s

theorem mismatchedIndex_orderly (s : State) : Orderly s (mismatchedIndex s) := by
  have aborted (k : Nat) (u : State) : Orderly u (angleAbort k u) := by
    unfold angleAbort; split
    · exact abortAll_orderly _ u
    · exact .refl u
  have raised := (retracked_orderly { s.tracker with lastIndexError := indexError s.tracker.angle } s).trans
    ((changeGlobals_eased (fun g => { g with angleFault := true }) _).orderly.trans (aborted (mismatch s.tracker.angle) _))
  unfold mismatchedIndex; simp only; split
  · exact raised.trans (retracked_orderly _ _)
  · exact raised.trans (catchUp_orderly _ _)

theorem indexEvent_orderly (s : State) : Orderly s (indexEvent s) := by
  unfold indexEvent; split
  · exact (retracked_orderly _ s).trans ((forInstalled_orderly referencingDischarge_orderly _).trans (deliverCrossings_orderly _))
  · split
    · exact .refl s
    · exact mismatchedIndex_orderly s
  · exact .refl s

theorem countedPulse_orderly {tk : Ticket} {h : HeadId} {s : State} (held : (s.head h).ticket = some tk) :
    Orderly s (countedPulse tk h s) := by
  have counted := (countPulse_eased held).orderly
  have taken : Orderly s (takeDoseCrossing (tk.count.crossing (s.phase h)) h (countPulse tk h s)) := by
    rw [← countPulse_phase tk h s]
    exact counted.trans (takeDoseCrossing_orderly tk.count)
  unfold countedPulse; split
  · exact counted
  · exact taken.trans (arbitrate_orderly _)

theorem meterPulse_orderly (h : HeadId) (s : State) : Orderly s (meterPulse h s) := by
  have glitch (tk : Ticket) : Orderly s (glitchPulse tk h s) := by
    have counted := (modTicket_eased h (fun t => { t with glitches := t.glitches + 1 }) s).orderly
    unfold glitchPulse; split
    · exact counted.trans ((equipmentEnding_orderly _ _ h _).trans (arbitrate_orderly _))
    · exact counted
  unfold meterPulse; split
  · split
    · exact .refl s
    next tk held =>
      split
      · exact glitch tk
      · exact countedPulse_orderly held
  · exact (modRecord_eased h _ s).orderly

end Sys2Proof.Machine
end

section
/-! SUPPORT. Requests and commands keep ticket, pilots and opens with the phase (R79, R81, R165): most touch neither works nor queue, the
resets and aborts act by the forced ending, and every other command by the events above. -/

namespace Sys2Proof.Machine

/-! ## Requests that leave works and queue -/

theorem writeK_plant (k : Nat) (h : HeadId) (s : State) : (writeK k h s).plant = s.plant := by
  unfold writeK; split
  · exact takeK_plant k h s
  · exact modRecord_plant h _ s

theorem applyHeadFields_plant (f : HeadFields) (h : HeadId) (s : State) : (applyHeadFields f h s).plant = s.plant := by
  have k (u : State) : (applyK f.k h u).plant = u.plant := by
    unfold applyK; split
    · rfl
    · exact writeK_plant _ h u
  have slot (u : State) : (applySlot f.slot h u).plant = u.plant := by unfold applySlot writeSlot; split <;> [rfl; (split <;> simp)]
  have reset (u : State) : (applyReset f.reset h u).plant = u.plant := by unfold applyReset; split <;> [rfl; (split <;> simp)]
  have service (u : State) : (applyService f.service h u).plant = u.plant := by
    unfold applyService bringIn; split
    · rfl
    · split <;> simp [becomeJoining_plant]
    · exact takeOut_plant h u
  rw [applyHeadFields, service, reset, slot, k]

theorem recordOutcome_plant (h : HeadId) (o : CalOutcome) (k : Option Nat) (tag : Tag) (s : State) :
    (recordOutcome h o k tag s).plant = s.plant := by simp [recordOutcome, raiseCalDone]

theorem completeDivision_eased (c : Calibration) (s : State) : Eased s (completeDivision c s) := by
  have recorded (u : State) (o : CalOutcome) (k : Option Nat) : Eased u (recordOutcome c.head o k c.tag { u with divider := none }) :=
    .of_plant ((recordOutcome_plant _ _ _ _ _).trans rfl)
  unfold completeDivision; simp only; split
  · exact (Eased.of_plant (writeK_plant _ _ s)).trans (recorded _ _ _)
  · exact recorded s _ _

theorem cancelCalibration_plant (s : State) : (cancelCalibration s).plant = s.plant := by
  unfold cancelCalibration; split
  · rfl
  · exact recordOutcome_plant _ _ _ _ _

theorem recordVerdict_eased (v : Verdict) (tk : Ticket) (s : State) : Eased s (recordVerdict v tk s) := by
  have put (l : List Ticket) (u : State) : Eased u (putTransit l u) := .of_same rfl rfl
  have trimmed (tk : Ticket) (u : State) : Eased u (trimFrom tk u) := by
    refine .of_plant ?_
    unfold trimFrom trimHead raiseTrimLimit; split
    · split
      · simp only; split <;> simp
      · rfl
    · rfl
  unfold recordVerdict; simp only; split
  · exact (put _ s).trans (trimmed _ _)
  · exact (put _ s).trans ((trimmed _ _).trans (put _ _))

theorem clearHead_plant (kinds : Byte) (h : HeadId) (s : State) : (clearHead kinds h s).plant = s.plant := by
  unfold clearHead; simp only; split <;> simp

theorem serveWriteRecipe_eased (slot : Byte) (b : RevisionBlock) (s : State) : Eased s (serveWriteRecipe slot b s).1 := by
  have current (n : SlotId) (rev : Revision) : Eased s (writeCurrent n rev s) := .of_plant (by simp [writeCurrent])
  unfold serveWriteRecipe; split
  · exact .refl s
  · split
    · exact .refl s
    · simp only
      split
      · exact current _ _
      · exact current _ _
      · split
        · exact .refl s
        · exact .of_same rfl rfl

theorem relined_eased (l : LineSetup) (s : State) : Eased s (relined l s) :=
  .of_works (fun j => by rw [head_relined]; split <;> rfl) (by rw [relined_eq]; rfl)

/-! ## Resets and aborts (R56, R57, R101) -/

theorem requeueSnift_orderly (h : HeadId) (s : State) : Orderly s (requeueSnift h s) := by
  unfold requeueSnift; split
  next vents =>
    obtain ⟨snift, off, -⟩ := vents
    exact queueOpen_orderly snift fun _ p named => by rw [List.mem_singleton.mp named]; exact off
  next => exact .refl s

theorem resetHead_orderly (h : HeadId) (s : State) : Orderly s (resetHead h s) := by
  have sequenced : Orderly s (resetSequencer h s) :=
    (withdraw_eased h s).orderly.trans ((forceToSnift_orderly .reset h _).trans (requeueSnift_orderly h _))
  have rest (u : State) : (cancelForHead h (changeCauses h (fun _ => .clear) (resetRecord h u))).plant = u.plant := by
    have cancelled (v : State) : (cancelForHead h v).plant = v.plant := by
      unfold cancelForHead; split
      · exact cancelCalibration_plant v
      · rfl
    rw [cancelled, changeCauses_plant, resetRecord, modRecord_plant, takeOut_plant]
  exact sequenced.trans ((Eased.of_plant (rest _)).orderly.trans (arbitrate_orderly _))

/-- LINE RESET turns pilots off or to HOLD, and empties the queue (R175). -/
theorem resetArbiter_eased (s : State) : Eased s (resetArbiter s) where
  phase j := by rw [State.phase, head_resetArbiter]; rfl
  ticket j := by rw [head_resetArbiter]
  pilots j p on := by
    rw [energised_iff, head_resetArbiter] at on
    by_cases snift : p = .snift
    · subst snift
      refine energised_iff.mpr fun off => on ?_
      have off : (s.head j).pilots.snift.state = .off := off
      simp only [resetPilots, Pilots.get, off, reduceCtorEq, if_false]
    · exact absurd (resetPilots_off s.now _ snift) on
  queue := List.nil_sublist _

theorem resetLine_orderly (s : State) : Orderly s (resetLine s) := by
  have sequencers : Orderly s (resetSequencers s) := (resetArbiter_eased s).orderly.trans
    ((forInstalled_orderly (forceToSnift_orderly .reset) _).trans (forInstalled_orderly requeueSnift_orderly _))
  have records (u : State) : Orderly u (putTransit [] (resetRecords u)) :=
    (Eased.of_plant (resetRecords_plant u)).orderly.trans (.of_same rfl rfl)
  have causes (u : State) : Orderly u (clearAllCauses u) :=
    (forInstalled_orderly (fun h u => (Eased.of_plant (modCauses_plant h _ u)).orderly) u).trans (.of_same rfl rfl)
  exact sequencers.trans <| (records _).trans <| (causes _).trans <|
    (Eased.of_plant (cancelCalibration_plant _)).orderly.trans (arbitrate_orderly _)

/-! ## Every request -/

theorem serve_orderly (r : Request) (s : State) : Orderly s (serve r s).1 := by
  have transit (l : List Ticket) : Orderly s (putTransit l s) := .of_same rfl rfl
  cases r with
  | readStatus => exact .refl s
  | readHead head =>
    have drawn : Orderly s { s with freeReads := s.freeReads + 1 } := .of_same rfl rfl
    simp only [serve, serveReadHead]; split
    · exact .refl s
    · exact drawn.trans (changeCauses_eased _ _ _).orderly
  | readRecipe slot => simp only [serve, serveReadRecipe]; split <;> exact .refl s
  | readTicket selector number => exact .refl s
  | findTickets head slot location disposition verdictPresent startAfter => exact .refl s
  | setLine f =>
    simp only [serve, serveSetLine]; split
    · split
      · exact .refl s
      · exact (relined_eased _ s).orderly.trans (arbitrate_orderly _)
    · exact .refl s
  | writeRecipe slot block => exact (serveWriteRecipe_eased slot block s).orderly
  | eraseRecipe slot =>
    simp only [serve, serveEraseRecipe]; split
    · exact .refl s
    · split
      · exact .refl s
      · exact .of_same rfl rfl
  | setHead head service k slot resetLearning =>
    simp only [serve, serveSetHead]; split
    · exact .refl s
    · split
      · exact .refl s
      · split
        · exact .refl s
        · exact (Eased.of_plant (applyHeadFields_plant _ _ s)).orderly
  | headReset head =>
    simp only [serve, serveHeadReset]; split
    · exact .refl s
    · exact resetHead_orderly _ s
  | lineReset => simp only [serve, serveLineReset]; exact resetLine_orderly s
  | abortFill head =>
    simp only [serve, serveAbortFill]; split
    · exact abortAll_orderly _ s
    · split
      · exact .refl s
      · exact (forceToSnift_orderly _ _ s).trans (arbitrate_orderly _)
  | verdict tag level =>
    have missed (n : Tag) : Orderly s (retireMissed n s) := by
      unfold retireMissed; simp only; split <;> exact .of_same rfl rfl
    simp only [serve, serveVerdict]; split
    · exact .refl s
    · split
      · exact .refl s
      · exact (missed _).trans (recordVerdict_eased _ _ _).orderly
  | keep tag =>
    simp only [serve, serveKeep]; split
    · exact .refl s
    · split
      · exact .refl s
      · split
        · exact .refl s
        · split
          · exact transit _
          · exact .refl s
  | retire tag =>
    simp only [serve, serveRetire]; split
    · exact .refl s
    · split
      · exact .refl s
      · exact transit _
  | calibrate tag w force =>
    simp only [serve, serveCalibrate]; split
    · exact .refl s
    · split
      · exact .refl s
      · split
        · exact .refl s
        · split
          · exact .refl s
          · split
            · exact .refl s
            · exact .of_same rfl rfl
  | holdLearning hold =>
    have dropped : Eased s (dropPending s) := .of_plant (mapHeads_plant _ (by intro x; rfl) s)
    simp only [serve, serveHoldLearning]; split
    · exact .refl s
    · exact dropped.orderly.trans (.of_same rfl rfl)
    · exact .of_same rfl rfl
  | clearAttention target kinds =>
    simp only [serve, serveClearAttention]; split
    · split
      · exact .refl s
      · exact .of_same rfl rfl
    · split
      · exact .refl s
      · split
        · exact .refl s
        · split
          · exact .refl s
          · exact (Eased.of_plant (clearHead_plant kinds _ s)).orderly
  | setMask kinds => exact .of_same rfl rfl

theorem serveNext_orderly (s : State) : Orderly s (serveNext s) := by
  have framed (f : Frame) : Orderly s (serveFrame f s) := by
    unfold serveFrame replied; split
    · exact .of_same rfl rfl
    next r _ => exact (serve_orderly r s).trans (.of_same rfl rfl)
  unfold serveNext; split
  · exact .refl s
  next f _ _ => exact (framed f).trans (.of_same rfl rfl)

theorem takeByte_orderly (b : Byte) (s : State) : Orderly s (takeByte b s) := by
  have linked (l : Link) : Orderly s { s with link := l } := .of_same rfl rfl
  unfold takeByte frameArrives; simp only; split
  · exact linked _
  · split
    · split
      · exact (linked _).trans (serveNext_orderly _)
      · exact linked _
    · exact linked _

/-! ## Commands -/

theorem execPowerOn_orderly {t : Time} {s u : State} (e : execPowerOn t s = .next u) : Orderly s u := by
  cases e
  have head (h : HeadId) : (s.heads.map fun x => Head.powerOn x.presence x.pressureEqual)[h.val] =
      Head.powerOn (s.head h).presence (s.head h).pressureEqual := Vector.getElem_map (xs := s.heads) _ h.isLt
  refine ⟨fun _ => List.Pairwise.nil, fun h _ => ?_, fun h _ => ⟨fun p on => absurd ?_ (energised_iff.mp on), fun e mem => nomatch mem⟩⟩
  · have none_empty (x : Head) : (Head.powerOn x.presence x.pressureEqual).ticket.isSome = true ↔
        (Head.powerOn x.presence x.pressureEqual).seq.phase ≠ .empty := iff_of_false (fun some => nomatch some) (· rfl)
    simp only [TicketFits, State.phase, State.head, head]; exact none_empty _
  · simp only [State.head, head]; cases p <;> rfl

theorem takeExpiry_orderly (n : TimerName) {act : HeadId → State → State} (ha : ∀ h s, Orderly s (act h s)) (h : HeadId) (s : State) :
    Orderly s (takeExpiry n act h s) := by
  unfold takeExpiry; split
  · exact (stopTimer_eased n h s).orderly.trans ((ha h _).trans (arbitrate_orderly _))
  · exact .refl s

theorem execPressureEqualEdge_orderly {t : Time} {h : HeadId} {level : Bool} {s u : State}
    (e : execPressureEqualEdge t h level s = .next u) : Orderly s u := by
  have leveled : Eased (s.advance t) (modHead h (fun x => { x with pressureEqual := level }) (s.advance t)) :=
    modHead_eased rfl rfl fun _ => id
  have now : Orderly s (s.advance t) := .of_same rfl rfl
  cases e
  refine now.trans (leveled.orderly.trans ?_)
  split
  next counts =>
    have pressurize := (leveled.phase h).trans ((edgeCounts_iff s h level).mp counts).2.2.2.1
    unfold countedEdge; split
    · exact (equalize_orderly pressurize).trans (arbitrate_orderly _)
    · exact equalize_orderly pressurize
  next => exact .refl _

/-- A boost completion brings pilots from BOOST to HOLD at most (R170). -/
theorem completeBoost_eased (i : BoostId) (g : Grant) (s : State) : Eased s (completeBoost i g s) := by
  have held (ps : List Pilot) (q : Pilots) (p : Pilot) (off : (q.get p).state = .off) :
      ((ps.foldl (fun q p => holdPilot p q) q).get p).state = .off := by
    induction ps generalizing q with
    | nil => exact off
    | cons a ps ih =>
      refine ih (holdPilot a q) ?_
      unfold holdPilot; split
      next boost =>
        have ne : p ≠ a := fun e => by rw [e, boost] at off; cases off
        rw [Pilots.get_put, if_neg ne]; exact off
      next => exact off
  have freed : Eased s (putBoosts (s.boosts.set i.val none) s) := .of_same rfl rfl
  exact freed.trans (modPilots_eased fun p => held g.pilots _ p)

theorem takeDwellEnd_orderly (due : Time) (h : HeadId) (p : Pilot) (s : State) : Orderly s (takeDwellEnd due h p s) := by
  have noted : Eased s (modPilots h (fun q => q.put p { q.get p with dwellTaken := some due }) s) :=
    modPilots_eased fun x off => by
      rw [Pilots.get_put]; split
      next same => exact same ▸ off
      next => exact off
  exact noted.orderly.trans (arbitrate_orderly _)

theorem exec_orderly {c : Instr} {s u : State} (e : exec c s = .next u) : Orderly s u := by
  have now (t : Time) : Orderly s (s.advance t) := .of_same rfl rfl
  have request (r : Request) (t : Time) (e : exec (requestCommand t r) s = .next u) : Orderly s u := by
    rw [exec_requestCommand] at e
    cases e
    exact (now t).trans ((serve_orderly r _).trans (.of_same rfl rfl))
  have turned (t : Time) (x : Encoder) : Orderly s { s.advance t with encoder := x } := .of_same rfl rfl
  have expiry (n : TimerName) {act : HeadId → State → State} (ha : ∀ h s, Orderly s (act h s)) (t : Time) (h : HeadId) :
      Orderly s (takeExpiry n act h (s.advance t)) := (now t).trans (takeExpiry_orderly n ha h _)
  cases c with
  | powerOn t => exact execPowerOn_orderly e
  | forwardStep t => cases e; exact (turned t _).trans (forwardStep_orderly _)
  | reverseStep t => cases e; exact (turned t _).trans (reverseStep_orderly _)
  | directionlessChange t => cases e; exact turned t _
  | indexEvent t => cases e; exact (now t).trans (indexEvent_orderly _)
  | meterPulse t h =>
    cases e
    split
    · exact (now t).trans (meterPulse_orderly h _)
    · exact now t
  | presenceEdge t h level => cases e; exact (now t).trans (Eased.orderly (modHead_eased rfl rfl fun _ => id))
  | pressureEqualEdge t h level => exact execPressureEqualEdge_orderly e
  | equalizeExpiry t h => cases e; exact expiry _ (forceToSnift_orderly _) t h
  | startFlowExpiry t h => cases e; exact expiry _ (forceToSettle_orderly _) t h
  | stallExpiry t h => cases e; exact expiry _ (forceToSettle_orderly _) t h
  | flowStillExpiry t h => cases e; exact expiry _ flowStill_orderly t h
  | settleLimitExpiry t h => cases e; exact expiry _ (equipmentEnding_orderly _ _) t h
  | sniftExpiry t h => cases e; exact expiry _ sniftDone_orderly t h
  | boostCompletion t i =>
    simp only [exec, execBoostCompletion] at e
    split at e
    · cases e; exact now t
    · cases e
      split
      · exact (now t).trans ((completeBoost_eased _ _ _).orderly.trans (arbitrate_orderly _))
      · exact now t
  | dwellEnd t h p =>
    simp only [exec, execDwellEnd] at e
    split at e
    · cases e; exact now t
    · cases e
      split
      · exact (now t).trans (takeDwellEnd_orderly _ h p _)
      · exact now t
  | divisionCompletion t =>
    simp only [exec, execDivisionCompletion] at e
    split at e
    · cases e; exact now t
    · cases e; exact (now t).trans (completeDivision_eased _ _).orderly
  | byteReceived t b => cases e; exact (now t).trans (takeByte_orderly b _)
  | interbyteGap t =>
    cases e
    split <;> exact .of_same rfl rfl
  | answerEnd t =>
    cases e
    have ended (l : Link) : Orderly (s.advance t) { s.advance t with link := l } := .of_same rfl rfl
    split
    · exact (now t).trans ((ended _).trans (serveNext_orderly _))
    · exact now t
  | malformed t kind body =>
    cases e
    split <;> exact .of_same rfl rfl
  | readStatus t => exact request .readStatus t e
  | readHead t head => exact request (.readHead head) t e
  | readRecipe t slot => exact request (.readRecipe slot) t e
  | readTicket t selector number => exact request (.readTicket selector number) t e
  | findTickets t head slot location disposition verdictPresent startAfter =>
    exact request (.findTickets head slot location disposition verdictPresent startAfter) t e
  | setLine t fields => exact request (.setLine fields) t e
  | writeRecipe t slot block => exact request (.writeRecipe slot block) t e
  | eraseRecipe t slot => exact request (.eraseRecipe slot) t e
  | setHead t head service k slot resetLearning => exact request (.setHead head service k slot resetLearning) t e
  | headReset t head => exact request (.headReset head) t e
  | lineReset t => exact request .lineReset t e
  | abortFill t head => exact request (.abortFill head) t e
  | verdict t tag level => exact request (.verdict tag level) t e
  | keep t tag => exact request (.keep tag) t e
  | retire t tag => exact request (.retire tag) t e
  | calibrate t tag w force => exact request (.calibrate tag w force) t e
  | holdLearning t hold => exact request (.holdLearning hold) t e
  | clearAttention t target kinds => exact request (.clearAttention target kinds) t e
  | setMask t kinds => exact request (.setMask kinds) t e

theorem step_orderly {s u : State} (e : step s = .next u) : Orderly s u := by
  unfold step at e
  split at e
  · cases e; exact .refl s
  next c rest _ => exact Orderly.trans (t := { s with pending := rest }) (.of_same rfl rfl) (exec_orderly e)

/-- Settles O54, as `step_orderly` says of every head. -/
theorem ticketsFollowPhases : Obligations.TicketsFollowPhases :=
  fun _ _ fits e h => (step_orderly e).ticket h (fits h)

/-- Settles O56: the queue's order and, head by head, pilots and opens, as `step_orderly` keeps them. -/
theorem pilotsStayWithPhases : Obligations.PilotsStayWithPhases :=
  ⟨fun _ _ sorted e => (step_orderly e).queue sorted,
    fun _ _ fits e => pilotsFollowPhases_iff.mpr fun h => (step_orderly e).pilots h (pilotsFollowPhases_iff.mp fits h)⟩

end Sys2Proof.Machine
end

section
/-! SUPPORT. Timers that run down into SNIFT and out of it (R78, R84, R92, R106), and the crossings before the discharge (R82, R84, R95,
R96). -/

namespace Sys2Proof.Machine

/-! ## What an expiry leaves of the statements about its head -/

section Stopped
variable {h : HeadId} {s u v : State} {tk : Ticket} {c : Causes} {sv : Service}

theorem head_stopTimer (n : TimerName) (h : HeadId) (s : State) : (stopTimer n h s).head h =
    { s.head h with seq := { (s.head h).seq with timers := (s.head h).seq.timers.put n none } } := head_modHead_self h _ s

theorem stopTimer_fillOnly (n : TimerName) (h : HeadId) (s : State) : FillOnly h s (stopTimer n h s) := modSeq_fillOnly h _ s

/-- `DoseEnded.of_fillOnly` for a dose end from causes and service state other than the head's, as a forced ending with EQUIPMENT
has it. -/
theorem DoseEnded.after_fillOnly (before : FillOnly h s u) (ended : DoseEnded h tk c sv u v) : DoseEnded h tk c sv s v := by
  obtain ⟨ticket, entry, causes, record, lastCounted, presence, pressureEqual, others, judged⟩ := ended
  have step : u.tracker.stepCount = s.tracker.stepCount := congrArg Tracker.stepCount (outer_tracker before.others.outer)
  have pending : u.learnedPending h tk = s.learnedPending h tk := by
    simp only [State.learnedPending, State.usedRevision, State.slot, before.record, before.members.2, outer_hold before.others.outer]
  rw [before.record] at causes
  rw [before.record, pending] at record
  exact ⟨ticket, step ▸ entry, causes, fun member => ⟨(record member).1, before.members.trans (record member).2⟩,
    lastCounted.trans before.lastCounted, presence.trans before.presence, pressureEqual.trans before.pressureEqual,
    before.others.trans others, fun js => judged (judged_of_attn before.attn js)⟩

/-- The timer may be stopped before the forced ending, which stops every timer (R78, R98). -/
theorem ForcedToSnift.of_stopTimer {n : TimerName} {r : Reason} (forced : ForcedToSnift r h c sv (stopTimer n h s) v) :
    ForcedToSnift r h c sv s v := by
  intro tk held
  have head := head_stopTimer n h s
  obtain ⟨ended, seq, pilots⟩ := forced tk (by rw [head]; exact held)
  rw [stopTimer_phase] at ended
  rw [head] at seq
  exact ⟨ended.after_fillOnly (stopTimer_fillOnly n h s), seq,
    fun p => (pilots p).trans (releasedPilot_congr (by rw [head]) rfl)⟩

end Stopped

/-- Settles O14: each ending is forced from the state with its timer stopped. -/
theorem expiriesForceToSnift : Obligations.ExpiriesForceToSnift := by
  refine ⟨fun t due h s installed pressurize running passed => ?_, fun t due h s installed settle running passed => ?_⟩ <;> intro s'
  · let u := stopTimer .equalize h s'
    have filling : (u.phase h).filling = true := by
      rw [stopTimer_phase, show s'.phase h = .pressurize from pressurize]; rfl
    have forced := forceToSnift_forced (r := .equalizeTimeout) filling
    rw [head_stopTimer] at forced
    exact ⟨_, congrArg _ (takeExpiry_due (n := .equalize) (s := s') installed running passed), forced.of_stopTimer⟩
  · let u := stopTimer .settleLimit h s'
    have filling : (u.phase h).filling = true := by
      rw [stopTimer_phase, show s'.phase h = .settle from settle]; rfl
    have forced := equipmentEnding_forced .drip .drip filling
    rw [head_stopTimer] at forced
    exact ⟨_, congrArg _ (takeExpiry_due (n := .settleLimit) (s := s') installed running passed), forced.of_stopTimer⟩

/-! ## The end of the snift (R106) -/

theorem sniftDone_snift {h : HeadId} {s : State} (snift : s.phase h = .snift) : sniftDone h s =
    enterPhase .done h (modTicket h (fun tk => { tk with headEnd := some .vented }) (release .snift h s)) := if_pos snift

theorem sniftDone_fillOnly (h : HeadId) (s : State) : FillOnly h s (sniftDone h s) := by
  unfold sniftDone; split
  · exact (release_fillOnly .snift h s).trans ((modTicket_fillOnly h _ _).trans (enterPhase_fillOnly .done h _))
  · exact .refl h s

theorem entryOf_sniftDone {h : HeadId} {s : State} (snift : s.phase h = .snift) :
    (sniftDone h s).entryOf h = s.entryWithout [.snift] h := by
  rw [sniftDone_snift snift]; exact entryOf_release .snift h s

theorem head_sniftDone {h : HeadId} {s : State} (snift : s.phase h = .snift) : (sniftDone h s).head h = { s.head h with
    ticket := (s.head h).ticket.map fun tk => { tk with headEnd := some .vented }
    seq := { (s.head h).seq with phase := .done, timers := { (s.head h).seq.timers with snift := none } }
    pilots := { (s.head h).pilots with snift := s.releasedPilot h .snift } } := by
  have phase : (s.head h).seq.phase = .snift := snift
  have left : (s.head h).seq.timers.leaving (s.head h).seq.phase .done = { (s.head h).seq.timers with snift := none } := by
    rw [phase]; rfl
  rw [sniftDone_snift snift, enterPhase, modSeq, head_modHead_self, modTicket, head_modHead_self, head_release]
  simp only [left]; rfl

/-- Settles O17: `sniftDone` from the state with the snift timer stopped. -/
theorem sniftExpiryVents : Obligations.SniftExpiryVents := by
  intro t due h s tk installed phase held running passed s' x
  let u := stopTimer .snift h s'
  have head : u.head h = { x with seq := { x.seq with timers := { x.seq.timers with snift := none } } } := head_stopTimer .snift h s'
  have snift : u.phase h = .snift := (stopTimer_phase .snift h s').trans phase
  have only : FillOnly h s' (sniftDone h u) := (stopTimer_fillOnly .snift h s').trans (sniftDone_fillOnly h u)
  have released : u.releasedPilot h .snift = s'.releasedPilot h .snift := releasedPilot_congr (by rw [head]; rfl) rfl
  refine ⟨sniftDone h u, congrArg _ (takeExpiry_due (n := .snift) (s := s') installed running passed), ?_, ?_,
    only.others, only.members, only.attentionLine⟩
  · rw [head_sniftDone snift, released, head]
    simp only [x, held]; rfl
  · rw [entryOf_sniftDone snift]
    exact entryWithout_congr rfl (by rw [head])

/-! ## The gas and the fill crossing (R82, R84) -/

section Crossings
variable {h : HeadId} {s : State}

theorem gasCrossing_seated (seated : s.phase h = .seated) : gasCrossing h s =
    queueOpen .gas h (setHead h { s.head h with seq := { (s.head h).seq with phase := .pressurize } } s) := by
  have phase : (s.head h).seq.phase = .seated := seated
  have left : (s.head h).seq.timers.leaving (s.head h).seq.phase .pressurize = (s.head h).seq.timers := by rw [phase]; rfl
  have entered : enterPhase .pressurize h s = setHead h { s.head h with seq := { (s.head h).seq with phase := .pressurize } } s :=
    congrArg (fun q => setHead h { s.head h with seq := { (s.head h).seq with phase := .pressurize, timers := q } } s) left
  calc gasCrossing h s
    _ = enterPhase .pressurize h (queueOpen .gas h s) := if_pos seated
    _ = queueOpen .gas h (enterPhase .pressurize h s) := rfl
    _ = _ := by rw [entered]

theorem fillCrossing_pressurize (pressurize : s.phase h = .pressurize) : fillCrossing h s =
    if (s.head h).seq.equalized then queueOpen .fill h (modSeq h (fun q => { q with fillReached := true }) s)
    else modSeq h (fun q => { q with fillReached := true }) s := by simp only [fillCrossing, pressurize]

theorem fillCrossing_seated (seated : s.phase h = .seated) :
    fillCrossing h s = modSeq h (fun q => { q with fillReached := true }) s := by simp only [fillCrossing, seated]

theorem fillCrossing_other (pressurize : s.phase h ≠ .pressurize) (seated : s.phase h ≠ .seated) : fillCrossing h s = s := by
  unfold fillCrossing; split
  next e => exact absurd e pressurize
  next e => exact absurd e seated
  all_goals rfl

/-! ## The close-by and the snift-by crossing (R95, R96) -/

/-- The sequencer has noted that the close-by position has been passed (R95). -/
def notePassed (h : HeadId) (s : State) : State := modSeq h (fun q => { q with closeByPassed := true }) s

theorem head_notePassed (h : HeadId) (s : State) : (notePassed h s).head h =
    { s.head h with seq := { (s.head h).seq with closeByPassed := true } } := head_modHead_self h _ s

theorem notePassed_phase (h : HeadId) (s : State) : (notePassed h s).phase h = s.phase h := by rw [State.phase, head_notePassed]; rfl

theorem closeByCrossing_empty (empty : s.phase h = .empty) : closeByCrossing h s = s := by
  simp only [closeByCrossing, empty]

theorem closeByCrossing_late (late : s.phase h ∈ [Phase.settle, .snift, .done]) : closeByCrossing h s = notePassed h s := by
  simp only [List.mem_cons, List.not_mem_nil, or_false] at late
  obtain e | e | e := late <;> simp only [closeByCrossing, e] <;> rfl

theorem closeByCrossing_early (early : s.phase h ∈ [Phase.seated, .pressurize]) :
    closeByCrossing h s = forceToSnift .closeBy h (notePassed h s) := by
  simp only [List.mem_cons, List.not_mem_nil, or_false] at early
  obtain e | e := early <;> simp only [closeByCrossing, e] <;> rfl

theorem closeByCrossing_flowing (flowing : s.phase h = .fast ∨ s.phase h = .slow ∨ s.phase h = .topup) :
    closeByCrossing h s = forceToSettle .closeBy h (notePassed h s) := by
  obtain e | e | e := flowing <;> simp only [closeByCrossing, e] <;> rfl

theorem sniftByCrossing_past (past : s.phase h ∈ [Phase.empty, .snift, .done]) : sniftByCrossing h s = s := by
  simp only [List.mem_cons, List.not_mem_nil, or_false] at past
  obtain e | e | e := past <;> simp only [sniftByCrossing, e]

theorem sniftByCrossing_open (opened : s.phase h ∈ [Phase.seated, .pressurize, .fast, .slow, .topup]) :
    sniftByCrossing h s = forceToSnift .sniftBy h s := by
  simp only [List.mem_cons, List.not_mem_nil, or_false] at opened
  obtain e | e | e | e | e := opened <;> simp only [sniftByCrossing, e]

theorem sniftByCrossing_settle (settle : s.phase h = .settle) :
    sniftByCrossing h s = doseEnd h (modTicket h (fun tk => { tk with settleCut := true }) s) := by
  simp only [sniftByCrossing, settle]

theorem closeByCrossing_forced (early : s.phase h ∈ [Phase.seated, .pressurize]) :
    ForcedToSnift .closeBy h (s.head h).causes (s.head h).record.service (notePassed h s) (closeByCrossing h s) := by
  have filling : ((notePassed h s).phase h).filling = true := by
    have all : ∀ p ∈ [Phase.seated, .pressurize], p.filling = true := by decide
    rw [notePassed_phase]; exact all _ early
  have forced := forceToSnift_forced (r := .closeBy) filling
  rw [head_notePassed] at forced
  rw [closeByCrossing_early early]; exact forced

theorem closeByCrossing_settled {tk : Ticket} (held : (s.head h).ticket = some tk)
    (flowing : s.phase h = .fast ∨ s.phase h = .slow ∨ s.phase h = .topup) :
    Settled (settleAfter (s.phase h)) [.fast, .slow] h (tk.endedWith .closeBy (s.phase h)) (notePassed h s) (closeByCrossing h s) := by
  have phase := notePassed_phase h s
  have settled := forceToSettle_settled (r := .closeBy) (by rw [phase]; exact flowing) (by rw [head_notePassed]; exact held)
  rw [phase] at settled
  rw [closeByCrossing_flowing flowing]; exact settled

theorem sniftByCrossing_forced (opened : s.phase h ∈ [Phase.seated, .pressurize, .fast, .slow, .topup]) :
    ForcedToSnift .sniftBy h (s.head h).causes (s.head h).record.service s (sniftByCrossing h s) := by
  have all : ∀ p ∈ [Phase.seated, .pressurize, .fast, .slow, .topup], p.filling = true := by decide
  rw [sniftByCrossing_open opened]; exact forceToSnift_forced (all _ opened)

/-- Dose end out of SETTLE, from a state after which only the ticket was worked on (R96, R103). -/
theorem doseEnd_modTicket_settle {f : Ticket → Ticket} {tk : Ticket} (held : (s.head h).ticket = some tk)
    (settling : s.phase h = .settle) :
    DoseEnded h (f tk).judge (s.head h).causes (s.head h).record.service s (doseEnd h (modTicket h f s)) ∧
    ((doseEnd h (modTicket h f s)).head h).seq = (s.head h).seq.rested .snift ∧
    ((doseEnd h (modTicket h f s)).head h).pilots = { (s.head h).pilots with gas := s.releasedPilot h .gas } := by
  have head : (modTicket h f s).head h = { s.head h with ticket := some (f tk) } :=
    (head_modHead_self h _ s).trans (by rw [held]; rfl)
  have works := plant_works (doseEnd_plant h (modTicket h f s)) h
  have gas : (modTicket h f s).releasedPilot h .gas = s.releasedPilot h .gas := releasedPilot_congr (by rw [head]) rfl
  have phase : (s.head h).seq.phase = .settle := settling
  refine ⟨.of_fillOnly (modTicket_fillOnly h f s) (doseEnd_doseEnded (by rw [head])), ?_, ?_⟩
  · rw [works_seq works, head_doseJudged, State.phase, head]
    simp only [phase]; rfl
  · rw [works_pilots works, head_doseJudged, gas, head]; rfl

end Crossings

/-- Settles O20, phase by phase. -/
theorem gasAndFillCrossingsQueueOpens : Obligations.GasAndFillCrossingsQueueOpens := by
  refine fun h s => ⟨gasCrossing_seated, fun other => if_neg other, fun pressurize equalized => ?_, fun before => ?_,
    fillCrossing_other⟩
  · rw [fillCrossing_pressurize pressurize, if_pos equalized]; rfl
  · obtain ⟨pressurize, unequal⟩ | seated := before
    · rw [fillCrossing_pressurize pressurize, if_neg (by rw [unequal]; decide)]; rfl
    · exact fillCrossing_seated seated

/-- Settles O21, by the crossing of each phase. -/
theorem lateCrossingsForce : Obligations.LateCrossingsForce := by
  intro h s tk x passed
  refine ⟨fun empty => ⟨closeByCrossing_empty empty, sniftByCrossing_past (by rw [empty]; decide)⟩, closeByCrossing_late,
    fun past => sniftByCrossing_past (List.mem_cons_of_mem _ past), closeByCrossing_forced, sniftByCrossing_forced,
    fun held metered => ?_, fun held topup => ?_, fun held settle => ?_⟩
  · have first : settleAfter (s.phase h) = .first ∧ (s.phase h = .fast ∨ s.phase h = .slow ∨ s.phase h = .topup) := by
      have all : ∀ p ∈ [Phase.fast, .slow], settleAfter p = .first ∧ (p = .fast ∨ p = .slow ∨ p = .topup) := by decide
      exact all _ metered
    have settled := closeByCrossing_settled held first.2
    rw [first.1] at settled; exact settled
  · have settled := closeByCrossing_settled held (.inr (.inr topup))
    rw [topup] at settled; exact settled
  · rw [sniftByCrossing_settle settle]; exact doseEnd_modTicket_settle held settle

end Sys2Proof.Machine
end

section
/-! SUPPORT. The docket (the transit list, and the tag of the ticket each head carries) under every operation but seating, discharge and the
ticket requests: none writes it (R112, R114, R116). -/

namespace Sys2Proof.Machine

/-! ## The docket -/

/-- The tag of the ticket that a head carries. -/
def State.carried (s : State) (h : HeadId) : Option Tag := (s.head h).ticket.map (·.tag)

/-- Which tickets exist, and where: the transit list, and the tag that each head carries. -/
def State.docket (s : State) : List Ticket × (HeadId → Option Tag) := (s.transit, s.carried)

theorem docket_transit {s t : State} (e : t.docket = s.docket) : t.transit = s.transit := congrArg Prod.fst e
theorem docket_carried {s t : State} (e : t.docket = s.docket) : t.carried = s.carried := congrArg Prod.snd e

theorem docket_of {s t : State} (transit : t.transit = s.transit)
    (carried : ∀ j, (t.head j).ticket.map (·.tag) = (s.head j).ticket.map (·.tag)) : t.docket = s.docket :=
  Prod.ext transit (funext carried)

theorem docket_of_plant {s t : State} (papers : t.papers = s.papers) (plant : t.plant = s.plant) : t.docket = s.docket :=
  docket_of (papers_transit papers) fun j => by rw [works_ticket (plant_works plant j)]

/-- A change of one head that leaves the tag it carries. -/
theorem modHead_docket {h : HeadId} {f : Head → Head} {s : State}
    (same : (f (s.head h)).ticket.map (·.tag) = (s.head h).ticket.map (·.tag)) : (modHead h f s).docket = s.docket :=
  docket_of rfl fun j => by rw [head_modHead]; split <;> simp [*]

/-- A change of every head that leaves the tickets. -/
theorem mapHeads_docket (f : Head → Head) (same : ∀ x, (f x).ticket = x.ticket) (s : State) : (mapHeads f s).docket = s.docket :=
  docket_of rfl fun j => by rw [head_mapHeads, same]

/-! ## Ops -/

@[simp] theorem modSeq_docket (h : HeadId) (f : Sequencer → Sequencer) (s : State) : (modSeq h f s).docket = s.docket := modHead_docket rfl
@[simp] theorem modRecord_docket (h : HeadId) (f : HeadRecord → HeadRecord) (s : State) : (modRecord h f s).docket = s.docket :=
  modHead_docket rfl
@[simp] theorem modCauses_docket (h : HeadId) (f : Causes → Causes) (s : State) : (modCauses h f s).docket = s.docket := modHead_docket rfl
@[simp] theorem modPilots_docket (h : HeadId) (f : Pilots → Pilots) (s : State) : (modPilots h f s).docket = s.docket := modHead_docket rfl
/-- What is recorded on a ticket leaves its tag. -/
theorem modTicket_docket (f : Ticket → Ticket) (h : HeadId) (s : State) (same : ∀ tk, (f tk).tag = tk.tag := by intro; rfl) :
    (modTicket h f s).docket = s.docket :=
  modHead_docket (by simp [Function.comp_def, same])
@[simp] theorem judgeLine_docket (s : State) : (judgeLine s).docket = s.docket := rfl
@[simp] theorem putQueue_docket (q : List Entry) (s : State) : (putQueue q s).docket = s.docket := rfl
@[simp] theorem putBoosts_docket (b : Vector (Option Grant) 6) (s : State) : (putBoosts b s).docket = s.docket := rfl
@[simp] theorem withdraw_docket (h : HeadId) (s : State) : (withdraw h s).docket = s.docket := rfl
@[simp] theorem queueOpen_docket (k : OpenKind) (h : HeadId) (s : State) : (queueOpen k h s).docket = s.docket := rfl
@[simp] theorem startTimer_docket (n : TimerName) (h : HeadId) (s : State) : (startTimer n h s).docket = s.docket := by
  unfold startTimer; split
  · rfl
  · exact modSeq_docket h _ s
@[simp] theorem stopTimer_docket (n : TimerName) (h : HeadId) (s : State) : (stopTimer n h s).docket = s.docket := modSeq_docket h _ s
@[simp] theorem stopTimers_docket (h : HeadId) (s : State) : (stopTimers h s).docket = s.docket := modSeq_docket h _ s
@[simp] theorem enterPhase_docket (p : Phase) (h : HeadId) (s : State) : (enterPhase p h s).docket = s.docket := modSeq_docket h _ s
@[simp] theorem release_docket (p : Pilot) (h : HeadId) (s : State) : (release p h s).docket = s.docket :=
  docket_of (papers_transit (release_papers p h s)) fun j => by
    by_cases e : j = h
    · rw [e, head_release]
    · rw [head_release_ne e]
@[simp] theorem releaseFill_docket (h : HeadId) (s : State) : (releaseFill h s).docket = s.docket := by simp [releaseFill]

@[simp] theorem changeCauses_docket (h : HeadId) (f : Causes → Causes) (s : State) : (changeCauses h f s).docket = s.docket :=
  modCauses_docket h f s
@[simp] theorem changeGlobals_docket (f : Globals → Globals) (s : State) : (changeGlobals f s).docket = s.docket := rfl
@[simp] theorem takeOut_docket (h : HeadId) (s : State) : (takeOut h s).docket = s.docket :=
  docket_of_plant (takeOut_papers h s) (takeOut_plant h s)
@[simp] theorem raiseEquipment_docket (d : EquipmentDetail) (h : HeadId) (s : State) : (raiseEquipment d h s).docket = s.docket :=
  docket_of_plant (raiseEquipment_papers d h s) (raiseEquipment_plant d h s)
@[simp] theorem countFault_docket (h : HeadId) (s : State) : (countFault h s).docket = s.docket :=
  docket_of_plant (countFault_papers h s) (countFault_plant h s)
@[simp] theorem writeK_docket (k : Nat) (h : HeadId) (s : State) : (writeK k h s).docket = s.docket :=
  docket_of_plant (writeK_papers k h s) (writeK_plant k h s)

/-! ## Fill sequence -/

@[simp] theorem learn_docket (h : HeadId) (s : State) : (learn h s).docket = s.docket := by
  unfold learn; split
  · split
    · split
      · exact modRecord_docket h _ s
      · rfl
    · rfl
  · rfl
@[simp] theorem reportDoseEnd_docket (h : HeadId) (s : State) : (reportDoseEnd h s).docket = s.docket :=
  docket_of_plant (reportDoseEnd_papers h s) (reportDoseEnd_plant h s)
@[simp] theorem doseEnd_docket (h : HeadId) (s : State) : (doseEnd h s).docket = s.docket := by
  simp [doseEnd, modTicket_docket Ticket.judge]
@[simp] theorem closeIfMetered_docket (h : HeadId) (s : State) : (closeIfMetered h s).docket = s.docket := by
  unfold closeIfMetered; split <;> simp [modTicket_docket Ticket.recordClose]
@[simp] theorem enterSettle_docket (w : Settle) (h : HeadId) (s : State) : (enterSettle w h s).docket = s.docket := by simp [enterSettle]
@[simp] theorem forceToSettle_docket (r : Reason) (h : HeadId) (s : State) : (forceToSettle r h s).docket = s.docket := by
  unfold forceToSettle; split <;> simp [modTicket_docket (Ticket.addReason r)]
@[simp] theorem forceToSnift_docket (r : Reason) (h : HeadId) (s : State) : (forceToSnift r h s).docket = s.docket := by
  unfold forceToSnift; split <;> simp [modTicket_docket (Ticket.addReason r)]
@[simp] theorem equipmentEnding_docket (d : EquipmentDetail) (r : Reason) (h : HeadId) (s : State) :
    (equipmentEnding d r h s).docket = s.docket := by simp [equipmentEnding]
@[simp] theorem pulseTimers_docket (h : HeadId) (s : State) : (pulseTimers h s).docket = s.docket := by
  unfold pulseTimers; split
  case h_3 => split <;> simp
  all_goals simp
@[simp] theorem closeCrossing_docket (h : HeadId) (s : State) : (closeCrossing h s).docket = s.docket :=
  ((enterSettle_docket .first h _).trans (releaseFill_docket h _)).trans (modTicket_docket _ h s)
@[simp] theorem takeDoseCrossing_docket (c : DoseCrossing) (h : HeadId) (s : State) : (takeDoseCrossing c h s).docket = s.docket := by
  cases c <;> simp [takeDoseCrossing]
theorem countPulse_docket {tk : Ticket} {h : HeadId} {s : State} (held : (s.head h).ticket = some tk) :
    (countPulse tk h s).docket = s.docket :=
  (pulseTimers_docket h _).trans (modHead_docket (by rw [held]; rfl))
@[simp] theorem countGlitch_docket (h : HeadId) (s : State) : (countGlitch h s).docket = s.docket := modTicket_docket _ h s
@[simp] theorem flowStill_docket (h : HeadId) (s : State) : (flowStill h s).docket = s.docket := by
  unfold flowStill; split
  · simp only; split
    · simp [enterTopUp, modTicket_docket Ticket.recordSample, modTicket_docket (fun tk => { tk with toppedUp := true })]
    · simp [modTicket_docket Ticket.recordSample]
  · simp
  · rfl
@[simp] theorem sniftDone_docket (h : HeadId) (s : State) : (sniftDone h s).docket = s.docket := by
  unfold sniftDone; split <;> simp [modTicket_docket (fun tk => { tk with headEnd := some .vented })]
@[simp] theorem equalize_docket (h : HeadId) (s : State) : (equalize h s).docket = s.docket := by
  unfold equalize; simp only; split <;> simp

/-! ## Grants and pulses -/

@[simp] theorem gasGrant_docket (h : HeadId) (s : State) : (gasGrant h s).docket = s.docket := by
  unfold gasGrant; simp only; split <;> simp
@[simp] theorem takeGrant_docket (k : OpenKind) (h : HeadId) (s : State) : (takeGrant k h s).docket = s.docket := by
  unfold takeGrant; split <;> simp
@[simp] theorem grant_docket (i : BoostId) (e : Entry) (s : State) : (grant i e s).docket = s.docket := by simp [grant, energise]
@[simp] theorem arbitrate_docket (s : State) : (arbitrate s).docket = s.docket :=
  arbitrate_keeps (P := fun u => u.docket = s.docket) (fun i e u _ _ same => (grant_docket i e u).trans same) rfl
theorem forInstalled_docket {f : HeadId → State → State} (hf : ∀ h s, (f h s).docket = s.docket) (s : State) :
    (forInstalled f s).docket = s.docket :=
  forInstalled_keeps (P := fun u => u.docket = s.docket) (fun h u same => (hf h u).trans same) rfl
@[simp] theorem abortAll_docket (r : Reason) (s : State) : (abortAll r s).docket = s.docket := by
  rw [abortAll, arbitrate_docket, forInstalled_docket (forceToSnift_docket r)]
@[simp] theorem completeBoost_docket (i : BoostId) (g : Grant) (s : State) : (completeBoost i g s).docket = s.docket := by
  simp [completeBoost]
@[simp] theorem takeDwellEnd_docket (due : Time) (h : HeadId) (p : Pilot) (s : State) : (takeDwellEnd due h p s).docket = s.docket := by
  simp [takeDwellEnd]
@[simp] theorem countedEdge_docket (h : HeadId) (s : State) : (countedEdge h s).docket = s.docket := by
  unfold countedEdge; split <;> simp
theorem takeExpiry_docket (n : TimerName) {act : HeadId → State → State} (ha : ∀ h s, (act h s).docket = s.docket) (h : HeadId) (s : State) :
    (takeExpiry n act h s).docket = s.docket := by
  unfold takeExpiry; split
  · rw [arbitrate_docket, ha, stopTimer_docket]
  · rfl
theorem countedPulse_docket {tk : Ticket} {h : HeadId} {s : State} (held : (s.head h).ticket = some tk) :
    (countedPulse tk h s).docket = s.docket := by
  unfold countedPulse; split
  · exact countPulse_docket held
  · rw [arbitrate_docket, takeDoseCrossing_docket, countPulse_docket held]
@[simp] theorem glitchPulse_docket (tk : Ticket) (h : HeadId) (s : State) : (glitchPulse tk h s).docket = s.docket := by
  unfold glitchPulse; split <;> simp
@[simp] theorem meterPulse_docket (h : HeadId) (s : State) : (meterPulse h s).docket = s.docket := by
  unfold meterPulse; split
  · split
    · rfl
    next held =>
      split
      · exact glitchPulse_docket _ h s
      · exact countedPulse_docket held
  · exact modRecord_docket h _ s

/-! ## Crossings but infeed and discharge -/

@[simp] theorem gasCrossing_docket (h : HeadId) (s : State) : (gasCrossing h s).docket = s.docket := by
  unfold gasCrossing; split <;> simp
@[simp] theorem fillCrossing_docket (h : HeadId) (s : State) : (fillCrossing h s).docket = s.docket := by
  unfold fillCrossing; split
  · simp only; split <;> simp
  · exact modSeq_docket h _ s
  all_goals rfl
@[simp] theorem closeByCrossing_docket (h : HeadId) (s : State) : (closeByCrossing h s).docket = s.docket := by
  unfold closeByCrossing; simp only; split <;> simp
@[simp] theorem sniftByCrossing_docket (h : HeadId) (s : State) : (sniftByCrossing h s).docket = s.docket := by
  unfold sniftByCrossing; split <;> simp [modTicket_docket (fun tk => { tk with settleCut := true })]
@[simp] theorem commitCrossing_docket (h : HeadId) (s : State) : (commitCrossing h s).docket = s.docket :=
  docket_of_plant (commitCrossing_papers h s) (commitCrossing_plant h s)

/-! ## Requests but those of the ticket table -/

@[simp] theorem requeueSnift_docket (h : HeadId) (s : State) : (requeueSnift h s).docket = s.docket := by
  unfold requeueSnift; split <;> simp
@[simp] theorem recordOutcome_docket (h : HeadId) (o : CalOutcome) (k : Option Nat) (tag : Tag) (s : State) :
    (recordOutcome h o k tag s).docket = s.docket := by simp [recordOutcome, raiseCalDone]
@[simp] theorem completeDivision_docket (c : Calibration) (s : State) : (completeDivision c s).docket = s.docket := by
  have idle (u : State) : ({ u with divider := none } : State).docket = u.docket := rfl
  unfold completeDivision; simp only [recordOutcome_docket, idle]; split <;> simp
@[simp] theorem cancelCalibration_docket (s : State) : (cancelCalibration s).docket = s.docket := by
  unfold cancelCalibration; split
  · rfl
  · exact recordOutcome_docket _ _ _ _ _
@[simp] theorem resetHead_docket (h : HeadId) (s : State) : (resetHead h s).docket = s.docket := by
  have cancelled (u : State) : (cancelForHead h u).docket = u.docket := by unfold cancelForHead; split <;> simp
  simp [resetHead, cancelled, resetRecord, resetSequencer]
@[simp] theorem resetSequencers_docket (s : State) : (resetSequencers s).docket = s.docket := by
  rw [resetSequencers, forInstalled_docket requeueSnift_docket, forInstalled_docket (forceToSnift_docket .reset)]
  exact mapHeads_docket _ (by intro x; rfl) _
@[simp] theorem resetRecords_docket (s : State) : (resetRecords s).docket = s.docket := forInstalled_docket (fun h u => by simp) s
@[simp] theorem clearAllCauses_docket (s : State) : (clearAllCauses s).docket = s.docket :=
  forInstalled_docket (fun h u => modCauses_docket h _ u) s
@[simp] theorem clearHead_docket (kinds : Byte) (h : HeadId) (s : State) : (clearHead kinds h s).docket = s.docket := by
  unfold clearHead; simp only; split <;> simp
@[simp] theorem applyHeadFields_docket (f : HeadFields) (h : HeadId) (s : State) : (applyHeadFields f h s).docket = s.docket := by
  have k (u : State) : (applyK f.k h u).docket = u.docket := by unfold applyK; split <;> simp
  have slot (u : State) : (applySlot f.slot h u).docket = u.docket := by unfold applySlot writeSlot; split <;> [rfl; (split <;> simp)]
  have reset (u : State) : (applyReset f.reset h u).docket = u.docket := by unfold applyReset; split <;> [rfl; (split <;> simp)]
  have joined (u : State) : (becomeJoining h u).docket = u.docket :=
    docket_of_plant (becomeJoining_papers h u) (becomeJoining_plant h u)
  have service (u : State) : (applyService f.service h u).docket = u.docket := by
    unfold applyService bringIn; split
    · rfl
    · split <;> simp [joined]
    · exact takeOut_docket h u
  rw [applyHeadFields, service, reset, slot, k]
@[simp] theorem writeCurrent_docket (n : SlotId) (rev : Revision) (s : State) : (writeCurrent n rev s).docket = s.docket :=
  mapHeads_docket _ (fun x => by split <;> rfl) _
@[simp] theorem applyLine_docket (l : LineSetup) (s : State) : (applyLine l s).docket = s.docket := by
  rw [applyLine_eq, arbitrate_docket]
  refine docket_of (by rw [relined_eq]; rfl) fun j => ?_
  rw [head_relined]; split <;> rfl
@[simp] theorem trimFrom_docket (tk : Ticket) (s : State) : (trimFrom tk s).docket = s.docket := by
  unfold trimFrom trimHead raiseTrimLimit; split
  · split
    · simp only; split <;> simp
    · rfl
  · rfl

end Sys2Proof.Machine
end

section
/-! SUPPORT. The transit list and the tags (R115 to R117, R120): what naming, changing and removing one of its tickets makes of the list, and
the bounds and the distinctness that seating and discharge keep. -/

namespace Sys2Proof.Machine

/-! ## One ticket of the list (R120) -/

/-- A change of the ticket named leaves every item that the change itself leaves. -/
theorem map_changeFirst {β : Type} {g : Ticket → β} {f : Ticket → Ticket} (same : ∀ tk, g (f tk) = g tk) (n : Tag) (l : List Ticket) :
    (changeFirst n f l).map g = l.map g := by
  induction l with
  | nil => rfl
  | cons x l ih =>
    rw [changeFirst]; split
    · rw [List.map_cons, List.map_cons, same]
    · rw [List.map_cons, List.map_cons, ih]

/-- A change of the ticket named makes one more ticket KEPT at most. -/
theorem countP_changeFirst_le (n : Tag) (f : Ticket → Ticket) (p : Ticket → Bool) (l : List Ticket) :
    (changeFirst n f l).countP p ≤ l.countP p + 1 := by
  induction l with
  | nil => simp [changeFirst]
  | cons x l ih =>
    rw [changeFirst]; split
    · rw [List.countP_cons, List.countP_cons]; split <;> omega
    · rw [List.countP_cons, List.countP_cons]; omega

section Named
variable {older newer : List Ticket} {tk : Ticket} {n : Tag}

theorem changeFirst_named (named : tk.tag = n) (before : ∀ o ∈ older, o.tag ≠ n) (f : Ticket → Ticket) :
    changeFirst n f (older ++ tk :: newer) = older ++ f tk :: newer := by
  induction older with
  | nil => exact if_pos named
  | cons x older ih =>
    obtain ⟨other, before⟩ := List.forall_mem_cons.mp before
    rw [List.cons_append, changeFirst, if_neg other, ih before, List.cons_append]

theorem eraseP_named (named : tk.tag = n) (before : ∀ o ∈ older, o.tag ≠ n) :
    (older ++ tk :: newer).eraseP (fun k => decide (k.tag = n)) = older ++ newer := by
  rw [List.eraseP_append_right _ (by simpa using before), List.eraseP_cons_of_pos (by simpa using named)]

theorem find_named (named : tk.tag = n) (before : ∀ o ∈ older, o.tag ≠ n) :
    (older ++ tk :: newer).find? (fun k => decide (k.tag = n)) = some tk :=
  List.find?_eq_some_iff_append.mpr ⟨by simpa using named, older, newer, rfl, by simpa using before⟩

theorem olderThan_named (named : tk.tag = n) (before : ∀ o ∈ older, o.tag ≠ n) : olderThan n (older ++ tk :: newer) = older := by
  rw [olderThan, List.takeWhile_append_of_pos (by simpa using before), List.takeWhile_cons_of_neg (by simpa using named), List.append_nil]

theorem withoutMissed_named (named : tk.tag = n) (before : ∀ o ∈ older, o.tag ≠ n) :
    withoutMissed n (older ++ tk :: newer) = older.filter (fun o => !o.missable) ++ tk :: newer := by
  rw [withoutMissed, olderThan_named named before, List.dropWhile_append_of_pos (by simpa using before),
    List.dropWhile_cons_of_neg (by simpa using named)]

end Named

/-- The missed tickets leave the list, the order of the others standing (R122). -/
theorem withoutMissed_sublist (n : Tag) (l : List Ticket) : (withoutMissed n l).Sublist l := by
  conv_rhs => rw [← List.takeWhile_append_dropWhile (p := fun tk => decide (tk.tag ≠ n)) (l := l)]
  exact List.filter_sublist.append (.refl _)

/-! ## The bounds of the list (R120) -/

/-- At most 64 tickets, at most 8 of them KEPT. -/
def ListLegal (l : List Ticket) : Prop := l.length ≤ Config.transitMax ∧ l.countP (·.kept) ≤ Config.keptMax

theorem keptCount_eq (s : State) : s.keptCount = s.transit.countP (·.kept) := List.countP_eq_length_filter.symm

theorem transitLegal_iff {s : State} : TransitLegal s ↔ ListLegal s.transit := by rw [TransitLegal, keptCount_eq, ListLegal]

theorem ListLegal.sublist {l l' : List Ticket} (legal : ListLegal l) (sub : l'.Sublist l) : ListLegal l' :=
  ⟨sub.length_le.trans legal.1, sub.countP_le.trans legal.2⟩

/-- A full list has a ticket that is not KEPT, so one is displaced (R117). -/
theorem transitRoom_length {s : State} (legal : ListLegal s.transit) : s.transitRoom.length < Config.transitMax := by
  obtain ⟨most, kept⟩ := legal
  unfold State.transitRoom; split
  · assumption
  next full =>
    have free : ∃ tk ∈ s.transit, (!tk.kept) = true := by
      by_contra none
      have all : s.transit.countP (·.kept) = s.transit.length := List.countP_eq_length.mpr (by simpa using none)
      have : Config.keptMax < 64 := by decide
      omega
    obtain ⟨tk, mem, free⟩ := free
    rw [List.length_eraseP_of_mem mem free]
    have : Config.transitMax = 64 := rfl
    omega

theorem transitRoom_sublist (s : State) : s.transitRoom.Sublist s.transit := by
  unfold State.transitRoom; split
  · exact .refl _
  · exact List.eraseP_sublist

/-! ## The tags (R115) -/

/-- No two tickets of the list, no two heads, and no head and ticket of the list have the same tag. -/
structure TagsApart (transit : List Ticket) (carried : HeadId → Option Tag) : Prop where
  list : (transit.map (·.tag)).Nodup
  heads : ∀ h j n, carried h = some n → carried j = some n → h = j
  apart : ∀ h n, carried h = some n → n ∉ transit.map (·.tag)

/-- The tags of all existing tickets, those in transit first. -/
theorem tags_eq (s : State) : s.tags = s.transit.map (·.tag) ++ (List.finRange 96).filterMap s.carried := by
  rw [State.tags, allTickets_eq_searchOrder, State.searchOrder, List.map_append, List.map_map, List.map_filterMap]
  congr 2
  funext h
  rw [State.carried, Option.map_map]; rfl

theorem nodup_tags_iff {s : State} : s.tags.Nodup ↔ TagsApart s.transit s.carried := by
  rw [tags_eq, List.nodup_append]
  have live (n : Tag) : n ∈ (List.finRange 96).filterMap s.carried ↔ ∃ h, s.carried h = some n := by simp
  constructor
  · rintro ⟨list, heads, apart⟩
    refine ⟨list, fun h j n here there => ?_, fun h n here mem => apart n mem n ((live n).mpr ⟨h, here⟩) rfl⟩
    by_contra ne
    rw [List.Nodup, List.pairwise_filterMap] at heads
    have symm : Std.Symm fun a b : HeadId => ∀ x, s.carried a = some x → ∀ y, s.carried b = some y → x ≠ y :=
      ⟨fun a b distinct x hx y hy => (distinct y hy x hx).symm⟩
    exact ((List.nodup_finRange 96).pairwise_coe.mpr heads) (List.mem_finRange h) (List.mem_finRange j) ne n here n there rfl
  · rintro ⟨list, heads, apart⟩
    refine ⟨list, (List.nodup_finRange 96).filterMap fun h j n here there => heads h j n here there, fun n mem m carried same => ?_⟩
    obtain ⟨h, here⟩ := (live m).mp carried
    exact apart h m here (same ▸ mem)

theorem mem_tags_iff {s : State} {n : Tag} : n ∈ s.tags ↔ n ∈ s.transit.map (·.tag) ∨ ∃ h, s.carried h = some n := by
  rw [tags_eq, List.mem_append]; simp

/-! ## What an event keeps of the bounds and of the tags' distinctness -/

/-- The event keeps the list's bounds, and under them the tags distinct. -/
structure Filed (s t : State) : Prop where
  legal : ListLegal s.transit → ListLegal t.transit
  tags : ListLegal s.transit → TagsApart s.transit s.carried → TagsApart t.transit t.carried

theorem Filed.refl (s : State) : Filed s s := ⟨id, fun _ => id⟩

theorem Filed.trans {s t u : State} (a : Filed s t) (b : Filed t u) : Filed s u :=
  ⟨fun legal => b.legal (a.legal legal), fun legal tags => b.tags (a.legal legal) (a.tags legal tags)⟩

theorem Filed.of_docket {s t : State} (e : t.docket = s.docket) : Filed s t := by
  refine ⟨fun legal => ?_, fun _ tags => ?_⟩
  · rw [docket_transit e]; exact legal
  · rw [docket_transit e, docket_carried e]; exact tags

/-- The list's tags are at most some of those before, in their order; no head's ticket comes or goes. -/
theorem Filed.of_list {s t : State} (carried : t.carried = s.carried) (legal : ListLegal s.transit → ListLegal t.transit)
    (tags : (t.transit.map (·.tag)).Sublist (s.transit.map (·.tag))) : Filed s t := by
  refine ⟨legal, fun _ before => ?_⟩
  rw [carried]
  exact ⟨before.list.sublist tags, before.heads, fun h n here mem => before.apart h n here (tags.subset mem)⟩

/-- Tickets leave the list, the order of the others standing. -/
theorem Filed.of_sublist {s t : State} (carried : t.carried = s.carried) (sub : t.transit.Sublist s.transit) : Filed s t :=
  .of_list carried (·.sublist sub) (sub.map _)

/-! ## Seating (R81, R115) -/

/-- The head's ticket replaced by one with the next tag, which no ticket holds. -/
theorem TagsApart.seated {s : State} {h : HeadId} (tags : TagsApart s.transit s.carried) (fresh : s.nextTag ∉ s.tags)
    {carried : HeadId → Option Tag} (drawn : ∀ j, carried j = if j = h then some s.nextTag else s.carried j) :
    TagsApart s.transit carried := by
  obtain ⟨inTransit, live⟩ := not_or.mp (mt mem_tags_iff.mpr fresh)
  have other {j : HeadId} {n : Tag} (here : carried j = some n) : j = h ∧ n = s.nextTag ∨ j ≠ h ∧ s.carried j = some n := by
    rw [drawn] at here
    by_cases e : j = h
    · rw [if_pos e] at here; exact .inl ⟨e, (Option.some.inj here).symm⟩
    · rw [if_neg e] at here; exact .inr ⟨e, here⟩
  refine ⟨tags.list, fun i j n here there => ?_, fun j n here => ?_⟩
  · obtain ⟨atI, rfl⟩ | ⟨_, heldI⟩ := other here
    · obtain ⟨atJ, -⟩ | ⟨_, heldJ⟩ := other there
      · exact atI.trans atJ.symm
      · exact absurd ⟨j, heldJ⟩ live
    · obtain ⟨-, rfl⟩ | ⟨_, heldJ⟩ := other there
      · exact absurd ⟨i, heldI⟩ live
      · exact tags.heads i j n heldI heldJ
  · obtain ⟨-, rfl⟩ | ⟨_, held⟩ := other here
    · exact inTransit
    · exact tags.apart j n held

theorem seat_filed (h : HeadId) (s : State) : Filed s (seat h s) := by
  unfold seat; split
  next n rev _ _ =>
    refine ⟨id, fun legal tags => tags.seated (h := h) (nextTag_spec legal.1).1 fun j => ?_⟩
    rw [State.carried, head_putTagCounter, head_modHead]; split <;> rfl
  next => exact .refl s

theorem infeedCrossing_filed (h : HeadId) (s : State) : Filed s (infeedCrossing h s) := by
  unfold infeedCrossing; simp only; split
  · split
    · exact seat_filed h s
    · exact .of_docket (changeCauses_docket h _ s)
  · exact .refl s

/-! ## Discharge (R108, R116, R117) -/

/-- The head's ticket at the tail of the list, and no longer carried. -/
theorem TagsApart.handed {l : List Ticket} {s : State} {h : HeadId} {tk tk' : Ticket} (tags : TagsApart s.transit s.carried)
    (sub : l.Sublist s.transit) (held : s.carried h = some tk.tag) (same : tk'.tag = tk.tag) {carried : HeadId → Option Tag}
    (gone : ∀ j, carried j = if j = h then none else s.carried j) : TagsApart (l ++ [tk']) carried := by
  have subTags := sub.map (·.tag)
  have other {j : HeadId} {n : Tag} (here : carried j = some n) : j ≠ h ∧ s.carried j = some n := by
    rw [gone] at here
    by_cases e : j = h
    · rw [if_pos e] at here; cases here
    · rw [if_neg e] at here; exact ⟨e, here⟩
  refine ⟨?_, fun i j n here there => tags.heads i j n (other here).2 (other there).2, fun j n here mem => ?_⟩
  · rw [List.map_append, List.map_singleton, same]
    rw [← List.concat_eq_append]
    exact (tags.list.sublist subTags).concat fun mem => tags.apart h _ held (subTags.subset mem)
  · obtain ⟨ne, here⟩ := other here
    rw [List.map_append, List.map_singleton, same, List.mem_append, List.mem_singleton] at mem
    obtain mem | rfl := mem
    · exact tags.apart j n here (subTags.subset mem)
    · exact ne (tags.heads j h _ here held)

theorem transit_handOver {h : HeadId} {s : State} {tk : Ticket} (held : (s.head h).ticket = some tk) :
    (handOver h s).transit = s.transitRoom ++ [{ tk with kept := false, verdict := none }] := by rw [handOver_eq held]

theorem carried_handOver {h : HeadId} {s : State} {tk : Ticket} (held : (s.head h).ticket = some tk) (j : HeadId) :
    (handOver h s).carried j = if j = h then none else s.carried j := by
  by_cases mine : j = h
  · have gone : ((handOver h s).head h).ticket = none := by
      rw [handOver_eq held]; exact congrArg Head.ticket ((head_setHead h h _ s).trans (if_pos rfl))
    rw [mine, if_pos rfl, State.carried, gone]; rfl
  · rw [if_neg mine, State.carried, works_ticket (works_of_elsewhere (handOver_elsewhere h s) mine)]; rfl

theorem handOver_filed (h : HeadId) (s : State) : Filed s (handOver h s) := by
  cases held : (s.head h).ticket with
  | none => exact .of_docket (by simp only [handOver, held, enterPhase_docket])
  | some tk =>
    have carried : s.carried h = some tk.tag := by rw [State.carried, held]; rfl
    refine ⟨fun legal => ?_, fun _ tags => ?_⟩ <;> rw [transit_handOver held]
    · have room := transitRoom_length legal
      have kept := (legal.sublist (transitRoom_sublist s)).2
      exact ⟨by rw [List.length_append, List.length_singleton]; exact room, by simpa using kept⟩
    · exact tags.handed (tk' := { tk with kept := false, verdict := none }) (transitRoom_sublist s) carried rfl (carried_handOver held)

theorem dischargeSnift_filed (h : HeadId) (s : State) : Filed s (dischargeSnift h s) := by
  have vented : (ventShort h s).docket = s.docket := by
    rw [ventShort, raiseFillFault, changeCauses_docket, modTicket_docket Ticket.cutShort, stopTimer_docket, release_docket]
  have handed : Filed s (handedShort h s) := (Filed.of_docket vented).trans (handOver_filed h _)
  rw [dischargeSnift_eq]; split
  · exact handed
  · exact handed.trans (.of_docket (countFault_docket h _))

theorem dischargeCrossing_filed (h : HeadId) (s : State) : Filed s (dischargeCrossing h s) := by
  have short : Filed s (dischargeSnift h (sniftByCrossing h s)) :=
    (Filed.of_docket (sniftByCrossing_docket h s)).trans (dischargeSnift_filed h _)
  unfold dischargeCrossing; split
  · exact .of_docket rfl
  · exact handOver_filed h s
  · exact dischargeSnift_filed h s
  all_goals exact short

end Sys2Proof.Machine
end

section
/-! SUPPORT. Every command keeps the transit list's bounds and the tags distinct (R115, R120): seating and discharge by their own rules, the
ticket requests as they change the list, every other command because it writes neither list nor tags. -/

namespace Sys2Proof.Machine

/-! ## Crossings and tracker events -/

theorem crossHead_filed (h : HeadId) (s : State) : Filed s (crossHead h s) := by
  have delivered (z : Zone) : Filed s (deliver z h s) := by
    cases z with
    | infeed => exact infeedCrossing_filed h s
    | gas => exact .of_docket (gasCrossing_docket h s)
    | fill => exact .of_docket (fillCrossing_docket h s)
    | closeBy => exact .of_docket (closeByCrossing_docket h s)
    | sniftBy => exact .of_docket (sniftByCrossing_docket h s)
    | discharge => exact dischargeCrossing_filed h s
    | commit => exact .of_docket (commitCrossing_docket h s)
  unfold crossHead; split
  · exact .refl s
  · exact delivered _

theorem forInstalled_filed {f : HeadId → State → State} (hf : ∀ h s, Filed s (f h s)) (s : State) : Filed s (forInstalled f s) :=
  forInstalled_keeps (P := Filed s) (fun h u e => e.trans (hf h u)) (.refl s)

theorem deliverCrossings_filed (s : State) : Filed s (deliverCrossings s) :=
  (forInstalled_filed crossHead_filed s).trans (.of_docket (arbitrate_docket _))

theorem crossingStep_filed (s : State) : Filed s (crossingStep s) := by
  have stepped : Filed s { s with tracker := s.tracker.step } := .of_docket rfl
  exact stepped.trans (deliverCrossings_filed _)

theorem forwardStep_filed (s : State) : Filed s (forwardStep s) := by
  unfold forwardStep; split
  · exact crossingStep_filed s
  · exact .of_docket rfl
  · exact .refl s

theorem reverseStep_docket (s : State) : (reverseStep s).docket = s.docket := by
  have aborted (u : State) : (reverseAbort u).docket = u.docket := abortAll_docket .reverse _
  unfold reverseStep; split
  · exact aborted _
  · simp only; split
    · exact aborted _
    · rfl
  · rfl

theorem referenceIndex_filed (s : State) : Filed s (referenceIndex s) := by
  have discharged (h : HeadId) (u : State) : Filed u (referencingDischarge h u) := by
    unfold referencingDischarge; simp only; split
    · exact dischargeCrossing_filed h u
    · exact .refl u
  have referenced : Filed s { s with tracker := s.tracker.reference } := .of_docket rfl
  exact referenced.trans
    ((forInstalled_filed discharged _).trans (deliverCrossings_filed _))

theorem catchUp_filed : ∀ (k : Nat) (s : State), Filed s (catchUp k s)
  | 0, s => .refl s
  | k + 1, s => (crossingStep_filed s).trans (catchUp_filed k _)

theorem mismatchedIndex_filed (s : State) : Filed s (mismatchedIndex s) := by
  have aborted (k : Nat) (u : State) : (angleAbort k u).docket = u.docket := by unfold angleAbort; split <;> simp
  have raised : Filed s (angleAbort (mismatch s.tracker.angle)
      (raiseAngleFault { s with tracker := { s.tracker with lastIndexError := indexError s.tracker.angle } })) := .of_docket (aborted _ _)
  unfold mismatchedIndex; simp only; split
  · exact raised.trans (.of_docket rfl)
  · exact raised.trans (catchUp_filed _ _)

theorem indexEvent_filed (s : State) : Filed s (indexEvent s) := by
  unfold indexEvent; split
  · exact referenceIndex_filed s
  · split
    · exact .refl s
    · exact mismatchedIndex_filed s
  · exact .refl s

/-! ## Requests of the ticket table (R122 to R125, R134, R153) -/

theorem retireTicket_filed (n : Tag) (s : State) : Filed s (retireTicket n s) := .of_sublist rfl List.eraseP_sublist

theorem retireMissed_filed (n : Tag) (s : State) : Filed s (retireMissed n s) := by
  have missed : Filed s (putTransit (withoutMissed n s.transit) s) := .of_sublist rfl (withoutMissed_sublist n _)
  unfold retireMissed; simp only; split
  · exact missed
  · exact missed.trans (.of_docket rfl)

/-- A ticket is changed in its place: its tag stands, and as many tickets are KEPT as the bound allows. -/
theorem changeFirst_filed {f : Ticket → Ticket} {n : Tag} {s : State} (tag : ∀ tk, (f tk).tag = tk.tag)
    (kept : ListLegal s.transit → (changeFirst n f s.transit).countP (·.kept) ≤ Config.keptMax) :
    Filed s (putTransit (changeFirst n f s.transit) s) := by
  have length : (changeFirst n f s.transit).length = s.transit.length := by
    simpa using congrArg List.length (map_changeFirst tag n s.transit)
  exact .of_list rfl (fun legal => ⟨length ▸ legal.1, kept legal⟩) (by rw [putTransit_transit, map_changeFirst tag])

theorem recordVerdict_filed (v : Verdict) (tk : Ticket) (s : State) : Filed s (recordVerdict v tk s) := by
  have recorded : Filed s (putTransit (changeFirst tk.tag (fun t => { t with verdict := some v }) s.transit) s) := by
    refine changeFirst_filed (fun _ => rfl) fun legal => ?_
    have same := congrArg (List.countP id) (map_changeFirst (g := Ticket.kept) (f := fun t => { t with verdict := some v })
      (fun _ => rfl) tk.tag s.transit)
    rw [List.countP_map, List.countP_map] at same
    exact same.le.trans legal.2
  have trimmed := recorded.trans (.of_docket (trimFrom_docket { tk with verdict := some v } _))
  unfold recordVerdict; simp only; split
  · exact trimmed
  · exact trimmed.trans (retireTicket_filed _ _)

theorem serveVerdict_filed (tag level : Half) (s : State) : Filed s (serveVerdict tag level s).1 := by
  unfold serveVerdict; split
  · exact .refl s
  · split
    · exact .refl s
    · exact (retireMissed_filed _ s).trans (recordVerdict_filed _ _ _)

theorem serveKeep_filed (tag : Half) (s : State) : Filed s (serveKeep tag s).1 := by
  unfold serveKeep; split
  · exact .refl s
  next n _ =>
    split
    · exact .refl s
    · split
      · exact .refl s
      · split
        next room =>
          refine changeFirst_filed (fun _ => rfl) fun _ => ?_
          rw [keptCount_eq] at room
          exact (countP_changeFirst_le n _ _ _).trans room
        next => exact .refl s

theorem serveRetire_filed (tag : Half) (s : State) : Filed s (serveRetire tag s).1 := by
  unfold serveRetire; split
  · exact .refl s
  · split
    · exact .refl s
    · exact retireTicket_filed _ s

theorem serveCalibrate_filed (tag : Half) (w : Wide) (force : Byte) (s : State) : Filed s (serveCalibrate tag w force s).1 := by
  unfold serveCalibrate; split
  · exact .refl s
  · split
    · exact .refl s
    · split
      · exact .refl s
      · split
        · exact .refl s
        · split
          · exact .refl s
          · exact .of_sublist rfl List.eraseP_sublist

theorem resetLine_filed (s : State) : Filed s (resetLine s) := by
  have before : (resetRecords (resetSequencers s)).docket = s.docket := by simp
  have after (u : State) : (arbitrate (cancelCalibration (clearAllCauses u))).docket = u.docket := by simp
  have emptied (u : State) : Filed u (putTransit [] u) := .of_sublist rfl (List.nil_sublist _)
  exact (Filed.of_docket before).trans ((emptied _).trans (.of_docket (after _)))

/-! ## Every request -/

theorem serve_filed (r : Request) (s : State) : Filed s (serve r s).1 := by
  cases r with
  | readStatus => exact .refl s
  | readHead head =>
    simp only [serve, serveReadHead]; split
    · exact .refl s
    · exact .of_docket (changeCauses_docket _ _ _)
  | readRecipe slot => simp only [serve, serveReadRecipe]; split <;> exact .refl s
  | readTicket selector number => exact .refl s
  | findTickets head slot location disposition verdictPresent startAfter => exact .refl s
  | setLine f =>
    simp only [serve, serveSetLine]; split
    · split
      · exact .refl s
      · exact .of_docket (applyLine_docket _ s)
    · exact .refl s
  | writeRecipe slot block =>
    simp only [serve, serveWriteRecipe]; split
    · exact .refl s
    · split
      · exact .refl s
      · split
        · exact .of_docket (writeCurrent_docket _ _ s)
        · exact .of_docket (writeCurrent_docket _ _ s)
        · split
          · exact .refl s
          · exact .of_docket rfl
  | eraseRecipe slot =>
    simp only [serve, serveEraseRecipe]; split
    · exact .refl s
    · split
      · exact .refl s
      · exact .of_docket rfl
  | setHead head service k slot resetLearning =>
    simp only [serve, serveSetHead]; split
    · exact .refl s
    · split
      · exact .refl s
      · split
        · exact .refl s
        · exact .of_docket (applyHeadFields_docket _ _ s)
  | headReset head =>
    simp only [serve, serveHeadReset]; split
    · exact .refl s
    · exact .of_docket (resetHead_docket _ s)
  | lineReset => simp only [serve, serveLineReset]; exact resetLine_filed s
  | abortFill head =>
    simp only [serve, serveAbortFill]; split
    · exact .of_docket (abortAll_docket _ s)
    · split
      · exact .refl s
      · exact .of_docket ((arbitrate_docket _).trans (forceToSnift_docket _ _ s))
  | verdict tag level => exact serveVerdict_filed tag level s
  | keep tag => exact serveKeep_filed tag s
  | retire tag => exact serveRetire_filed tag s
  | calibrate tag w force => exact serveCalibrate_filed tag w force s
  | holdLearning hold =>
    have dropped : (dropPending s).docket = s.docket := mapHeads_docket _ (by intro x; rfl) s
    simp only [serve, serveHoldLearning]; split
    · exact .refl s
    · exact .of_docket dropped
    · exact .of_docket rfl
  | clearAttention target kinds =>
    simp only [serve, serveClearAttention]; split
    · split
      · exact .refl s
      · exact .of_docket rfl
    · split
      · exact .refl s
      · split
        · exact .refl s
        · split
          · exact .refl s
          · exact .of_docket (clearHead_docket kinds _ s)
  | setMask kinds => exact .of_docket rfl

theorem serveNext_filed (s : State) : Filed s (serveNext s) := by
  have framed (f : Frame) : Filed s (serveFrame f s) := by
    unfold serveFrame replied; split
    · exact .of_docket rfl
    next r _ => exact (serve_filed r s).trans (.of_docket rfl)
  unfold serveNext; split
  · exact .refl s
  next f _ _ => exact (framed f).trans (.of_docket rfl)

theorem takeByte_filed (b : Byte) (s : State) : Filed s (takeByte b s) := by
  have linked (l : Link) : Filed s { s with link := l } := .of_docket rfl
  unfold takeByte frameArrives; simp only; split
  · exact linked _
  · split
    · split
      · exact (linked _).trans (serveNext_filed _)
      · exact linked _
    · exact linked _

/-! ## Commands -/

/-- At power-on no ticket exists (R112). -/
theorem execPowerOn_filed {t : Time} {s u : State} (e : execPowerOn t s = .next u) : Filed s u := by
  cases e
  have none (h : HeadId) : ((s.heads.map fun x => Head.powerOn x.presence x.pressureEqual)[h.val]).ticket = none :=
    congrArg Head.ticket (Vector.getElem_map (xs := s.heads) _ h.isLt)
  refine ⟨fun _ => ⟨Nat.zero_le _, Nat.zero_le _⟩, fun _ _ => ⟨List.nodup_nil, fun h j n here => ?_, fun h n here => ?_⟩⟩ <;>
    rw [State.carried, State.head, none] at here <;> cases here

theorem exec_filed {c : Instr} {s u : State} (e : exec c s = .next u) : Filed s u := by
  have stands {v : State} (t : Time) (same : v.docket = (s.advance t).docket) : Filed s v := .of_docket same
  have now (t : Time) : Filed s (s.advance t) := .of_docket rfl
  have turned (t : Time) (x : Encoder) : Filed s { s.advance t with encoder := x } := .of_docket rfl
  have request (r : Request) (t : Time) (e : exec (requestCommand t r) s = .next u) : Filed s u := by
    rw [exec_requestCommand] at e
    cases e
    exact (now t).trans ((serve_filed r _).trans (.of_docket rfl))
  cases c with
  | powerOn t => exact execPowerOn_filed e
  | forwardStep t => cases e; exact (turned t _).trans (forwardStep_filed _)
  | reverseStep t => cases e; exact (turned t _).trans (.of_docket (reverseStep_docket _))
  | directionlessChange t => cases e; exact turned t _
  | indexEvent t => cases e; exact (now t).trans (indexEvent_filed _)
  | meterPulse t h =>
    cases e
    split
    · exact stands t (meterPulse_docket h _)
    · exact now t
  | presenceEdge t h level => cases e; exact stands t (modHead_docket rfl)
  | pressureEqualEdge t h level =>
    have leveled : (modHead h (fun x => { x with pressureEqual := level }) (s.advance t)).docket = (s.advance t).docket :=
      modHead_docket rfl
    cases e
    split
    · exact stands t ((countedEdge_docket h _).trans leveled)
    · exact stands t leveled
  | equalizeExpiry t h => cases e; exact stands t (takeExpiry_docket _ (forceToSnift_docket _) h _)
  | startFlowExpiry t h => cases e; exact stands t (takeExpiry_docket _ (forceToSettle_docket _) h _)
  | stallExpiry t h => cases e; exact stands t (takeExpiry_docket _ (forceToSettle_docket _) h _)
  | flowStillExpiry t h => cases e; exact stands t (takeExpiry_docket _ flowStill_docket h _)
  | settleLimitExpiry t h => cases e; exact stands t (takeExpiry_docket _ (equipmentEnding_docket _ _) h _)
  | sniftExpiry t h => cases e; exact stands t (takeExpiry_docket _ sniftDone_docket h _)
  | boostCompletion t i =>
    simp only [exec, execBoostCompletion] at e
    split at e
    · cases e; exact now t
    · cases e
      split
      · exact stands t ((arbitrate_docket _).trans (completeBoost_docket _ _ _))
      · exact now t
  | dwellEnd t h p =>
    simp only [exec, execDwellEnd] at e
    split at e
    · cases e; exact now t
    · cases e
      split
      · exact stands t (takeDwellEnd_docket _ h p _)
      · exact now t
  | divisionCompletion t =>
    simp only [exec, execDivisionCompletion] at e
    split at e
    · cases e; exact now t
    · cases e; exact stands t (completeDivision_docket _ _)
  | byteReceived t b => cases e; exact (now t).trans (takeByte_filed b _)
  | interbyteGap t =>
    cases e
    split <;> exact .of_docket rfl
  | answerEnd t =>
    cases e
    have ended (l : Link) : Filed (s.advance t) { s.advance t with link := l } := .of_docket rfl
    split
    · exact (now t).trans ((ended _).trans (serveNext_filed _))
    · exact now t
  | malformed t kind body =>
    cases e
    split <;> exact .of_docket rfl
  | readStatus t => exact request .readStatus t e
  | readHead t head => exact request (.readHead head) t e
  | readRecipe t slot => exact request (.readRecipe slot) t e
  | readTicket t selector number => exact request (.readTicket selector number) t e
  | findTickets t head slot location disposition verdictPresent startAfter =>
    exact request (.findTickets head slot location disposition verdictPresent startAfter) t e
  | setLine t fields => exact request (.setLine fields) t e
  | writeRecipe t slot block => exact request (.writeRecipe slot block) t e
  | eraseRecipe t slot => exact request (.eraseRecipe slot) t e
  | setHead t head service k slot resetLearning => exact request (.setHead head service k slot resetLearning) t e
  | headReset t head => exact request (.headReset head) t e
  | lineReset t => exact request .lineReset t e
  | abortFill t head => exact request (.abortFill head) t e
  | verdict t tag level => exact request (.verdict tag level) t e
  | keep t tag => exact request (.keep tag) t e
  | retire t tag => exact request (.retire tag) t e
  | calibrate t tag w force => exact request (.calibrate tag w force) t e
  | holdLearning t hold => exact request (.holdLearning hold) t e
  | clearAttention t target kinds => exact request (.clearAttention target kinds) t e
  | setMask t kinds => exact request (.setMask kinds) t e

theorem step_filed {s u : State} (e : step s = .next u) : Filed s u := by
  unfold step at e
  split at e
  · cases e; exact .refl s
  next c rest _ => exact Filed.trans (t := { s with pending := rest }) (.of_docket rfl) (exec_filed e)

/-- Settles O57: the bounds, and under them the tags' distinctness, as `step_filed` keeps them. -/
theorem ticketsStayLegal : Obligations.TicketsStayLegal :=
  ⟨fun _ _ legal e => transitLegal_iff.mpr ((step_filed e).legal (transitLegal_iff.mp legal)), fun _ _ ⟨tags, legal⟩ e =>
    have legal := transitLegal_iff.mp legal
    ⟨nodup_tags_iff.mpr ((step_filed e).tags legal (nodup_tags_iff.mp tags)), transitLegal_iff.mpr ((step_filed e).legal legal)⟩⟩

end Sys2Proof.Machine
end

section
/-! SUPPORT. The ticket requests KEEP, RETIRE and CALIBRATE (R124, R125, R153 to R155): a transit ticket named by its tag, and what each makes of
it. -/

namespace Sys2Proof.Machine

/-! ## Naming a transit ticket (R122, R124, R125, R153) -/

/-- A live ticket holds the tag, as the search of the heads finds it. -/
theorem liveTag_iff {s : State} {n : Tag} :
    (s.heads.toList.any fun x => x.ticket.any fun tk => decide (tk.tag = n)) = true ↔ s.liveTag n := by
  have heads : s.heads.toList = (List.finRange 96).map s.head := by
    apply List.ext_getElem <;> simp [State.head]
  rw [heads, List.any_map, List.any_eq_true]
  refine exists_congr fun h => (and_iff_right (List.mem_finRange h)).trans ?_
  rw [Function.comp_apply, Option.any_eq_true]
  exact exists_congr fun tk => and_congr_right fun _ => decide_eq_true_iff

theorem transitTicket_live {s : State} {n : Tag} (live : s.liveTag n) : s.transitTicket n = .error .notAllowed :=
  if_pos (liveTag_iff.mpr live)

theorem transitTicket_absent {s : State} {n : Tag} (absent : n ∉ s.tags) : s.transitTicket n = .error .noSuchTag := by
  obtain ⟨away, unborn⟩ := not_or.mp (mt mem_tags_iff.mpr absent)
  have dead : ¬s.liveTag n := fun ⟨h, tk, held, tag⟩ => unborn ⟨h, by rw [State.carried, held, ← tag]; rfl⟩
  have missing : s.transit.find? (fun tk => decide (tk.tag = n)) = none := by
    rw [List.find?_eq_none]
    exact fun tk mem here => away (List.mem_map.mpr ⟨tk, mem, of_decide_eq_true here⟩)
  rw [State.transitTicket, if_neg (mt liveTag_iff.mp dead), missing]

theorem transitTicket_named {s : State} {n : Tag} {older newer : List Ticket} {tk : Ticket} (dead : ¬s.liveTag n)
    (list : s.transit = older ++ tk :: newer) (named : tk.tag = n) (before : ∀ o ∈ older, o.tag ≠ n) : s.transitTicket n = .ok tk := by
  rw [State.transitTicket, if_neg (mt liveTag_iff.mp dead), list, find_named named before]

/-- A tag field of that number names the tag (R197). -/
theorem tagOf_eq {tag : Half} {n : Tag} (e : tag.toNat = n.toNat) : tagOf tag = some n := by
  obtain ⟨u, read, only⟩ := tagOf_some (n := tag) (e ▸ n.isLt)
  rw [read, (only n).mpr e.symm]

/-- A retired ticket leaves its place (R121). -/
theorem retireTicket_named {s : State} {n : Tag} {older newer : List Ticket} {tk : Ticket} (list : s.transit = older ++ tk :: newer)
    (named : tk.tag = n) (before : ∀ o ∈ older, o.tag ≠ n) : retireTicket n s = { s with transit := older ++ newer } := by
  rw [retireTicket, list, eraseP_named named before]; rfl

/-! ## KEEP and RETIRE (R124, R125) -/

theorem exec_keep {t : Time} {tag : Half} {s u : State} {r : Reply} (served : serveKeep tag (s.advance t) = (u, r)) :
    exec (.keep t tag) s = .next (replied 0x0E (u, r)) := by rw [← served]; rfl
theorem exec_retire {t : Time} {tag : Half} {s u : State} {r : Reply} (served : serveRetire tag (s.advance t) = (u, r)) :
    exec (.retire t tag) s = .next (replied 0x0F (u, r)) := by rw [← served]; rfl

section Served
variable {tag : Half} {n : Tag} {s : State} {tk : Ticket} {c : AnswerCode}

theorem serveKeep_badField (large : 4095 < tag.toNat) : serveKeep tag s = (s, .badField 0) := by rw [serveKeep, tagOf_none large]
theorem serveRetire_badField (large : 4095 < tag.toNat) : serveRetire tag s = (s, .badField 0) := by
  rw [serveRetire, tagOf_none large]

theorem serveKeep_refused (read : tagOf tag = some n) (refused : s.transitTicket n = .error c) : serveKeep tag s = (s, .plain c) := by
  simp only [serveKeep, read, refused]
theorem serveRetire_refused (read : tagOf tag = some n) (refused : s.transitTicket n = .error c) :
    serveRetire tag s = (s, .plain c) := by
  simp only [serveRetire, read, refused]

theorem serveKeep_kept (read : tagOf tag = some n) (found : s.transitTicket n = .ok tk) (kept : tk.kept = true) :
    serveKeep tag s = (s, .done) := by
  simp only [serveKeep, read, found, kept, if_true]
theorem serveKeep_full (read : tagOf tag = some n) (found : s.transitTicket n = .ok tk) (kept : tk.kept = false)
    (full : 8 ≤ s.keptCount) : serveKeep tag s = (s, .plain .notAllowed) := by
  simp only [serveKeep, read, found, kept, Bool.false_eq_true, if_false, if_neg (Nat.not_lt.mpr full)]
theorem serveKeep_room (read : tagOf tag = some n) (found : s.transitTicket n = .ok tk) (kept : tk.kept = false)
    (room : s.keptCount < 8) :
    serveKeep tag s = (putTransit (changeFirst n (fun t => { t with kept := true }) s.transit) s, .done) := by
  simp only [serveKeep, read, found, kept, Bool.false_eq_true, if_false, if_pos room]

theorem serveRetire_found (read : tagOf tag = some n) (found : s.transitTicket n = .ok tk) :
    serveRetire tag s = (retireTicket n s, .done) := by
  simp only [serveRetire, read, found]

end Served

/-- Settles O46: the ticket named by `transitTicket_named`, its place in the list by `changeFirst_named` and `retireTicket_named`. -/
theorem keepAndRetireServed : Obligations.KeepAndRetireServed := by
  intro t tag s s'
  refine ⟨fun large => ⟨(exec_keep (serveKeep_badField large)).trans rfl, (exec_retire (serveRetire_badField large)).trans rfl⟩,
    fun n e => ?_⟩
  have read := tagOf_eq e
  refine ⟨fun live => ?_, fun absent => ?_, fun older tk newer dead list named before => ?_⟩
  · have refused : s'.transitTicket n = .error .notAllowed := transitTicket_live (s := s') live
    exact ⟨(exec_keep (serveKeep_refused read refused)).trans rfl, (exec_retire (serveRetire_refused read refused)).trans rfl⟩
  · have refused : s'.transitTicket n = .error .noSuchTag := transitTicket_absent (s := s') absent
    exact ⟨(exec_keep (serveKeep_refused read refused)).trans rfl, (exec_retire (serveRetire_refused read refused)).trans rfl⟩
  · have found : s'.transitTicket n = .ok tk := transitTicket_named (s := s') dead list named before
    have marked : changeFirst n (fun t => { t with kept := true }) s'.transit = older ++ { tk with kept := true } :: newer :=
      (congrArg (changeFirst n _) list).trans (changeFirst_named named before _)
    have retired : retireTicket n s' = { s' with transit := older ++ newer } := retireTicket_named (s := s') list named before
    refine ⟨fun kept => (exec_keep (serveKeep_kept read found kept)).trans rfl,
      fun kept full => (exec_keep (serveKeep_full read found kept full)).trans rfl,
      fun kept room => (exec_keep (serveKeep_room read found kept room)).trans ?_, (exec_retire (serveRetire_found read found)).trans ?_⟩
    · exact congrArg (fun l => Host.Outcome.next (replied 0x0E (putTransit l s', .done))) marked
    · exact congrArg (fun u => Host.Outcome.next (replied 0x0F (u, .done))) retired

/-! ## CALIBRATE (R153 to R155) -/

theorem exec_calibrate {t : Time} {tag : Half} {w : Wide} {force : Byte} {s u : State} {r : Reply}
    (served : serveCalibrate tag w force (s.advance t) = (u, r)) : exec (.calibrate t tag w force) s = .next (replied 0x10 (u, r)) := by
  rw [← served]; rfl

section Fields
variable {tag : Half} {w : Wide} {force : Byte} {n : Tag}

theorem calFieldsOf_tag (large : 4095 < tag.toNat) : calFieldsOf tag w force = .error 0 := by rw [calFieldsOf, tagOf_none large]

theorem calFieldsOf_w (read : tagOf tag = some n) (bad : ¬(100 ≤ w.toNat ∧ w.toNat ≤ 250000)) : calFieldsOf tag w force = .error 1 := by
  simp only [calFieldsOf, read, within, decide_eq_false bad, if_true]

theorem calFieldsOf_force (read : tagOf tag = some n) (good : 100 ≤ w.toNat ∧ w.toNat ≤ 250000) (high : 1 < force.toNat) :
    calFieldsOf tag w force = .error 2 := by
  simp only [calFieldsOf, read, within, decide_eq_true good, Bool.true_eq_false, if_false, flagOf_none high]

theorem calFieldsOf_ok (read : tagOf tag = some n) (good : 100 ≤ w.toNat ∧ w.toNat ≤ 250000) (low : force.toNat ≤ 1) :
    calFieldsOf tag w force = .ok (n, w.toNat, decide (force = 1)) := by
  simp only [calFieldsOf, read, within, decide_eq_true good, Bool.true_eq_false, if_false, flagOf_some low]

end Fields

section Calibrated
variable {tag : Half} {w : Wide} {force : Byte} {n : Tag} {wv : Nat} {f : Bool} {s : State} {tk : Ticket}

theorem serveCalibrate_badField {i : Nat} (bad : calFieldsOf tag w force = .error i) : serveCalibrate tag w force s = (s, .badField i) := by
  rw [serveCalibrate, bad]

theorem serveCalibrate_busy (fields : calFieldsOf tag w force = .ok (n, wv, f)) (busy : s.divider.isSome = true) :
    serveCalibrate tag w force s = (s, .plain .busy) := by
  simp only [serveCalibrate, fields, busy, if_true]

theorem serveCalibrate_refused (fields : calFieldsOf tag w force = .ok (n, wv, f)) (idle : s.divider = none) {c : AnswerCode}
    (refused : s.transitTicket n = .error c) : serveCalibrate tag w force s = (s, .plain c) := by
  simp only [serveCalibrate, fields, idle, Option.isSome_none, Bool.false_eq_true, if_false, refused]

/-- An IDLE divider and a ticket found: the head and the pulses are judged (R153). -/
theorem serveCalibrate_found (fields : calFieldsOf tag w force = .ok (n, wv, f)) (idle : s.divider = none)
    (found : s.transitTicket n = .ok tk) : serveCalibrate tag w force s =
      if s.isInstalled tk.head = false then (s, .plain .noSuchHead) else if tk.p = 0 then (s, .plain .calNoPulses)
      else (retireTicket n { s with divider := some (calibrationOf tk wv f) }, .plain .accepted) := by
  simp only [serveCalibrate, fields, idle, Option.isSome_none, Bool.false_eq_true, if_false, found]

end Calibrated

/-- Settles O47: the fields by `calFieldsOf`'s lemmas, the ticket by `transitTicket_named`, its retirement by `retireTicket_named`. -/
theorem calibrateServed : Obligations.CalibrateServed := by
  intro t tag w force s s' refused wOk
  have reads (small : tag.toNat ≤ 4095) : ∃ n, tagOf tag = some n := (tagOf_some (by omega)).imp fun _ => And.left
  refine ⟨fun large => (exec_calibrate (serveCalibrate_badField (calFieldsOf_tag large))).trans rfl, fun small bad => ?_,
    fun small good high => ?_, fun n e good low => ?_⟩
  · obtain ⟨n, read⟩ := reads small
    exact (exec_calibrate (serveCalibrate_badField (calFieldsOf_w read bad))).trans rfl
  · obtain ⟨n, read⟩ := reads small
    exact (exec_calibrate (serveCalibrate_badField (calFieldsOf_force read good high))).trans rfl
  have fields := calFieldsOf_ok (tagOf_eq e) good low
  have unnamed {c : AnswerCode} (idle : s'.divider = none) (bad : s'.transitTicket n = .error c) : refused c 0 :=
    (exec_calibrate (serveCalibrate_refused fields idle bad)).trans rfl
  refine ⟨fun busy => (exec_calibrate (serveCalibrate_busy fields busy)).trans rfl,
    fun idle absent => unnamed idle (transitTicket_absent (s := s') absent),
    fun idle live => unnamed idle (transitTicket_live (s := s') live), fun older tk newer idle dead list named before => ?_⟩
  have found := serveCalibrate_found (s := s') fields idle (transitTicket_named (s := s') dead list named before)
  have installed (here : tk.head.val < s.tracker.line.headCount) : ¬s'.isInstalled tk.head = false := by
    rw [Bool.not_eq_false]; exact decide_eq_true here
  refine ⟨fun away => ?_, fun here empty => ?_, fun here counted => ?_⟩
  · exact (exec_calibrate (found.trans (if_pos (decide_eq_false (Nat.not_lt.mpr away))))).trans rfl
  · exact (exec_calibrate (found.trans ((if_neg (installed here)).trans (if_pos empty)))).trans rfl
  · refine (exec_calibrate (found.trans ((if_neg (installed here)).trans (if_neg counted)))).trans ?_
    rw [retireTicket_named (s := { s' with divider := some (calibrationOf tk w.toNat (decide (force = 1))) }) list named before,
      calibrationOf, named]
    rfl

end Sys2Proof.Machine
end

section
/-! SUPPORT. VERDICT (R122, R123): the missed tickets retired, the verdict recorded on the ticket named and handed to the correction unit. -/

namespace Sys2Proof.Machine

/-! ## Trim leaves the transit list alone, and is left alone by it (R142 to R146) -/

theorem trimHead_putTransit (rev : Revision) (step : Int) (h : HeadId) (l : List Ticket) (s : State) :
    trimHead rev step h (putTransit l s) = putTransit l (trimHead rev step h s) := by
  unfold trimHead; simp only [apply_ite (putTransit l)]; rfl

theorem trimFrom_putTransit (tk : Ticket) (l : List Ticket) (s : State) :
    trimFrom tk (putTransit l s) = putTransit l (trimFrom tk s) := by
  have used : (putTransit l s).usedRevision tk.head = s.usedRevision tk.head := rfl
  have trims : (putTransit l s).trims tk = s.trims tk := rfl
  unfold trimFrom; rw [used, trims]; split
  · split
    · exact trimHead_putTransit _ _ _ l s
    · rfl
  · rfl

/-! ## The verdict that the field carries (R122, R197) -/

theorem verdictOf_eq (level : Half) : verdictOf level =
    if level.toInt = -32768 then .noReading else .level (max (-2000) (min 2000 level.toInt)) := by
  have noReading : level = 0x8000#16 ↔ level.toInt = -32768 := BitVec.toInt_inj.symm
  unfold verdictOf; simp only [noReading]

/-! ## The missed tickets (R122) -/

section Named
variable {older newer : List Ticket} {tk : Ticket} {n : Tag}

theorem missedCount_named (named : tk.tag = n) (before : ∀ o ∈ older, o.tag ≠ n) :
    missedCount n (older ++ tk :: newer) = (older.filter Ticket.missable).length := by
  rw [missedCount, olderThan_named named before]

/-- Those neither KEPT nor verdicted among the older ones leave the list, and VERDICT_LOSS is raised if there was one. -/
theorem retireMissed_named {s : State} (list : s.transit = older ++ tk :: newer) (named : tk.tag = n)
    (before : ∀ o ∈ older, o.tag ≠ n) : retireMissed n s = putTransit (older.filter (fun o => !o.missable) ++ tk :: newer)
      (if (older.filter Ticket.missable).isEmpty then s else raiseVerdictLoss s) := by
  rw [retireMissed, list, missedCount_named named before, withoutMissed_named named before]
  simp only [List.length_eq_zero_iff, List.isEmpty_iff]
  split <;> rfl

/-- The verdict is recorded on the ticket in its place, trimmed from, and the ticket retired unless KEPT (R123). -/
theorem recordVerdict_named (v : Verdict) (before : ∀ o ∈ older, o.tag ≠ tk.tag) (s : State) :
    recordVerdict v tk (putTransit (older ++ tk :: newer) s) =
      putTransit (if tk.kept then older ++ { tk with verdict := some v } :: newer else older ++ newer)
        (trimFrom { tk with verdict := some v } s) := by
  have recorded : changeFirst tk.tag (fun t => { t with verdict := some v }) (older ++ tk :: newer) =
      older ++ { tk with verdict := some v } :: newer := changeFirst_named rfl before _
  unfold recordVerdict
  simp only [putTransit_transit, recorded, trimFrom_putTransit]
  split
  · rfl
  · exact retireTicket_named (tk := { tk with verdict := some v }) rfl rfl before

end Named

/-! ## VERDICT -/

theorem exec_verdict {t : Time} {tag level : Half} {s u : State} {r : Reply} (served : serveVerdict tag level (s.advance t) = (u, r)) :
    exec (.verdict t tag level) s = .next (replied 0x0D (u, r)) := by rw [← served]; rfl

section Served
variable {tag level : Half} {n : Tag} {s : State}

theorem serveVerdict_badField (large : 4095 < tag.toNat) : serveVerdict tag level s = (s, .badField 0) := by
  rw [serveVerdict, tagOf_none large]

theorem serveVerdict_refused (read : tagOf tag = some n) {c : AnswerCode} (refused : s.transitTicket n = .error c) :
    serveVerdict tag level s = (s, .plain c) := by
  simp only [serveVerdict, read, refused]

theorem serveVerdict_found (read : tagOf tag = some n) {tk : Ticket} (found : s.transitTicket n = .ok tk) : serveVerdict tag level s =
    (recordVerdict (verdictOf level) tk (retireMissed n s), .image (be1 (missedCount n s.transit))) := by
  simp only [serveVerdict, read, found]

end Served

/-- Settles O43: the missed tickets by `retireMissed_named`, the verdict by `recordVerdict_named`. -/
theorem verdictServed : Obligations.VerdictServed := by
  intro t tag level s s'
  refine ⟨fun large => (exec_verdict (serveVerdict_badField large)).trans rfl, fun n e => ?_⟩
  have read := tagOf_eq e
  refine ⟨fun live => (exec_verdict (serveVerdict_refused read (transitTicket_live (s := s') live))).trans rfl,
    fun absent => (exec_verdict (serveVerdict_refused read (transitTicket_absent (s := s') absent))).trans rfl, ?_⟩
  intro older tk newer dead list named before missed stay e tk' w
  have found := serveVerdict_found (s := s') (level := level) read (transitTicket_named (s := s') dead list named before)
  have count : missedCount n s'.transit = missed.length := (congrArg (missedCount n) list).trans (missedCount_named named before)
  have retired : retireMissed n s' = putTransit (stay ++ tk :: newer) w := retireMissed_named (s := s') list named before
  have recorded := recordVerdict_named (newer := newer) (verdictOf level) (older := stay) (tk := tk)
    (fun o mem => named.symm ▸ before o (List.mem_of_mem_filter mem)) w
  rw [count, retired, recorded, verdictOf_eq] at found
  exact (exec_verdict found).trans rfl

end Sys2Proof.Machine
end

section
/-! SUPPORT. The correction unit (R139, R142 to R146, R148): its rounding, the conditions of a trim, the trim step, the learning hold. -/

namespace Sys2Proof.Machine

/-! ## Rounding (R139, R143, R144) -/

/-- A magnitude over 2^g, a half rounded up; g 0 leaves it. -/
def halfUp (m g : Nat) : Nat := if g = 0 then m else (m + 2 ^ (g - 1)) / 2 ^ g

/-- A magnitude takes the sign of `d`, which may be 0 only where the magnitude is. -/
theorem sign_mul_magnitude {d : Int} {m : Nat} (zero : d = 0 → m = 0) : d.sign * m = if d < 0 then -(m : Int) else (m : Int) := by
  rcases lt_trichotomy d 0 with neg | rfl | pos
  · rw [Int.sign_eq_neg_one_of_neg neg, if_pos neg, Int.neg_one_mul]
  · simp [zero rfl]
  · rw [Int.sign_eq_one_of_pos pos, if_neg (not_lt.mpr pos.le), Int.one_mul]

theorem halfUp_zero (g : Nat) : halfUp 0 g = 0 := by
  cases g with
  | zero => rfl
  | succ g => rw [halfUp, if_neg g.succ_ne_zero, Nat.zero_add]; exact Nat.div_eq_of_lt (Nat.pow_lt_pow_succ Nat.one_lt_two)

theorem halfAway_eq (d : Int) (g : Nat) : halfAway d g = if d < 0 then -(halfUp d.natAbs g : Int) else (halfUp d.natAbs g : Int) := by
  rw [← sign_mul_magnitude (fun zero => by rw [zero]; exact halfUp_zero g)]
  by_cases unscaled : g = 0
  · rw [halfAway, halfUp, if_pos unscaled, if_pos unscaled, Int.sign_mul_natAbs]
  · rw [halfAway, halfUp, if_neg unscaled, if_neg unscaled]

theorem volumeError_eq (n : Nat) (e : Int) : volumeError n e =
    if e < 0 then -(((e.natAbs * n + 32) / 64 : Nat) : Int) else (((e.natAbs * n + 32) / 64 : Nat) : Int) :=
  sign_mul_magnitude fun zero => by simp [zero]

/-- The volume error has the sign of the level error, so the trim step is one magnitude with that sign. -/
theorem trimStep_eq (r : Recipe) (e : Int) : trimStep r e =
    if e < 0 then -(halfUp ((e.natAbs * r.n + 32) / 64) r.gt : Int) else (halfUp ((e.natAbs * r.n + 32) / 64) r.gt : Int) := by
  rw [trimStep, halfAway_eq, volumeError_eq]
  generalize (e.natAbs * r.n + 32) / 64 = m
  by_cases neg : e < 0
  · rw [if_pos neg, if_pos neg, Int.natAbs_neg, Int.natAbs_natCast]
    rcases m.eq_zero_or_pos with rfl | pos
    · simp [halfUp_zero]
    · rw [if_pos (by omega)]
  · rw [if_neg neg, if_neg neg, Int.natAbs_natCast, if_neg (by omega)]

/-- A limit to ±m as the rules put it: what lies beyond becomes the limit. -/
theorem limited_eq (m : Nat) (v : Int) :
    max (-(m : Int)) (min (m : Int) v) = if v > m then (m : Int) else if v < -(m : Int) then -(m : Int) else v := by
  split
  · omega
  · split <;> omega

/-- Settles O45: the sign and magnitude of each rounding by `sign_mul_magnitude`. -/
theorem stepsRoundHalfAwayFromZero : Obligations.StepsRoundHalfAwayFromZero := by
  refine ⟨fun r d => ?_, volumeError_eq⟩
  rw [learningStep, limited_eq, halfAway_eq]
  rfl

/-! ## When a verdict trims (R142) -/

theorem trimLevel_eq_some {tk : Ticket} {e : Int} :
    tk.trimLevel = some e ↔ tk.disposition = .good ∧ tk.toppedUp = false ∧ tk.verdict = some (.level e) := by
  rw [Ticket.trimLevel, ← and_assoc]
  split
  next good => rw [and_iff_right good]; cases tk.verdict with
    | none => simp
    | some v => cases v <;> simp
  next bad => simp [bad]

theorem trims_iff {tk : Ticket} {s : State} : s.trims tk = true ↔ s.learningHold = false ∧ tk.head.val < s.tracker.line.headCount ∧
    (s.head tk.head).record.slot = some tk.slot ∧ (s.head tk.head).record.pendingSlot = none := by
  simp only [State.trims, State.isInstalled, Bool.and_eq_true, Bool.not_eq_true', decide_eq_true_eq, Option.isNone_iff_eq_none, and_assoc]

theorem trimFrom_taken {tk : Ticket} {s : State} {e : Int} {rev : Revision} (level : tk.trimLevel = some e)
    (used : s.usedRevision tk.head = some rev) (trims : s.trims tk = true) :
    trimFrom tk s = trimHead rev (trimStep tk.snapshot.recipe e) tk.head s := by
  rw [trimFrom, level, used]; exact if_pos trims

theorem trimFrom_same {tk : Ticket} {s : State}
    (fails : ∀ e rev, tk.trimLevel = some e → s.usedRevision tk.head = some rev → ¬s.trims tk = true) : trimFrom tk s = s := by
  unfold trimFrom; split
  next e rev level used => exact if_neg (fails e rev level used)
  next => rfl

/-! ## The trim step (R144 to R146) -/

/-- TRIM_LIMIT raised on a head just written is one write of the head with the cause pending. -/
theorem raiseTrimLimit_setHead (h : HeadId) (y : Head) (s : State) :
    raiseTrimLimit h (setHead h y s) = judgeLine (setHead h { y with causes := { y.causes with trimLimit := true } } s) :=
  congrArg judgeLine (modHead_setHead h _ y s)

/-- Settles O44: which verdicts trim by `trimLevel_eq_some` and `trims_iff`, the step by `trimStep_eq`. -/
theorem trimStepTaken : Obligations.TrimStepTaken := by
  intro tk s h x r conditions half
  refine ⟨fun fails => trimFrom_same fun e rev level used trims => ?_, ?_⟩
  · obtain ⟨good, once, verdict⟩ := trimLevel_eq_some.mp level
    obtain ⟨off, installed, slot, settled⟩ := trims_iff.mp trims
    rcases fails with unmet | unused | unread
    · exact unmet ⟨off, good, once, installed, slot, settled⟩
    · exact Option.some_ne_none rev (used.symm.trans unused)
    · exact unread e verdict
  · rintro e rev ⟨off, good, once, installed, slot, settled⟩ verdict used ev step v m drift t' y
    have taken := trimFrom_taken (trimLevel_eq_some.mpr ⟨good, once, verdict⟩) used (trims_iff.mpr ⟨off, installed, slot, settled⟩)
    have stepped : trimStep tk.snapshot.recipe e = step := trimStep_eq _ _
    have limited : clampTrim rev v = t' := limited_eq _ _
    have trimmed : modRecord h (fun r => { r with pendingT := some (clampTrim rev v), drift := drift }) s = setHead h y s := by
      rw [limited]; rfl
    rw [taken, stepped, ← raiseTrimLimit_setHead h y s, ← trimmed]
    rfl

/-! ## HOLD LEARNING (R148) -/

theorem exec_holdLearning {t : Time} {hold : Byte} {s u : State} {r : Reply} (served : serveHoldLearning hold (s.advance t) = (u, r)) :
    exec (.holdLearning t hold) s = .next (replied 0x11 (u, r)) := by rw [← served]; rfl

theorem serveHoldLearning_badField {hold : Byte} (high : 1 < hold.toNat) (s : State) : serveHoldLearning hold s = (s, .badField 0) := by
  rw [serveHoldLearning, flagOf_none high]

theorem serveHoldLearning_off (s : State) : serveHoldLearning 0 s = ({ s with learningHold := false }, .done) := rfl
theorem serveHoldLearning_on (s : State) : serveHoldLearning 1 s = ({ dropPending s with learningHold := true }, .done) := rfl

theorem head_dropPending (h : HeadId) (s : State) :
    (dropPending s).head h = { s.head h with record := { (s.head h).record with pendingA := none, pendingT := none } } := head_mapHeads h _ s

/-- Settles O48: the three kinds of value one by one, the heads by `head_dropPending`. -/
theorem holdLearningDropsPending : Obligations.HoldLearningDropsPending := by
  intro t hold s s'
  refine ⟨?_, fun high => (exec_holdLearning (serveHoldLearning_badField high _)).trans rfl, ?_⟩
  · rintro rfl
    exact (exec_holdLearning (serveHoldLearning_off _)).trans rfl
  · rintro rfl
    exact ⟨_, (exec_holdLearning (serveHoldLearning_on _)).trans rfl, fun h => head_dropPending h s', rfl⟩

end Sys2Proof.Machine
end

section
/-! SUPPORT. The calibration divider (R155 to R159): its 26 steps give the quotient, the outcome is judged by range, then by band, and the
completion is one write of the head. -/

namespace Sys2Proof.Machine

/-! ## The restoring division (R156) -/

/-- One step takes remainder and quotient of the dividend's leading bits to those with one bit more. -/
theorem divideStep_leading {p : Nat} (pos : 0 < p) (d n : Nat) :
    divideStep d p (d / 2 ^ (n + 1) % p, d / 2 ^ (n + 1) / p) n = (d / 2 ^ n % p, d / 2 ^ n / p) := by
  have next : d / 2 ^ n = 2 * (d / 2 ^ (n + 1)) + d / 2 ^ n % 2 := by
    rw [Nat.pow_succ, ← Nat.div_div_eq_div_mul, Nat.div_add_mod]
  generalize d / 2 ^ (n + 1) = m at next ⊢
  have whole : p * (m / p) + m % p = m := Nat.div_add_mod m p
  have small : m % p < p := Nat.mod_lt m pos
  have bit : d / 2 ^ n % 2 < 2 := Nat.mod_lt _ two_pos
  have reads {q r : Nat} (value : p * q + r = d / 2 ^ n) (below : r < p) : (r, q) = (d / 2 ^ n % p, d / 2 ^ n / p) := by
    obtain ⟨quotient, remainder⟩ := (Nat.div_mod_unique pos).mpr ⟨(Nat.add_comm r _).trans value, below⟩
    rw [quotient, remainder]
  have doubled : p * (2 * (m / p)) = 2 * (p * (m / p)) := Nat.mul_left_comm _ _ _
  dsimp only [divideStep]
  split
  case isTrue fits => exact reads (by rw [Nat.mul_succ]; omega) (by omega)
  case isFalse short => exact reads (by omega) (by omega)

/-- The steps over the last `n` bits, begun with remainder and quotient of the bits before them, end with those of the dividend. -/
theorem divideSteps_eq {p : Nat} (pos : 0 < p) (d n : Nat) :
    (List.range n).reverse.foldl (divideStep d p) (d / 2 ^ n % p, d / 2 ^ n / p) = (d % p, d / p) := by
  induction n with
  | zero => simp
  | succ n ih => rw [List.range_succ, List.reverse_append, List.reverse_singleton, List.singleton_append, List.foldl_cons,
      divideStep_leading pos, ih]

/-- The 26 steps from 0 and 0 divide every dividend of 26 bits. -/
theorem divided_quotient {c : Calibration} (pos : 0 < c.p) (width : c.dividend < 2 ^ 26) (remainder : c.remainder = 0)
    (quotient : c.quotient = 0) : c.divided.quotient = c.dividend / c.p := by
  have steps := divideSteps_eq pos c.dividend 26
  rw [Nat.div_eq_of_lt width, Nat.zero_mod, Nat.zero_div] at steps
  rw [Calibration.divided, remainder, quotient]
  exact congrArg Prod.snd steps

/-! ## The outcome (R157) -/

theorem kInRange_eq_false {k : Nat} : kInRange k = false ↔ k < 256 ∨ 65535 < k := by
  rw [kInRange, decide_eq_false_iff_not]; omega

/-- The distance of two figures, the greater less the smaller. -/
theorem natAbs_sub_eq (a b : Nat) : ((a : Int) - (b : Int)).natAbs = if a ≤ b then b - a else a - b := by
  split <;> omega

theorem outcome_eq (c : Calibration) (k : Nat) : c.outcome k =
    if k < 256 ∨ 65535 < k then .outOfRange
    else if c.force = false ∧ (if k ≤ c.kSnap then c.kSnap - k else k - c.kSnap) > c.kSnap / 8 then .outOfBand else .staged := by
  simp only [Calibration.outcome, kInRange_eq_false, natAbs_sub_eq, gt_iff_lt]

/-! ## The completion (R158, R159) -/

/-- A head with an outcome recorded and CAL_DONE pending. -/
def Head.withOutcome (x : Head) (o : CalOutcome) (k : Nat) (tag : Tag) : Head :=
  { x with record := { x.record with calResult := some { outcome := o, kNew := some k, tag := tag } }
           causes := { x.causes with calDone := some { outcome := o, kNew := some k } } }

section Completion
variable {c : Calibration} {o : CalOutcome} {k : Nat} {s : State}

/-- An outcome recorded on a head just written is one write of the head. -/
theorem recordOutcome_setHead (h : HeadId) (o : CalOutcome) (k : Nat) (tag : Tag) (y : Head) (s : State) :
    recordOutcome h o (some k) tag (setHead h y s) = judgeLine (setHead h (y.withOutcome o k tag) s) := by
  rw [recordOutcome, modRecord, modHead_setHead]
  exact congrArg judgeLine (modHead_setHead h _ _ s)

/-- Recording an outcome judges the line again, so an earlier judgement of it does not show. -/
theorem recordOutcome_judgeLine (h : HeadId) (o : CalOutcome) (k : Option Nat) (tag : Tag) (s : State) :
    recordOutcome h o k tag (judgeLine s) = recordOutcome h o k tag s := rfl

/-- A STAGED outcome is written to the head before it is recorded. -/
theorem completeDivision_staged (quotient : c.divided.quotient = k) (staged : c.outcome k = .staged) :
    completeDivision c s = recordOutcome c.head .staged (some k) c.tag { writeK k c.head s with divider := none } := by
  subst quotient
  rw [completeDivision, staged, if_pos rfl]

/-- A STAGED outcome on an OUT head is its new K, and the trim restarts. -/
theorem completeDivision_direct (quotient : c.divided.quotient = k) (staged : c.outcome k = .staged)
    (out : (s.head c.head).record.service = .out) :
    completeDivision c s = judgeLine (setHead c.head (Head.withOutcome { s.head c.head with
      record := { (s.head c.head).record with k := k, stagedK := none, t := 0, pendingT := none, drift := 0 }
      causes := { (s.head c.head).causes with trimLimit := false } } .staged k c.tag) { s with divider := none }) := by
  rw [completeDivision_staged quotient staged, writeK, if_pos out, takeK_eq, ← recordOutcome_setHead]
  exact recordOutcome_judgeLine _ _ _ _ { setHead _ _ s with divider := none }

/-- A STAGED outcome on any other head is its staged K. -/
theorem completeDivision_waiting (quotient : c.divided.quotient = k) (staged : c.outcome k = .staged)
    (member : (s.head c.head).record.service ≠ .out) :
    completeDivision c s = judgeLine (setHead c.head (Head.withOutcome { s.head c.head with
      record := { (s.head c.head).record with stagedK := some k } } .staged k c.tag) { s with divider := none }) := by
  rw [completeDivision_staged quotient staged, writeK, if_neg member, ← recordOutcome_setHead]
  rfl

/-- Any other outcome leaves K and the staged K. -/
theorem completeDivision_unapplied (quotient : c.divided.quotient = k) (unstaged : c.outcome k ≠ .staged) :
    completeDivision c s = judgeLine (setHead c.head ((s.head c.head).withOutcome (c.outcome k) k c.tag) { s with divider := none }) := by
  subst quotient
  rw [completeDivision, if_neg unstaged, ← recordOutcome_setHead]
  exact congrArg (recordOutcome _ _ _ _) (setHead_same c.head { s with divider := none }).symm

end Completion

theorem exec_divisionCompletion_idle {t : Time} {s : State} (idle : s.divider = none) :
    exec (.divisionCompletion t) s = .next (s.advance t) := by
  change execDivisionCompletion t s = _
  simp only [execDivisionCompletion, advance_divider, idle]

theorem exec_divisionCompletion_busy {t : Time} {s : State} {c : Calibration} (busy : s.divider = some c) :
    exec (.divisionCompletion t) s = .next (completeDivision c (s.advance t)) := by
  change execDivisionCompletion t s = _
  simp only [execDivisionCompletion, advance_divider, busy]

/-- Settles O29: the quotient by `divided_quotient`, the outcome by `outcome_eq`, its effect by the three cases of the completion. -/
theorem divisionCompletionJudges : Obligations.DivisionCompletionJudges := by
  intro t s s'
  refine ⟨exec_divisionCompletion_idle, ?_⟩
  intro c busy pos narrow weight dividend remainder quotient kNew far o x r direct r1
  have width : c.dividend < 2 ^ 26 := by omega
  have divided : c.divided.quotient = kNew := by rw [divided_quotient pos width remainder quotient, dividend]
  have judged : c.outcome kNew = o := outcome_eq c kNew
  rw [exec_divisionCompletion_busy busy]
  refine congrArg Host.Outcome.next ?_
  by_cases staged : o = .staged
  · have toStage := judged.trans staged
    by_cases out : r.service = .out
    · have applied : direct := ⟨staged, out⟩
      refine (completeDivision_direct (s := s') divided toStage out).trans ?_
      simp only [r1, if_pos applied, decide_eq_true applied, staged, Bool.not_true, Bool.and_false]
      rfl
    · have waits : ¬direct := fun applied => out applied.2
      refine (completeDivision_waiting (s := s') divided toStage out).trans ?_
      simp only [r1, if_neg waits, decide_eq_false waits, staged, Bool.not_false, Bool.and_true]
      rfl
  · have leaves : ¬direct := fun applied => staged applied.1
    refine (completeDivision_unapplied (s := s') divided (judged ▸ staged)).trans ?_
    rw [judged]
    simp only [r1, if_neg leaves, if_neg staged, decide_eq_false leaves, Bool.not_false, Bool.and_true]
    rfl

end Sys2Proof.Machine
end

section
/-! SUPPORT. A release of one pilot by its state and the entry of its head (R171, R172), and a grant as the sequencer takes it (R169). -/

namespace Sys2Proof.Machine

/-! ## A release by the pilot's state and the head's entry -/

section Release
variable {p : Pilot} {h : HeadId} {s : State}

/-- An energised pilot goes OFF. -/
theorem release_energised (on : s.energised h p = true) : release p h s = switchOff p h s := if_pos on

/-- A pilot that is OFF and named by the head's entry withdraws the entry. -/
theorem release_named {e : Entry} (off : s.energised h p = false) (queued : s.entryOf h = some e) (named : p ∈ e.kind.pilots) :
    release p h s = withdraw h s := by
  simp only [release, off, Bool.false_eq_true, if_false, queued, List.contains_iff_mem.mpr named, if_true]

/-- A pilot that is OFF and not named by the head's entry leaves everything. -/
theorem release_unnamed (off : s.energised h p = false) (unnamed : ∀ e, s.entryOf h = some e → p ∉ e.kind.pilots) :
    release p h s = s := by
  simp only [release, off, Bool.false_eq_true, if_false]
  split
  · rfl
  next e queued => exact if_neg fun named => unnamed e queued (List.contains_iff_mem.mp named)

/-- A pilot that goes OFF leaves its slot held, by the same head and until the same moment (R166). -/
theorem switchOff_slots (p : Pilot) (h : HeadId) (s : State) :
    (switchOff p h s).boosts.map (·.map fun g => (g.head, g.completion)) = s.boosts.map (·.map fun g => (g.head, g.completion)) := by
  have same (o : Option Grant) : (o.map fun g => if g.head = h then { g with pilots := g.pilots.filter fun q => decide (q ≠ p) } else g).map
      (fun g => (g.head, g.completion)) = o.map fun g => (g.head, g.completion) := by
    cases o with
    | none => rfl
    | some g => dsimp only [Option.map]; split <;> rfl
  simp only [switchOff, dropFromBoosts, putBoosts_boosts, modPilots, modHead_boosts, Vector.map_map]
  exact Vector.map_congr_left fun o _ => same o

/-- A pilot that goes OFF touches its head's pilots and the grants alone. -/
theorem switchOff_frame (p : Pilot) (h : HeadId) (s : State) :
    switchOff p h s = { setHead h { s.head h with pilots := ((switchOff p h s).head h).pilots } s with
      boosts := (switchOff p h s).boosts } := by
  have pilots : ((switchOff p h s).head h).pilots = (s.head h).pilots.put p (((s.head h).pilots.get p).turnOff s.now) := by
    rw [switchOff, dropFromBoosts, head_putBoosts, modPilots, head_modHead_self]
  rw [pilots]; rfl

end Release

/-- Settles O27, by the three rows of R171. -/
theorem releaseFollowsPilotState : Obligations.ReleaseFollowsPilotState := by
  intro p h s
  refine ⟨fun on => ⟨get_release_on on, ?_, ?_, release_elsewhere p h s⟩, fun off ⟨e, queued, named⟩ => release_named off queued named,
    release_unnamed⟩
  · rw [release_energised on]; exact switchOff_slots p h s
  · rw [release_energised on]; exact switchOff_frame p h s

/-! ## A grant (R169) -/

/-- The state in which a grant of the slot leaves the arbiter: the slot held, the entry gone from the queue, its head replaced by `y`. -/
def State.granted (s : State) (i : BoostId) (e : Entry) (y : Head) : State :=
  { setHead e.head y s with
    boosts := s.boosts.set i.val
      (some { head := e.head, pilots := e.kind.pilots, completion := s.now + 100 * s.tracker.line.boostTime })
    pilotQueue := s.pilotQueue.filter fun q => decide (q.head ≠ e.head) }

/-- A head with the pilots of an open of this kind in BOOST. -/
def Head.boosted (x : Head) (k : OpenKind) : Head :=
  { x with pilots := k.pilots.foldl (fun q p => q.put p { q.get p with state := .boost }) x.pilots }

section Grant
variable {i : BoostId} {e : Entry} {s : State} {tk : Ticket}

theorem head_granted (y : Head) : (s.granted i e y).head e.head = y := head_setHead_self e.head y s

/-- A change of the sequencer of a head just granted is one write of the head. -/
theorem modSeq_granted (f : Sequencer → Sequencer) (y : Head) :
    modSeq e.head f (s.granted i e y) = s.granted i e { y with seq := f y.seq } := by
  rw [modSeq, modHead, head_granted]
  exact congrArg (fun u : State => { s.granted i e y with heads := u.heads }) (setHead_setHead e.head { y with seq := f y.seq } y s)

theorem startTimer_granted {y : Head} (held : y.ticket = some tk) (n : TimerName) :
    startTimer n e.head (s.granted i e y) = s.granted i e { y with seq := { y.seq with
      timers := y.seq.timers.put n (some (s.now + 100 * tk.snapshot.recipe.duration n)) } } := by
  rw [startTimer_eq ((congrArg Head.ticket (head_granted y)).trans held), modSeq_granted]; rfl

/-- The sequencer takes the grant once the arbiter has made it. -/
theorem grant_takes {k : OpenKind} (kind : e.kind = k) :
    grant i e s = takeGrant k e.head (s.granted i e ((s.head e.head).boosted k)) := by
  subst kind; rfl

theorem phase_granted {p : Phase} {y : Head} (phase : y.seq.phase = p) : (s.granted i e y).phase e.head = p :=
  (congrArg (·.seq.phase) (head_granted y)).trans phase

/-- The GAS grant of a head in PRESSURIZE samples the pressure-equal input (R83, R99). -/
theorem takeGrant_gas {y : Head} (phase : y.seq.phase = .pressurize) (held : y.ticket = some tk) :
    takeGrant .gas e.head (s.granted i e y) =
      let u := s.granted i e { y with seq := { y.seq with
        gasGranted := true, timers := { y.seq.timers with equalize := some (s.now + 100 * tk.snapshot.recipe.tEq) } } }
      if y.pressureEqual = true then equipmentEnding .pressureSwitch .pressureSwitch e.head u else u := by
  simp only [takeGrant, phase_granted phase, gasGrant, modSeq_granted]
  rw [startTimer_granted (by exact held), head_granted]; rfl

/-- The FILL grant of a head in PRESSURIZE enters FAST, and the equalize timer is stopped with the phase left (R78, R85). -/
theorem takeGrant_fill {y : Head} (phase : y.seq.phase = .pressurize) (held : y.ticket = some tk) :
    takeGrant .fill e.head (s.granted i e y) = s.granted i e { y with seq := { y.seq with
      phase := .fast
      timers := { y.seq.timers with equalize := none, startFlow := some (s.now + 100 * tk.snapshot.recipe.tStart) } } } := by
  simp only [takeGrant, phase_granted phase, enterPhase, modSeq_granted]
  rw [startTimer_granted (by exact held), phase]; rfl

/-- The SLOW grant of a head in TOPUP (R93). -/
theorem takeGrant_topUp {y : Head} (phase : y.seq.phase = .topup) (held : y.ticket = some tk) :
    takeGrant .topUp e.head (s.granted i e y) = s.granted i e { y with seq := { y.seq with
      timers := { y.seq.timers with startFlow := some (s.now + 100 * tk.snapshot.recipe.tStart) } } } := by
  simp only [takeGrant, phase_granted phase]
  exact startTimer_granted held .startFlow

/-- The SNIFT grant of a head in SNIFT (R106). -/
theorem takeGrant_snift {y : Head} (phase : y.seq.phase = .snift) (held : y.ticket = some tk) :
    takeGrant .snift e.head (s.granted i e y) = s.granted i e { y with seq := { y.seq with
      timers := { y.seq.timers with snift := some (s.now + 100 * tk.snapshot.recipe.tSnift) } } } := by
  simp only [takeGrant, phase_granted phase]
  exact startTimer_granted held .snift

end Grant

/-- Settles O25: the arbiter's part by `grant_takes`, the sequencer's kind by kind, the forced ending by `equipmentEnding_forced`. -/
theorem grantEnergisesPilots : Obligations.GrantEnergisesPilots := by
  intro i e s tk holds h x recipe on held gasOn
  have gas (kind : e.kind = .gas) (phase : x.seq.phase = .pressurize) : grant i e s =
      if x.pressureEqual = true then equipmentEnding .pressureSwitch .pressureSwitch h (held gasOn) else held gasOn :=
    (grant_takes kind).trans (takeGrant_gas (y := x.boosted .gas) phase holds)
  refine ⟨fun kind phase low => ?_, fun kind phase high => ?_,
    fun kind phase => (grant_takes kind).trans (takeGrant_fill (y := x.boosted .fill) phase holds),
    fun kind phase => (grant_takes kind).trans (takeGrant_topUp (y := x.boosted .topUp) phase holds),
    fun kind phase => (grant_takes kind).trans (takeGrant_snift (y := x.boosted .snift) phase holds)⟩
  · exact (gas kind phase).trans (if_neg (by rw [low]; decide))
  · have head : (held gasOn).head h = gasOn := head_granted (i := i) gasOn
    have filling : ((held gasOn).phase h).filling = true := by rw [State.phase, head]; exact congrArg Phase.filling phase
    have forced := equipmentEnding_forced .pressureSwitch .pressureSwitch filling
    rw [head] at forced
    rw [gas kind phase, if_pos high]
    exact forced

end Sys2Proof.Machine
end

section
/-! SUPPORT. The arbiter: which entry a grant goes to (R167, R168), and how long it goes on granting (R166). -/

namespace Sys2Proof.Machine

/-! ## Eligible entries (R167) -/

section Order
variable {s : State}

/-- A dwell is over when its end lies in the past, or at the present moment and has been taken; a pilot never released has none. -/
theorem dwellOver_iff_released {h : HeadId} {p : Pilot} : s.dwellOver h p = true ↔
    ∀ r, ((s.head h).pilots.get p).released = some r → r + 100 * s.tracker.line.minDwell < s.now ∨
      r + 100 * s.tracker.line.minDwell = s.now ∧ ((s.head h).pilots.get p).dwellTaken = some s.now := by
  cases released : ((s.head h).pilots.get p).released with
  | none => exact iff_of_true (dwellOver_never released) fun r e => nomatch e
  | some r =>
    simp only [dwellOver_iff released, Option.some.injEq, forall_eq']
    exact or_congr Iff.rfl (and_congr_right fun ends => by rw [ends])

theorem eligible_iff {e : Entry} : s.eligible e = true ↔
    ∀ p ∈ e.kind.pilots, s.energised e.head p = false ∧ s.dwellOver e.head p = true := by
  simp only [State.eligible, List.all_eq_true, Bool.and_eq_true, Bool.not_eq_true']

/-! ## The grant order (R168) -/

theorem grantBefore_iff {a b : Entry} : s.grantBefore a b = true ↔ a.kind.rank < b.kind.rank ∨ a.kind.rank = b.kind.rank ∧
    (s.age b < s.age a ∨ s.age a = s.age b ∧ a.head.val < b.head.val) := decide_eq_true_iff

theorem grantBefore_irrefl (a : Entry) : ¬s.grantBefore a a = true := by rw [grantBefore_iff]; omega

theorem grantBefore_trans {a b c : Entry} (ab : s.grantBefore a b = true) (bc : s.grantBefore b c = true) :
    s.grantBefore a c = true := by
  rw [grantBefore_iff] at *; omega

/-- Whatever stands between them, an entry before another is before it or has it behind it. -/
theorem grantBefore_split {a c : Entry} (b : Entry) (ac : s.grantBefore a c = true) :
    s.grantBefore a b = true ∨ s.grantBefore b c = true := by
  rw [grantBefore_iff] at *; rw [grantBefore_iff]; omega

/-- Of entries of two heads one stands before the other. -/
theorem grantBefore_of_not {a b : Entry} (heads : a.head ≠ b.head) (other : ¬s.grantBefore b a = true) : s.grantBefore a b = true := by
  have : a.head.val ≠ b.head.val := fun e => heads (Fin.ext e)
  rw [grantBefore_iff] at *; omega

/-- The age of an entry by the two step counts as numbers (R168). -/
theorem age_eq (s : State) (e : Entry) :
    s.age e = (s.tracker.stepCount.toNat + 4294967296 - e.step.toNat) % 4294967296 := by
  have := e.step.isLt
  rw [State.age, BitVec.toNat_sub]
  congr 1
  omega

/-! ## The entry granted next -/

/-- The better of the entry found so far and the next one. -/
def State.better (s : State) (acc : Option Entry) (e : Entry) : Option Entry :=
  match acc with
  | none => some e
  | some b => if s.grantBefore e b then some e else some b

theorem firstEligible_eq (s : State) : s.firstEligible = (s.pilotQueue.filter s.eligible).foldl s.better none := rfl

/-- The search answers one of the entries, and none of them stands before it. -/
theorem foldl_better (s : State) (l : List Entry) : ∀ b : Entry, ∃ e, l.foldl s.better (some b) = some e ∧ e ∈ b :: l ∧
    ∀ o ∈ b :: l, ¬s.grantBefore o e = true := by
  induction l with
  | nil =>
    refine fun b => ⟨b, rfl, List.mem_singleton_self b, fun o mem => ?_⟩
    rw [List.mem_singleton.mp mem]; exact grantBefore_irrefl b
  | cons a l ih =>
    intro b
    by_cases before : s.grantBefore a b = true
    · have step : (a :: l).foldl s.better (some b) = l.foldl s.better (some a) := congrArg (l.foldl s.better) (if_pos before)
      obtain ⟨e, found, mem, first⟩ := ih a
      refine ⟨e, step.trans found, List.mem_cons_of_mem b mem, List.forall_mem_cons.mpr ⟨fun be => ?_, first⟩⟩
      exact first a List.mem_cons_self (grantBefore_trans before be)
    · have step : (a :: l).foldl s.better (some b) = l.foldl s.better (some b) := congrArg (l.foldl s.better) (if_neg before)
      obtain ⟨e, found, mem, first⟩ := ih b
      obtain ⟨behind, rest⟩ := List.forall_mem_cons.mp first
      refine ⟨e, step.trans found, ?_, List.forall_mem_cons.mpr ⟨behind, List.forall_mem_cons.mpr ⟨fun ae => ?_, rest⟩⟩⟩
      · exact (List.mem_cons.mp mem).elim (fun same => same ▸ List.mem_cons_self)
          fun mem => List.mem_cons_of_mem b (List.mem_cons_of_mem a mem)
      · exact (grantBefore_split b ae).elim before behind

/-- No grant is due exactly when no queued entry is eligible. -/
theorem firstEligible_eq_none : s.firstEligible = none ↔ ∀ e ∈ s.pilotQueue, ¬s.eligible e = true := by
  rw [firstEligible_eq, ← List.filter_eq_nil_iff]
  cases s.pilotQueue.filter s.eligible with
  | nil => exact iff_of_true rfl rfl
  | cons b l =>
    obtain ⟨e, found, -⟩ := foldl_better s l b
    exact iff_of_false (fun unserved => Option.some_ne_none e (found.symm.trans unserved)) (List.cons_ne_nil b l)

/-- The entry granted next is queued and eligible, and no eligible entry stands before it. -/
theorem firstEligible_spec {e : Entry} (first : s.firstEligible = some e) : e ∈ s.pilotQueue ∧ s.eligible e = true ∧
    ∀ o ∈ s.pilotQueue, s.eligible o = true → ¬s.grantBefore o e = true := by
  rw [firstEligible_eq] at first
  cases among : s.pilotQueue.filter s.eligible with
  | nil => rw [among] at first; cases first
  | cons b l =>
    obtain ⟨e', found, mem, best⟩ := foldl_better s l b
    rw [among] at first
    obtain rfl : e' = e := Option.some.inj (found.symm.trans first)
    obtain ⟨queued, eligible⟩ := List.mem_filter.mp (among ▸ mem)
    exact ⟨queued, eligible, fun o mem eligible => best o (among ▸ List.mem_filter.mpr ⟨mem, eligible⟩)⟩

/-- A queue with one entry per head holds two entries of two heads. -/
theorem heads_ne_of_sorted (sorted : QueueSorted s) {a b : Entry} (ha : a ∈ s.pilotQueue) (hb : b ∈ s.pilotQueue) (ne : a ≠ b) :
    a.head ≠ b.head := by
  have apart : s.pilotQueue.Pairwise fun a b => a.head ≠ b.head := sorted.imp fun lt e => absurd (congrArg Fin.val e) (Nat.ne_of_lt lt)
  have symmetric : Std.Symm fun a b : Entry => a.head ≠ b.head := ⟨fun _ _ => Ne.symm⟩
  exact apart.forall ha hb ne

end Order

/-! ## The FREE slots -/

/-- The FREE boost slots (R166). -/
def State.freeSlots (s : State) : Finset BoostId := Finset.univ.filter fun i => s.boosts[i.val] = none

section Slots
variable {i : BoostId} {e : Entry} {s : State}

theorem mem_freeSlots : i ∈ s.freeSlots ↔ s.boosts[i.val] = none := by simp [State.freeSlots]

theorem freeBoost_free (free : s.freeBoost = some i) : i ∈ s.freeSlots := by
  have found := List.find?_some (l := List.finRange 6) free
  exact mem_freeSlots.mpr (Option.isNone_iff_eq_none.mp found)

theorem freeBoost_eq_none : s.freeBoost = none ↔ s.freeSlots = ∅ := by
  simp only [State.freeBoost, List.find?_eq_none, Option.isNone_iff_eq_none, Finset.eq_empty_iff_forall_notMem, mem_freeSlots,
    List.mem_finRange, true_imp_iff]

/-- An event at one head leaves each slot FREE or held as it was (R166). -/
theorem freeSlots_of_elsewhere {h : HeadId} {s t : State} (e : t.elsewhere h = s.elsewhere h) : t.freeSlots = s.freeSlots := by
  have held (u : State) (i : BoostId) : (u.boostHolds h)[i.val] = none ↔ u.boosts[i.val] = none := by
    simp [State.boostHolds]
  ext i
  rw [mem_freeSlots, mem_freeSlots, ← held, ← held, holds_of_elsewhere e]

/-- A grant takes its slot and frees none. -/
theorem freeSlots_grant (i : BoostId) (e : Entry) (s : State) : (grant i e s).freeSlots = s.freeSlots.erase i := by
  have taken : (grant i e s).freeSlots = (s.granted i e ((s.head e.head).boosted e.kind)).freeSlots := by
    rw [grant_takes rfl]; exact freeSlots_of_elsewhere (takeGrant_elsewhere _ _ _)
  rw [taken]
  ext j
  rw [Finset.mem_erase, mem_freeSlots, mem_freeSlots]
  by_cases same : j = i
  · simp [same, State.granted]
  · have : i.val ≠ j.val := fun c => same (Fin.ext c.symm)
    simp [same, this, State.granted]

/-! ## The arbiter's rounds -/

theorem grants_idle (idle : s.freeBoost = none ∨ s.firstEligible = none) (n : Nat) : grants n s = s := by
  cases n with
  | zero => rfl
  | succ n =>
    unfold grants
    split
    next i e free first =>
      exact idle.elim (fun full => nomatch free.symm.trans full) fun unserved => nomatch first.symm.trans unserved
    · rfl

theorem grants_succ (free : s.freeBoost = some i) (first : s.firstEligible = some e) (n : Nat) :
    grants (n + 1) s = grants n (grant i e s) := by simp only [grants, free, first]

/-- Either the arbiter has nothing to do, or it has a slot and an entry for it. -/
theorem idle_or_grants (s : State) : (s.freeBoost = none ∨ s.firstEligible = none) ∨
    ∃ i e, s.freeBoost = some i ∧ s.firstEligible = some e := by
  cases s.freeBoost with
  | none => exact .inl (.inl rfl)
  | some i => cases s.firstEligible with
    | none => exact .inl (.inr rfl)
    | some e => exact .inr ⟨i, e, rfl, rfl⟩

theorem card_freeSlots_grant {n : Nat} (free : s.freeBoost = some i) (enough : s.freeSlots.card ≤ n + 1) :
    (grant i e s).freeSlots.card ≤ n := by
  rw [freeSlots_grant, Finset.card_erase_of_mem (freeBoost_free free)]
  exact Nat.sub_le_of_le_add enough

theorem freeBoost_of_card (full : s.freeSlots.card ≤ 0) : s.freeBoost = none :=
  freeBoost_eq_none.mpr (Finset.card_eq_zero.mp (Nat.le_zero.mp full))

/-- With as many rounds as slots are FREE, the arbiter ends with no slot FREE or no entry eligible. -/
theorem grants_done : ∀ (n : Nat) (s : State), s.freeSlots.card ≤ n → (grants n s).freeBoost = none ∨ (grants n s).firstEligible = none
  | 0, _, enough => .inl (freeBoost_of_card enough)
  | n + 1, s, enough => by
    obtain idle | ⟨i, e, free, first⟩ := idle_or_grants s
    · rwa [grants_idle idle]
    · rw [grants_succ free first]; exact grants_done n _ (card_freeSlots_grant free enough)

/-- With as many rounds as slots are FREE, one more changes nothing. -/
theorem grants_enough : ∀ (n : Nat) (s : State), s.freeSlots.card ≤ n → grants (n + 1) s = grants n s
  | 0, _, enough => grants_idle (.inl (freeBoost_of_card enough)) 1
  | n + 1, s, enough => by
    obtain idle | ⟨i, e, free, first⟩ := idle_or_grants s
    · rw [grants_idle idle, grants_idle idle]
    · rw [grants_succ free first, grants_succ free first]; exact grants_enough n _ (card_freeSlots_grant free enough)

theorem card_freeSlots_le (s : State) : s.freeSlots.card ≤ 6 := s.freeSlots.card_le_univ

end Slots

/-- Settles O26: the order by `firstEligible_spec`, the end by counting the FREE slots, of which each grant takes one. -/
theorem arbiterGrantsInOrder : Obligations.ArbiterGrantsInOrder := by
  refine ⟨?_, fun s => ⟨fun idle => grants_idle idle 6, fun i e free first => ?_, ?_⟩⟩
  · intro s sorted eligible age
    have judged (e : Entry) : s.eligible e = true ↔ eligible e :=
      eligible_iff.trans (forall₂_congr fun p _ => and_congr_right fun _ => dwellOver_iff_released)
    refine ⟨firstEligible_eq_none.trans (forall₂_congr fun e _ => not_congr (judged e)), fun e first => ?_⟩
    obtain ⟨queued, chosen, best⟩ := firstEligible_spec first
    refine ⟨queued, (judged e).mp chosen, fun o mem able ne => ?_⟩
    have heads : e.head ≠ o.head := heads_ne_of_sorted sorted queued mem ne.symm
    have before := grantBefore_iff.mp (grantBefore_of_not heads (best o mem ((judged o).mpr able)))
    rwa [age_eq, age_eq] at before
  · have fewer : (grant i e s).freeSlots.card ≤ 5 := card_freeSlots_grant free (card_freeSlots_le s)
    exact ⟨mem_freeSlots.mp (freeBoost_free free), (grants_succ free first 5).trans (grants_enough 5 _ fewer).symm⟩
  · refine (grants_done 6 s (card_freeSlots_le s)).imp_left fun full i held => ?_
    exact Finset.notMem_empty i (freeBoost_eq_none.mp full ▸ mem_freeSlots.mpr held)

end Sys2Proof.Machine
end

section
/-! SUPPORT. Boost completions (R170) and dwell ends (R167). -/

namespace Sys2Proof.Machine

/-! ## Boost completions -/

section Events
variable {t : Time} {i : BoostId} {h : HeadId} {p : Pilot} {s : State} {g : Grant}

theorem exec_boostCompletion_free (free : s.boosts[i.val] = none) : exec (.boostCompletion t i) s = .next (s.advance t) := by
  change execBoostCompletion t i s = _
  simp only [execBoostCompletion, advance_boosts, free]

theorem exec_boostCompletion_held (held : s.boosts[i.val] = some g) : exec (.boostCompletion t i) s =
    .next (if g.completion ≤ max s.now t then arbitrate (completeBoost i g (s.advance t)) else s.advance t) := by
  change execBoostCompletion t i s = _
  simp only [execBoostCompletion, advance_boosts, held]; rfl

theorem get_holdPilot (p r : Pilot) (q : Pilots) : (holdPilot p q).get r =
    if r = p ∧ (q.get r).state = .boost then { q.get r with state := .hold } else q.get r := by
  unfold holdPilot
  split
  next boost =>
    rw [Pilots.get_put]
    by_cases same : r = p
    · subst same; rw [if_pos rfl, if_pos ⟨rfl, boost⟩]
    · rw [if_neg same, if_neg fun both => same both.1]
  next other => rw [if_neg fun ⟨same, boost⟩ => other (same ▸ boost)]

/-- The pilots of a list that are in BOOST go to HOLD, every other pilot stays. -/
theorem get_holdPilots (ps : List Pilot) (r : Pilot) : ∀ q : Pilots, (ps.foldl (fun q p => holdPilot p q) q).get r =
    if r ∈ ps ∧ (q.get r).state = .boost then { q.get r with state := .hold } else q.get r := by
  induction ps with
  | nil => exact fun q => (if_neg fun both => nomatch both.1).symm
  | cons p ps ih =>
    intro q
    rw [List.foldl_cons, ih, get_holdPilot]
    by_cases boost : (q.get r).state = .boost
    · obtain rfl | other := eq_or_ne r p
      · simp [boost]
      · simp [boost, other]
    · simp [boost]

/-! ## Dwell ends -/

theorem exec_dwellEnd_never (never : ((s.head h).pilots.get p).released = none) :
    exec (.dwellEnd t h p) s = .next (s.advance t) := by
  change execDwellEnd t h p s = _
  simp only [execDwellEnd, head_advance, never]

theorem exec_dwellEnd_released {r : Time} (released : ((s.head h).pilots.get p).released = some r) : exec (.dwellEnd t h p) s =
    .next (if r + 100 * s.tracker.line.minDwell ≤ max s.now t then
      takeDwellEnd (r + 100 * s.tracker.line.minDwell) h p (s.advance t) else s.advance t) := by
  change execDwellEnd t h p s = _
  simp only [execDwellEnd, head_advance, released]; rfl

/-- A dwell that has passed is over once its dwell end has been taken (R173). -/
theorem dwellOver_noted {r : Time} (released : ((s.head h).pilots.get p).released = some r)
    (passed : s.tracker.line.dwellEnd r ≤ s.now) :
    (modPilots h (fun q => q.put p { q.get p with dwellTaken := some (s.tracker.line.dwellEnd r) }) s).dwellOver h p = true := by
  have noted : ((modPilots h (fun q => q.put p { q.get p with dwellTaken := some (s.tracker.line.dwellEnd r) }) s).head h).pilots.get p =
      { (s.head h).pilots.get p with dwellTaken := some (s.tracker.line.dwellEnd r) } := by
    rw [modPilots, head_modHead_self, Pilots.get_put, if_pos rfl]
  rw [dwellOver_iff (r := r) (by rw [noted]; exact released), noted]
  exact (Nat.lt_or_eq_of_le passed).imp_right fun ends => ⟨ends, rfl⟩

end Events

/-- Settles O28: each command by its cases, the pilots by `get_holdPilots` and `Pilots.get_put`, the dwell by `dwellOver_iff`. -/
theorem boostCompletionsAndDwellEnds : Obligations.BoostCompletionsAndDwellEnds := by
  intro t i h p s s' released
  refine ⟨exec_boostCompletion_free, fun g held running => ?_, fun g held done => ?_, fun r known passed => ?_,
    fun r known ends untaken => ?_, ?_⟩
  · rw [exec_boostCompletion_held held, if_neg (Nat.not_le.mpr running)]; rfl
  · refine ⟨_, ?_, fun r => get_holdPilots g.pilots r (s.head g.head).pilots⟩
    rw [exec_boostCompletion_held held, if_pos done]; rfl
  · refine ⟨(s.head h).pilots.put p { (s.head h).pilots.get p with dwellTaken := some (r + 100 * s.tracker.line.minDwell) }, ?_, ?_,
      fun k => Pilots.get_put _ p k _⟩
    · rw [exec_dwellEnd_released known, if_pos passed]; rfl
    · exact dwellOver_noted (s := s') known passed
  · rw [Bool.eq_false_iff, ne_eq, dwellOver_iff (s := s') known]
    rintro (before | ⟨-, taken⟩)
    · exact absurd (show _ < max s.now t from before) (Nat.not_lt.mpr ends.ge)
    · exact untaken (taken.trans (congrArg some ends))
  · rintro (never | ⟨r, known, running⟩)
    · exact exec_dwellEnd_never never
    · rw [exec_dwellEnd_released known, if_neg (Nat.not_le.mpr running)]; rfl

end Sys2Proof.Machine
end

section
/-! SUPPORT. Every step keeps the attention line as R182 judges it: tracker events, pulses, requests and commands, built from the operations of
Laws/Judged. A part that writes no cause, global flag or mask leaves `State.attn` alone; every other part ends by judging the line. -/

namespace Sys2Proof.Machine

/-! ## Crossings and tracker events -/

theorem deliverCrossings_judged {s : State} (hs : LineJudged s) : LineJudged (deliverCrossings s) :=
  arbitrate_judged (forInstalled_keeps (P := LineJudged) (fun _ _ => crossHead_judged) hs)

theorem crossingStep_judged {s : State} (hs : LineJudged s) : LineJudged (crossingStep s) :=
  deliverCrossings_judged (s := { s with tracker := s.tracker.step }) hs

theorem forwardStep_judged {s : State} (hs : LineJudged s) : LineJudged (forwardStep s) := by
  unfold forwardStep; split
  · exact crossingStep_judged hs
  · exact hs
  · exact hs

theorem abortAll_judged {r : Reason} {s : State} (hs : LineJudged s) : LineJudged (abortAll r s) :=
  arbitrate_judged (forInstalled_keeps (P := LineJudged) (fun _ _ => forceToSnift_judged) hs)

/-- REVERSE is raised first, so the line is judged whatever it was (R7). -/
theorem reverseAbort_judged (s : State) : LineJudged (reverseAbort s) := abortAll_judged (changeGlobals_judged _ s)

theorem reverseStep_judged {s : State} (hs : LineJudged s) : LineJudged (reverseStep s) := by
  unfold reverseStep; split
  · exact reverseAbort_judged _
  · simp only; split
    · exact reverseAbort_judged _
    · exact hs
  · exact hs

theorem referenceIndex_judged {s : State} (hs : LineJudged s) : LineJudged (referenceIndex s) := by
  have discharged (h : HeadId) (u : State) (hu : LineJudged u) : LineJudged (referencingDischarge h u) := by
    unfold referencingDischarge; simp only; split
    · exact dischargeCrossing_judged hu
    · exact hu
  exact deliverCrossings_judged (forInstalled_keeps (P := LineJudged) discharged (s := { s with tracker := s.tracker.reference }) hs)

theorem catchUp_judged : ∀ (k : Nat) {s : State}, LineJudged s → LineJudged (catchUp k s)
  | 0, _, hs => hs
  | k + 1, _, hs => catchUp_judged k (crossingStep_judged hs)

/-- ANGLE_FAULT is raised first, so the line is judged whatever it was (R12). -/
theorem mismatchedIndex_judged (s : State) : LineJudged (mismatchedIndex s) := by
  have aborted (k : Nat) (u : State) (hu : LineJudged u) : LineJudged (angleAbort k u) := by
    unfold angleAbort; split
    · exact abortAll_judged hu
    · exact hu
  have raised (k : Nat) (u : State) : LineJudged (angleAbort k (raiseAngleFault u)) := aborted k _ (changeGlobals_judged _ u)
  unfold mismatchedIndex; simp only; split
  · exact raised _ _
  · exact catchUp_judged _ (raised _ _)

theorem indexEvent_judged {s : State} (hs : LineJudged s) : LineJudged (indexEvent s) := by
  unfold indexEvent; split
  · exact referenceIndex_judged hs
  · split
    · exact hs
    · exact mismatchedIndex_judged s
  · exact hs

/-! ## Pulses, expiries, the divider -/

theorem countedPulse_judged {tk : Ticket} {h : HeadId} {s : State} (hs : LineJudged s) : LineJudged (countedPulse tk h s) := by
  unfold countedPulse; split
  · exact judged_of_attn (countPulse_attn tk h s) hs
  · exact arbitrate_judged (judged_of_attn ((takeDoseCrossing_attn _ h _).trans (countPulse_attn tk h s)) hs)

theorem glitchPulse_judged {tk : Ticket} {h : HeadId} {s : State} (hs : LineJudged s) : LineJudged (glitchPulse tk h s) := by
  unfold glitchPulse; split
  · exact arbitrate_judged (equipmentEnding_judged _ _ h _)
  · exact judged_of_attn (countGlitch_attn h s) hs

theorem meterPulse_judged {h : HeadId} {s : State} (hs : LineJudged s) : LineJudged (meterPulse h s) := by
  unfold meterPulse; split
  · split
    · exact hs
    · split
      · exact glitchPulse_judged hs
      · exact countedPulse_judged hs
  · exact judged_of_attn (strayPulse_attn h s) hs

theorem countedEdge_judged {h : HeadId} {s : State} (hs : LineJudged s) : LineJudged (countedEdge h s) := by
  have equalized : LineJudged (equalize h s) := judged_of_attn (equalize_attn h s) hs
  unfold countedEdge; split
  · exact arbitrate_judged equalized
  · exact equalized

/-- An expiry keeps the line judged where the sequencer's part of it does. -/
theorem takeExpiry_judged {n : TimerName} {act : HeadId → State → State} (ha : ∀ h s, LineJudged s → LineJudged (act h s))
    {h : HeadId} {s : State} (hs : LineJudged s) : LineJudged (takeExpiry n act h s) := by
  unfold takeExpiry; split
  · exact arbitrate_judged (ha h _ (judged_of_attn (stopTimer_attn n h s) hs))
  · exact hs

theorem recordOutcome_judged (h : HeadId) (o : CalOutcome) (k : Option Nat) (tag : Tag) (s : State) :
    LineJudged (recordOutcome h o k tag s) := changeCauses_judged h _ _

/-! ## Requests -/

theorem applyHeadFields_judged {f : HeadFields} {h : HeadId} {s : State} (hs : LineJudged s) : LineJudged (applyHeadFields f h s) := by
  have k : LineJudged (applyK f.k h s) := by
    unfold applyK; split
    · exact hs
    · exact writeK_judged hs
  have slot (u : State) : (applySlot f.slot h u).attn = u.attn := by unfold applySlot writeSlot; split <;> [rfl; (split <;> simp)]
  have reset (u : State) : (applyReset f.reset h u).attn = u.attn := by unfold applyReset; split <;> [rfl; (split <;> simp)]
  have service (u : State) : (applyService f.service h u).attn = u.attn := by
    unfold applyService; split
    · rfl
    · exact bringIn_attn h u
    · exact takeOut_attn h u
  exact judged_of_attn ((service _).trans ((reset _).trans (slot _))) k

/-- HEAD RESET clears the head's causes before the grants, so the line is judged whatever it was (R187). -/
theorem resetHead_judged (h : HeadId) (s : State) : LineJudged (resetHead h s) := by
  obtain ⟨-, -, -, -, -, -, judged⟩ := headResetEnd_rest h (takeOut h (resetSequencer h s))
  rw [resetHead_eq]
  exact arbitrate_judged judged

/-- LINE RESET clears every cause before the grants, so the line is judged whatever it was (R187). -/
theorem resetLine_judged (s : State) : LineJudged (resetLine s) := by
  obtain ⟨-, -, -, -, -, -, judged⟩ := lineResetState_rest s
  rw [lineResetState_eq] at judged
  exact arbitrate_judged judged

theorem trimFrom_judged {tk : Ticket} {s : State} (hs : LineJudged s) : LineJudged (trimFrom tk s) := by
  have stepped (rev : Revision) (step : Int) (h : HeadId) : LineJudged (trimHead rev step h s) := by
    unfold trimHead; simp only; split
    · exact changeCauses_judged h _ _
    · exact judged_of_attn (modRecord_attn h _ s) hs
  unfold trimFrom; split
  · split
    · exact stepped _ _ _
    · exact hs
  · exact hs

theorem recordVerdict_judged {v : Verdict} {tk : Ticket} {s : State} (hs : LineJudged s) : LineJudged (recordVerdict v tk s) := by
  have trimmed := trimFrom_judged (tk := { tk with verdict := some v })
    (s := putTransit (changeFirst tk.tag (fun t => { t with verdict := some v }) s.transit) s) hs
  unfold recordVerdict; simp only; split
  · exact trimmed
  · exact judged_of_attn (putTransit_attn _ _) trimmed

theorem retireMissed_judged {n : Tag} {s : State} (hs : LineJudged s) : LineJudged (retireMissed n s) := by
  unfold retireMissed; simp only; split
  · exact hs
  · exact changeGlobals_judged _ _

theorem serveWriteRecipe_attn (slot : Byte) (b : RevisionBlock) (s : State) : (serveWriteRecipe slot b s).1.attn = s.attn := by
  have current (n : SlotId) (rev : Revision) : (writeCurrent n rev s).attn = s.attn := (alignOut_attn n rev _).trans (modSlot_attn n _ s)
  unfold serveWriteRecipe; split
  · rfl
  · split
    · rfl
    · simp only; split
      · exact current _ _
      · exact current _ _
      · split <;> rfl

theorem dropPending_attn (s : State) : (dropPending s).attn = s.attn := mapHeads_attn _ (by intro x; rfl) s

theorem clearHead_judged (kinds : Byte) (h : HeadId) (s : State) : LineJudged (clearHead kinds h s) := by
  have cleared : LineJudged (changeCauses h (Causes.cleared kinds) s) := changeCauses_judged h _ s
  unfold clearHead; simp only; split
  · exact judged_of_attn (modRecord_attn h _ _) cleared
  · exact cleared

theorem serve_judged {r : Request} {s : State} (hs : LineJudged s) : LineJudged (serve r s).1 := by
  cases r with
  | readStatus => exact hs
  | readHead head =>
    simp only [serve, serveReadHead]; split
    · exact hs
    · exact changeCauses_judged _ _ _
  | readRecipe slot => simp only [serve, serveReadRecipe]; split <;> exact hs
  | readTicket selector number => exact hs
  | findTickets head slot location disposition verdictPresent startAfter => exact hs
  | setLine f =>
    simp only [serve, serveSetLine]; split
    · split
      · exact hs
      · exact arbitrate_judged (judgeLine_judged _)
    · exact hs
  | writeRecipe slot block => exact judged_of_attn (serveWriteRecipe_attn slot block s) hs
  | eraseRecipe slot =>
    simp only [serve, serveEraseRecipe]; split
    · exact hs
    · split <;> exact hs
  | setHead head service k slot resetLearning =>
    simp only [serve, serveSetHead]; split
    · exact hs
    · split
      · exact hs
      · split
        · exact hs
        · exact applyHeadFields_judged hs
  | headReset head =>
    simp only [serve, serveHeadReset]; split
    · exact hs
    · exact resetHead_judged _ s
  | lineReset => simp only [serve, serveLineReset]; exact resetLine_judged s
  | abortFill head =>
    simp only [serve, serveAbortFill]; split
    · exact abortAll_judged hs
    · split
      · exact hs
      · exact arbitrate_judged (forceToSnift_judged hs)
  | verdict tag level =>
    simp only [serve, serveVerdict]; split
    · exact hs
    · split
      · exact hs
      · exact recordVerdict_judged (retireMissed_judged hs)
  | keep tag =>
    simp only [serve, serveKeep]; split
    · exact hs
    · split
      · exact hs
      · split
        · exact hs
        · split <;> exact hs
  | retire tag =>
    simp only [serve, serveRetire]; split
    · exact hs
    · split <;> exact hs
  | calibrate tag w force =>
    simp only [serve, serveCalibrate]; split
    · exact hs
    · split
      · exact hs
      · split
        · exact hs
        · split
          · exact hs
          · split <;> exact hs
  | holdLearning hold =>
    simp only [serve, serveHoldLearning]; split
    · exact hs
    · exact judged_of_attn (dropPending_attn s) hs
    · exact hs
  | clearAttention target kinds =>
    simp only [serve, serveClearAttention]; split
    · split
      · exact hs
      · exact changeGlobals_judged _ s
    · split
      · exact hs
      · split
        · exact hs
        · split
          · exact hs
          · exact clearHead_judged kinds _ s
  | setMask kinds => exact judgeLine_judged _

theorem serveNext_judged {s : State} (hs : LineJudged s) : LineJudged (serveNext s) := by
  have framed (f : Frame) : LineJudged (serveFrame f s) := by
    unfold serveFrame; split
    · exact hs
    · exact serve_judged hs
  unfold serveNext; split
  · exact hs
  next f _ _ => exact framed f

theorem takeByte_judged {b : Byte} {s : State} (hs : LineJudged s) : LineJudged (takeByte b s) := by
  have linked (l : Link) : LineJudged { s with link := l } := hs
  unfold takeByte frameArrives; simp only; split
  · exact hs
  · split
    · split
      · exact serveNext_judged (linked _)
      · exact hs
    · exact hs

/-! ## Commands -/

/-- At power-on no cause is pending and the line is deasserted (R177). -/
theorem execPowerOn_judged {t : Time} {s u : State} (e : execPowerOn t s = .next u) : LineJudged u := by
  cases e
  refine judged_of_attn (s := State.reset) (attn_of rfl rfl rfl fun j => ?_) lineJudged_reset
  rw [head_reset]
  exact (congrArg Head.causes (Vector.getElem_map (xs := s.heads) _ j.isLt)).trans rfl

theorem exec_judged {c : Instr} {s u : State} (hs : LineJudged s) (e : exec c s = .next u) : LineJudged u := by
  have now (t : Time) : LineJudged (s.advance t) := hs
  have turned (t : Time) (x : Encoder) : LineJudged { s.advance t with encoder := x } := hs
  have request (r : Request) (t : Time) (e : exec (requestCommand t r) s = .next u) : LineJudged u := by
    rw [exec_requestCommand] at e
    cases e
    exact serve_judged (now t)
  cases c with
  | powerOn t => exact execPowerOn_judged e
  | forwardStep t => cases e; exact forwardStep_judged (turned t _)
  | reverseStep t => cases e; exact reverseStep_judged (turned t _)
  | directionlessChange t => cases e; exact hs
  | indexEvent t => cases e; exact indexEvent_judged (now t)
  | meterPulse t h =>
    cases e
    split
    · exact meterPulse_judged (now t)
    · exact hs
  | presenceEdge t h level => cases e; exact judged_of_attn (modHead_attn h _ (by intro x; rfl) _) (now t)
  | pressureEqualEdge t h level =>
    have leveled : LineJudged (modHead h (fun x => { x with pressureEqual := level }) (s.advance t)) :=
      judged_of_attn (modHead_attn h _ (by intro x; rfl) _) (now t)
    cases e
    split
    · exact countedEdge_judged leveled
    · exact leveled
  | equalizeExpiry t h => cases e; exact takeExpiry_judged (fun _ _ => forceToSnift_judged) (now t)
  | startFlowExpiry t h => cases e; exact takeExpiry_judged (fun h u => judged_of_attn (forceToSettle_attn _ h u)) (now t)
  | stallExpiry t h => cases e; exact takeExpiry_judged (fun h u => judged_of_attn (forceToSettle_attn _ h u)) (now t)
  | flowStillExpiry t h => cases e; exact takeExpiry_judged (fun _ _ => flowStill_judged) (now t)
  | settleLimitExpiry t h => cases e; exact takeExpiry_judged (fun h u _ => equipmentEnding_judged _ _ h u) (now t)
  | sniftExpiry t h => cases e; exact takeExpiry_judged (fun h u => judged_of_attn (sniftDone_attn h u)) (now t)
  | boostCompletion t i =>
    simp only [exec, execBoostCompletion] at e
    split at e
    · cases e; exact hs
    · cases e
      split
      · exact arbitrate_judged (judged_of_attn (completeBoost_attn _ _ _) (now t))
      · exact hs
  | dwellEnd t h p =>
    simp only [exec, execDwellEnd] at e
    split at e
    · cases e; exact hs
    · cases e
      split
      · exact takeDwellEnd_judged (now t)
      · exact hs
  | divisionCompletion t =>
    simp only [exec, execDivisionCompletion] at e
    split at e
    · cases e; exact hs
    · cases e; exact recordOutcome_judged _ _ _ _ _
  | byteReceived t b => cases e; exact takeByte_judged (now t)
  | interbyteGap t =>
    cases e
    split <;> exact hs
  | answerEnd t =>
    cases e
    have ended (l : Link) : LineJudged { s.advance t with link := l } := hs
    split
    · exact serveNext_judged (ended _)
    · exact hs
  | malformed t kind body =>
    cases e
    split <;> exact hs
  | readStatus t => exact request .readStatus t e
  | readHead t head => exact request (.readHead head) t e
  | readRecipe t slot => exact request (.readRecipe slot) t e
  | readTicket t selector number => exact request (.readTicket selector number) t e
  | findTickets t head slot location disposition verdictPresent startAfter =>
    exact request (.findTickets head slot location disposition verdictPresent startAfter) t e
  | setLine t fields => exact request (.setLine fields) t e
  | writeRecipe t slot block => exact request (.writeRecipe slot block) t e
  | eraseRecipe t slot => exact request (.eraseRecipe slot) t e
  | setHead t head service k slot resetLearning => exact request (.setHead head service k slot resetLearning) t e
  | headReset t head => exact request (.headReset head) t e
  | lineReset t => exact request .lineReset t e
  | abortFill t head => exact request (.abortFill head) t e
  | verdict t tag level => exact request (.verdict tag level) t e
  | keep t tag => exact request (.keep tag) t e
  | retire t tag => exact request (.retire tag) t e
  | calibrate t tag w force => exact request (.calibrate tag w force) t e
  | holdLearning t hold => exact request (.holdLearning hold) t e
  | clearAttention t target kinds => exact request (.clearAttention target kinds) t e
  | setMask t kinds => exact request (.setMask kinds) t e

/-- Settles O53: a command by `exec_judged`; idling changes nothing. -/
theorem lineStaysJudged : Obligations.LineStaysJudged := by
  intro s u hs e
  unfold step at e
  split at e
  · cases e; exact hs
  next c rest _ => exact exec_judged (s := { s with pending := rest }) hs e

end Sys2Proof.Machine
end

section
/-! SUPPORT. The attention unit's requests: SET MASK (R182, R183) and CLEAR ATTENTION (R184, R185), on the kind sets of R197. -/

namespace Sys2Proof.Machine

/-! ## Kind sets (R197) -/

/-- A one-member kind set meets a set exactly where its condition holds and the set names its kind. -/
theorem kindBit_meets_iff (k : Kind) (c : Bool) (m : Byte) : kindBit k c &&& m ≠ 0#8 ↔ c = true ∧ m.getLsbD k.code = true := by
  have bit : BitVec.twoPow 8 k.code ≠ 0#8 := by cases k <;> decide
  cases c with
  | false => simp [kindBit]
  | true =>
    show BitVec.twoPow 8 k.code &&& m ≠ 0#8 ↔ _
    rw [BitVec.twoPow_and]
    split
    next isNamed => exact iff_of_true bit ⟨rfl, isNamed⟩
    next unnamed => exact iff_of_false (fun meets => meets rfl) fun both => unnamed both.2

theorem union_meets_iff (a b m : Byte) : (a ||| b) &&& m ≠ 0#8 ↔ a &&& m ≠ 0#8 ∨ b &&& m ≠ 0#8 := by
  rw [BitVec.and_or_distrib_right, Ne, BitVec.or_eq_zero_iff, not_and_or]

/-- A head's pending causes meet a set exactly where the set names the kind of one of them. -/
theorem causes_meet_iff (c : Causes) (m : Byte) : c.kindSet &&& m ≠ 0#8 ↔
    (c.equipment.isSome = true ∧ m.getLsbD 0 = true) ∨ (c.intervention.isSome = true ∧ m.getLsbD 1 = true) ∨
    (c.fillFault.isSome = true ∧ m.getLsbD 2 = true) ∨ (c.trimLimit = true ∧ m.getLsbD 3 = true) ∨
    (c.calDone.isSome = true ∧ m.getLsbD 4 = true) := by
  simp only [Causes.kindSet, union_meets_iff, kindBit_meets_iff, or_assoc, Kind.code]

/-- The global flags meet a set exactly where the set names one that is pending. -/
theorem globals_meet_iff (g : Globals) (m : Byte) : g.kindSet &&& m ≠ 0#8 ↔
    (g.angleFault = true ∧ m.getLsbD 5 = true) ∨ (g.reverse = true ∧ m.getLsbD 6 = true) ∨
    (g.verdictLoss = true ∧ m.getLsbD 7 = true) := by
  simp only [Globals.kindSet, union_meets_iff, kindBit_meets_iff, or_assoc, Kind.code]

/-- Every per-head kind pending. -/
def Causes.full : Causes :=
  { equipment := some .drip, intervention := some .presenceStuck, fillFault := some .low, trimLimit := true
    calDone := some { outcome := .staged, kNew := none } }

/-- The set `namesHeadKind` tests against is that of every per-head kind (R184). -/
theorem namesHeadKind_iff (kinds : Byte) : namesHeadKind kinds = true ↔ kinds.getLsbD 0 = true ∨ kinds.getLsbD 1 = true ∨
    kinds.getLsbD 2 = true ∨ kinds.getLsbD 3 = true ∨ kinds.getLsbD 4 = true := by
  have meets := causes_meet_iff .full kinds
  simp only [Causes.full, Option.isSome_some, true_and] at meets
  rw [← meets, namesHeadKind, decide_eq_true_eq, BitVec.and_comm]; rfl

/-- The set `namesGlobalKind` tests against is that of every global kind (R184). -/
theorem namesGlobalKind_iff (kinds : Byte) : namesGlobalKind kinds = true ↔
    kinds.getLsbD 5 = true ∨ kinds.getLsbD 6 = true ∨ kinds.getLsbD 7 = true := by
  have meets := globals_meet_iff { angleFault := true, reverse := true, verdictLoss := true } kinds
  simp only [true_and] at meets
  rw [← meets, namesGlobalKind, decide_eq_true_eq, BitVec.and_comm]; rfl

/-! ## SET MASK (R183) -/

/-- The line is due exactly while a pending cause's kind is open, kind by kind (R182). -/
theorem lineDue_iff_kinds (s : State) : s.lineDue = true ↔
    (s.globals.angleFault = true ∧ s.masks.getLsbD 5 = true) ∨ (s.globals.reverse = true ∧ s.masks.getLsbD 6 = true) ∨
    (s.globals.verdictLoss = true ∧ s.masks.getLsbD 7 = true) ∨
    ∃ h, ((s.head h).causes.equipment.isSome = true ∧ s.masks.getLsbD 0 = true) ∨
      ((s.head h).causes.intervention.isSome = true ∧ s.masks.getLsbD 1 = true) ∨
      ((s.head h).causes.fillFault.isSome = true ∧ s.masks.getLsbD 2 = true) ∨
      ((s.head h).causes.trimLimit = true ∧ s.masks.getLsbD 3 = true) ∨
      ((s.head h).causes.calDone.isSome = true ∧ s.masks.getLsbD 4 = true) := by
  simp only [lineDue_iff, globals_meet_iff, causes_meet_iff, or_assoc]

/-- Settles O50: the line is `lineDue` of the state with the new masks, which `lineDue_iff_kinds` spells out. -/
theorem setMaskJudgesLine : Obligations.SetMaskJudgesLine := by
  intro t kinds s
  exact ⟨State.lineDue { s.advance t with masks := kinds }, rfl, lineDue_iff_kinds _⟩

/-! ## CLEAR ATTENTION (R184, R185) -/

/-- A change of a record has no part in the judgement of the line. -/
theorem modRecord_judgeLine (h : HeadId) (f : HeadRecord → HeadRecord) (s : State) :
    modRecord h f (judgeLine s) = judgeLine (modRecord h f s) :=
  congrArg (fun due => { modRecord h f s with attentionLine := due }) (lineDue_congr (modRecord_attn h f s)).symm

/-- The named kinds of a head's causes cleared, and its drift counter with TRIM_LIMIT, are one write of the head (R185). -/
theorem clearHead_eq (kinds : Byte) (h : HeadId) (s : State) : clearHead kinds h s = judgeLine (setHead h { s.head h with
    record := { (s.head h).record with drift := if named kinds .trimLimit then 0 else (s.head h).record.drift }
    causes := (s.head h).causes.cleared kinds } s) := by
  unfold clearHead
  cases trim : named kinds .trimLimit with
  | false => rfl
  | true =>
    have written := modHead_setHead h (fun x => { x with record := { x.record with drift := 0 } })
      { s.head h with causes := (s.head h).causes.cleared kinds } s
    exact (modRecord_judgeLine h (fun r => { r with drift := 0 }) _).trans (congrArg judgeLine written)

theorem Causes.cleared_eq (kinds : Byte) (c : Causes) : c.cleared kinds =
    { equipment := if kinds.getLsbD 0 then none else c.equipment, intervention := if kinds.getLsbD 1 then none else c.intervention
      fillFault := if kinds.getLsbD 2 then none else c.fillFault, trimLimit := c.trimLimit && !kinds.getLsbD 3
      calDone := if kinds.getLsbD 4 then none else c.calDone } := by
  have trim : (if named kinds .trimLimit then false else c.trimLimit) = (c.trimLimit && !kinds.getLsbD 3) := by
    show (if kinds.getLsbD 3 then false else c.trimLimit) = _
    cases kinds.getLsbD 3 <;> simp
  rw [Causes.cleared, trim]; rfl

section Served
variable {t : Time} {target kinds : Byte} {s u : State}

theorem exec_clearAttention {r : Reply} (served : serveClearAttention target kinds (s.advance t) = (u, r)) :
    exec (.clearAttention t target kinds) s = .next (replied 0x12 (u, r)) := by rw [← served]; rfl

theorem serveClearAttention_global_badField (heads : namesHeadKind kinds = true) :
    serveClearAttention 0xFF kinds s = (s, .badField 1) := if_pos heads

theorem serveClearAttention_global (globals : ¬namesHeadKind kinds = true) :
    serveClearAttention 0xFF kinds s = (changeGlobals (Globals.cleared kinds) s, .done) := if_neg globals

theorem serveClearAttention_noHead (one : target ≠ 0xFF#8) (absent : s.installedHead target.toNat = none) :
    serveClearAttention target kinds s = (s, .plain .noSuchHead) := by
  rw [serveClearAttention, if_neg one, absent]

/-- A target that names an installed head, with the refusals in order (R184). -/
theorem serveClearAttention_head {h : HeadId} (found : s.installedHead target.toNat = some h) : serveClearAttention target kinds s =
    if namesGlobalKind kinds then (s, .badField 1)
    else if kinds.getLsbD 0 = true ∧ (s.head h).record.service ≠ .out then (s, .plain .notAllowed)
    else (clearHead kinds h s, .done) := by
  have one : target ≠ 0xFF#8 := fun all => by rw [all, installedHead_all] at found; cases found
  rw [serveClearAttention, if_neg one, found]; rfl

end Served

/-- Settles O49: the answers of the serving in their order, what the named kinds are by `namesHeadKind_iff` and `namesGlobalKind_iff`, the
cleared head by `clearHead_eq`. -/
theorem clearAttentionClearsNamedKinds : Obligations.ClearAttentionClearsNamedKinds := by
  intro t target kinds s s' bit refused perHead global
  refine ⟨?_, ?_, fun one beyond => ?_, fun h number installed => ?_⟩
  · rintro rfl heads
    exact exec_clearAttention (serveClearAttention_global_badField ((namesHeadKind_iff kinds).mpr heads))
  · rintro rfl globals
    exact exec_clearAttention (serveClearAttention_global (mt (namesHeadKind_iff kinds).mp globals))
  · exact exec_clearAttention (serveClearAttention_noHead one (installedHead_beyond beyond))
  · have found : s'.installedHead target.toNat = some h := installedHead_named number (decide_eq_true installed)
    have served := serveClearAttention_head (kinds := kinds) found
    refine ⟨fun globals => ?_, fun heads equipment out => ?_, fun heads allowed => ?_⟩
    · rw [if_pos ((namesGlobalKind_iff kinds).mpr globals)] at served
      exact exec_clearAttention served
    · rw [if_neg (mt (namesGlobalKind_iff kinds).mp heads), if_pos ⟨equipment, out⟩] at served
      exact exec_clearAttention served
    · rw [if_neg (mt (namesGlobalKind_iff kinds).mp heads), if_neg fun both => both.2 (allowed both.1), clearHead_eq,
        Causes.cleared_eq] at served
      exact exec_clearAttention served

end Sys2Proof.Machine
end


section
/-! SUPPORT. What a step answers by the queue of commands: the front command's execution, or idling (log entry 2). -/

namespace Sys2Proof.Machine

section Queue
variable {s : State}

theorem step_of_pending_cons {c : Instr} {rest : List Instr} (front : s.pending = c :: rest) :
    step s = exec c { s with pending := rest } := by
  rw [step, front]

theorem step_of_pending_nil (empty : s.pending = []) : step s = .next s := by
  rw [step, empty]

end Queue

/-- Settles O1: the queue has a front command or is empty, and each branch of the step is its equation. -/
theorem stepTakesFrontCommand : Obligations.StepTakesFrontCommand :=
  ⟨fun _ _ _ front => step_of_pending_cons front, fun _ empty => step_of_pending_nil empty⟩

end Sys2Proof.Machine
end

section
/-! SUPPORT. The serving of a request: the link port stands, and the reply has a payload only with DONE and a detail only with BAD_FIELD
(R193 to R195). -/

namespace Sys2Proof.Machine

/-! ## Operations that leave the port alone -/

theorem cancelCalibration_link (s : State) : (cancelCalibration s).link = s.link := by
  unfold cancelCalibration; split <;> rfl

theorem cancelForHead_link (h : HeadId) (s : State) : (cancelForHead h s).link = s.link := by
  unfold cancelForHead; split
  · exact cancelCalibration_link s
  · rfl

theorem resetHead_link (h : HeadId) (s : State) : (resetHead h s).link = s.link := calc
  (resetHead h s).link
    = (cancelForHead h (changeCauses h (fun _ => .clear) (resetRecord h (resetSequencer h s)))).link := outer_link (arbitrate_outer _)
  _ = (changeCauses h (fun _ => .clear) (resetRecord h (resetSequencer h s))).link := cancelForHead_link _ _
  _ = s.link := outer_link (by simp)

theorem resetLine_link (s : State) : (resetLine s).link = s.link := calc
  (resetLine s).link
    = (cancelCalibration (clearAllCauses (putTransit [] (resetRecords (resetSequencers s))))).link := outer_link (arbitrate_outer _)
  _ = (clearAllCauses (putTransit [] (resetRecords (resetSequencers s)))).link := cancelCalibration_link _
  _ = s.link := outer_link (by simp)

theorem applyLine_link (l : LineSetup) (s : State) : (applyLine l s).link = s.link := by
  have relined : (relined l s).link = s.link := by rw [relined, removeHeads_eq, dropRemovedCalibration_eq]; rfl
  exact (outer_link (arbitrate_outer _)).trans relined

/-! ## The serving of a request -/

/-- A serving leaves the port alone, and its reply is one of those of R194 and R195. -/
structure Served (s : State) (p : State × Reply) : Prop where
  link : p.1.link = s.link
  payload : p.2.code ≠ .done → p.2.payload = []
  detail : p.2.code ≠ .badField → p.2.detail = 0

theorem Served.plain {s u : State} (c : AnswerCode) (e : u.link = s.link) : Served s (u, .plain c) := ⟨e, fun _ => rfl, fun _ => rfl⟩

theorem Served.done {s u : State} (e : u.link = s.link) : Served s (u, .done) := .plain .done e

theorem Served.image {s u : State} (p : List Byte) (e : u.link = s.link) : Served s (u, .image p) :=
  ⟨e, fun other => absurd rfl other, fun _ => rfl⟩

theorem Served.badField {s : State} (n : Nat) : Served s (s, .badField n) := ⟨rfl, fun _ => rfl, fun other => absurd rfl other⟩

theorem serveReadHead_served (head : Byte) (s : State) : Served s (serveReadHead head s) := by
  unfold serveReadHead; split
  · exact .plain _ rfl
  · exact .image _ rfl

theorem serveReadRecipe_served (slot : Byte) (s : State) : Served s (serveReadRecipe slot s) := by
  unfold serveReadRecipe; split
  · exact .badField 0
  · exact .image _ rfl

theorem readByTag_served (number : Half) (s : State) : Served s (s, readByTag number s) := by
  unfold readByTag; split
  · exact .badField 1
  · split
    · exact .plain _ rfl
    · exact .image _ rfl

theorem readByHead_served (number : Half) (s : State) : Served s (s, readByHead number s) := by
  unfold readByHead; split
  · exact .plain _ rfl
  · split
    · exact .plain _ rfl
    · exact .image _ rfl

theorem serveReadTicket_served (selector : Byte) (number : Half) (s : State) : Served s (serveReadTicket selector number s) := by
  unfold serveReadTicket; split
  · exact readByTag_served number s
  · split
    · exact readByHead_served number s
    · exact .badField 0

theorem serveFindTickets_served (head slot location disposition verdictPresent : Byte) (startAfter : Half) (s : State) :
    Served s (serveFindTickets head slot location disposition verdictPresent startAfter s) := by
  unfold serveFindTickets
  cases s.anyHeadOf head with
  | none => exact .plain _ rfl
  | some h =>
    cases anySlotOf slot with
    | none => exact .badField 1
    | some n =>
      cases anyLocationOf location with
      | none => exact .badField 2
      | some l =>
        cases anyDispositionOf disposition with
        | none => exact .badField 3
        | some d =>
          cases anyVerdictOf verdictPresent with
          | none => exact .badField 4
          | some v =>
            cases startAfterOf startAfter with
            | none => exact .badField 5
            | some start => exact .image _ rfl

theorem serveSetLine_served (f : LineFields) (s : State) : Served s (serveSetLine f s) := by
  unfold serveSetLine; split
  · split
    · exact .badField _
    · exact .done (applyLine_link _ s)
  · exact .plain _ rfl

theorem serveWriteRecipe_served (slot : Byte) (b : RevisionBlock) (s : State) : Served s (serveWriteRecipe slot b s) := by
  unfold serveWriteRecipe; split
  · exact .badField 0
  · split
    · exact .badField _
    · simp only
      split
      · exact .done rfl
      · exact .done rfl
      · split
        · exact .plain _ rfl
        · exact .done rfl

theorem serveEraseRecipe_served (slot : Byte) (s : State) : Served s (serveEraseRecipe slot s) := by
  unfold serveEraseRecipe; split
  · exact .badField 0
  · split
    · exact .plain _ rfl
    · exact .done rfl

theorem serveSetHead_served (head service : Byte) (k : Half) (slot resetLearning : Byte) (s : State) :
    Served s (serveSetHead head service k slot resetLearning s) := by
  unfold serveSetHead; split
  · exact .plain _ rfl
  · split
    · exact .badField _
    · split
      · exact .plain _ rfl
      · exact .done (outer_link (applyHeadFields_outer _ _ s))

theorem serveHeadReset_served (head : Byte) (s : State) : Served s (serveHeadReset head s) := by
  unfold serveHeadReset; split
  · exact .plain _ rfl
  · exact .done (resetHead_link _ s)

theorem serveAbortFill_served (head : Byte) (s : State) : Served s (serveAbortFill head s) := by
  unfold serveAbortFill; split
  · exact .done (outer_link (abortAll_outer .aborted s))
  · split
    · exact .plain _ rfl
    · exact .done (outer_link (by simp))

theorem serveVerdict_served (tag level : Half) (s : State) : Served s (serveVerdict tag level s) := by
  unfold serveVerdict; split
  · exact .badField 0
  · split
    · exact .plain _ rfl
    · exact .image _ (outer_link (by simp))

theorem serveKeep_served (tag : Half) (s : State) : Served s (serveKeep tag s) := by
  unfold serveKeep; split
  · exact .badField 0
  · split
    · exact .plain _ rfl
    · split
      · exact .done rfl
      · split
        · exact .done rfl
        · exact .plain _ rfl

theorem serveRetire_served (tag : Half) (s : State) : Served s (serveRetire tag s) := by
  unfold serveRetire; split
  · exact .badField 0
  · split
    · exact .plain _ rfl
    · exact .done rfl

theorem serveCalibrate_served (tag : Half) (w : Wide) (force : Byte) (s : State) : Served s (serveCalibrate tag w force s) := by
  unfold serveCalibrate; split
  · exact .badField _
  · split
    · exact .plain _ rfl
    · split
      · exact .plain _ rfl
      · split
        · exact .plain _ rfl
        · split
          · exact .plain _ rfl
          · exact .plain _ rfl

theorem serveHoldLearning_served (hold : Byte) (s : State) : Served s (serveHoldLearning hold s) := by
  unfold serveHoldLearning; split
  · exact .badField 0
  · exact .done rfl
  · exact .done rfl

theorem serveClearAttention_served (target kinds : Byte) (s : State) : Served s (serveClearAttention target kinds s) := by
  unfold serveClearAttention; split
  · split
    · exact .badField 1
    · exact .done rfl
  · split
    · exact .plain _ rfl
    · split
      · exact .badField 1
      · split
        · exact .plain _ rfl
        · exact .done (outer_link (clearHead_outer kinds _ s))

/-- Whatever the request, its serving leaves the port alone and forms a reply of R194 and R195. -/
theorem serve_served (r : Request) (s : State) : Served s (serve r s) := by
  cases r with
  | readStatus => exact .image _ rfl
  | readHead head => exact serveReadHead_served head s
  | readRecipe slot => exact serveReadRecipe_served slot s
  | readTicket selector number => exact serveReadTicket_served selector number s
  | findTickets head slot location disposition verdictPresent startAfter =>
    exact serveFindTickets_served head slot location disposition verdictPresent startAfter s
  | setLine fields => exact serveSetLine_served fields s
  | writeRecipe slot block => exact serveWriteRecipe_served slot block s
  | eraseRecipe slot => exact serveEraseRecipe_served slot s
  | setHead head service k slot resetLearning => exact serveSetHead_served head service k slot resetLearning s
  | headReset head => exact serveHeadReset_served head s
  | lineReset => exact .done (resetLine_link s)
  | abortFill head => exact serveAbortFill_served head s
  | verdict tag level => exact serveVerdict_served tag level s
  | keep tag => exact serveKeep_served tag s
  | retire tag => exact serveRetire_served tag s
  | calibrate tag w force => exact serveCalibrate_served tag w force s
  | holdLearning hold => exact serveHoldLearning_served hold s
  | clearAttention target kinds => exact serveClearAttention_served target kinds s
  | setMask kinds => exact .done rfl

/-- The serving of a frame leaves the port alone (R193). -/
theorem serveFrame_link (f : Frame) (s : State) : (serveFrame f s).link = s.link := by
  unfold serveFrame; split
  · rfl
  · exact (serve_served _ s).link

/-- The serving of a frame forms an answer (R193). -/
theorem serveFrame_answers (f : Frame) (s : State) : (serveFrame f s).lastAnswer.isSome = true := by
  unfold serveFrame; split <;> rfl

end Sys2Proof.Machine
end

section
/-! SUPPORT. The receive queue (R192, R193): frames that arrive, the end of an answer, the gap (R190); at most 4 frames are queued, and an
answer is being sent exactly while one is. -/

namespace Sys2Proof.Machine

/-! ## Serving from the queue -/

theorem serveNext_of_nil {s : State} (empty : s.link.queue = []) : serveNext s = s := by simp only [serveNext, empty]

theorem serveNext_of_cons {s : State} {f : Frame} {rest : List Frame} (front : s.link.queue = f :: rest) :
    serveNext s = { serveFrame f s with link := { s.link with sending := (serveFrame f s).lastAnswer } } := by
  simp only [serveNext, front, serveFrame_link]

theorem frameArrives_of_full {s : State} (f : Frame) (full : 4 ≤ s.link.queue.length) : frameArrives f s = s :=
  if_neg (Nat.not_lt.mpr full)

theorem frameArrives_of_busy {s : State} (f : Frame) (room : s.link.queue.length < 4) (busy : s.link.queue ≠ []) :
    frameArrives f s = { s with link := { s.link with queue := s.link.queue ++ [f] } } := by
  have filled : s.link.queue.isEmpty ≠ true := mt List.isEmpty_iff.mp busy
  simp only [frameArrives, Config.frameMax, if_pos room, if_neg filled]

theorem frameArrives_of_idle {s : State} (f : Frame) (idle : s.link.queue = []) :
    frameArrives f s = serveNext { s with link := { s.link with queue := [f] } } := by
  simp [frameArrives, idle]

/-! ## The port stays legal (R192, R193) -/

theorem portLegal_congr {s u : State} (e : u.link = s.link) : PortLegal u ↔ PortLegal s := by rw [PortLegal, e]; rfl

/-- With no answer being sent and at most 4 frames queued, the serving of the next one leaves the port legal. -/
theorem serveNext_portLegal {s : State} (room : s.link.queue.length ≤ 4) (silent : s.link.sending = none) : PortLegal (serveNext s) := by
  cases front : s.link.queue with
  | nil =>
    rw [serveNext_of_nil front]
    exact ⟨room, by simp [front, silent]⟩
  | cons f rest =>
    rw [serveNext_of_cons front]
    refine ⟨room, iff_of_true (serveFrame_answers f s) ?_⟩
    rw [front]
    exact List.cons_ne_nil f rest

theorem frameArrives_portLegal (f : Frame) {s : State} (hs : PortLegal s) : PortLegal (frameArrives f s) := by
  have sends := hs.2
  by_cases idle : s.link.queue = []
  · rw [frameArrives_of_idle f idle]
    exact serveNext_portLegal (by simp) (by simpa [idle] using sends)
  · by_cases room : s.link.queue.length < 4
    · rw [frameArrives_of_busy f room idle]
      exact ⟨by simpa using room, iff_of_true (sends.mpr idle) (by simp)⟩
    · rw [frameArrives_of_full f (Nat.le_of_not_lt room)]
      exact hs

theorem takeByte_portLegal (b : Byte) {s : State} (hs : PortLegal s) : PortLegal (takeByte b s) := by
  unfold takeByte
  simp only
  split
  · exact hs
  · exact frameArrives_portLegal _ hs

theorem endAnswer_portLegal {s : State} (hs : PortLegal s) : PortLegal (endAnswer s) := by
  obtain ⟨room, -⟩ := hs
  exact serveNext_portLegal (Nat.le_trans (by simp) room) rfl

/-! ## Events of the tracker and the divider leave the port alone -/

theorem crossingStep_link (s : State) : (crossingStep s).link = s.link := (outer_link (deliverCrossings_outer _)).trans rfl

theorem catchUp_link : ∀ (k : Nat) (s : State), (catchUp k s).link = s.link
  | 0, _ => rfl
  | k + 1, s => (catchUp_link k (crossingStep s)).trans (crossingStep_link s)

theorem forwardStep_link (s : State) : (forwardStep s).link = s.link := by
  unfold forwardStep; split
  · exact crossingStep_link s
  · rfl
  · rfl

theorem reverseStep_link (s : State) : (reverseStep s).link = s.link := by
  unfold reverseStep; split
  · exact (outer_link (reverseAbort_outer _)).trans rfl
  · simp only
    split
    · exact (outer_link (reverseAbort_outer _)).trans rfl
    · rfl
  · rfl

theorem mismatchedIndex_link (s : State) : (mismatchedIndex s).link = s.link := by
  have aborted : (angleAbort (mismatch s.tracker.angle) (raiseAngleFault
      { s with tracker := { s.tracker with lastIndexError := indexError s.tracker.angle } })).link = s.link :=
    (outer_link (angleAbort_outer _ _)).trans rfl
  unfold mismatchedIndex
  simp only
  split
  · exact aborted
  · exact (catchUp_link _ _).trans aborted

theorem indexEvent_link (s : State) : (indexEvent s).link = s.link := by
  unfold indexEvent; split
  · exact (outer_link ((deliverCrossings_outer _).trans (forInstalled_outer _ referencingDischarge_outer _))).trans rfl
  · split
    · rfl
    · exact mismatchedIndex_link s
  · rfl

theorem completeDivision_link (c : Calibration) (s : State) : (completeDivision c s).link = s.link := by
  have recorded (o : CalOutcome) (k : Option Nat) (u : State) :
      (recordOutcome c.head o k c.tag { u with divider := none }).link = u.link := rfl
  unfold completeDivision; simp only [recorded]; split
  · exact outer_link (writeK_outer _ _ s)
  · rfl

/-! ## Commands -/

theorem exec_portLegal {c : Instr} {s u : State} (hs : PortLegal s) (e : exec c s = .next u) : PortLegal u := by
  have stands {v : State} (same : v.link = s.link) : PortLegal v := (portLegal_congr same).mpr hs
  have inner {v : State} (t : Time) (same : v.outer = (s.advance t).outer) : PortLegal v := stands ((outer_link same).trans rfl)
  have request (r : Request) (t : Time) (e : exec (requestCommand t r) s = .next u) : PortLegal u := by
    rw [exec_requestCommand] at e
    cases e
    exact stands (serve_served r (s.advance t)).link
  cases c with
  | powerOn t => cases e; exact (portLegal_congr (s := State.reset) rfl).mpr ⟨by decide, by decide⟩
  | forwardStep t => cases e; exact stands (forwardStep_link _)
  | reverseStep t => cases e; exact stands (reverseStep_link _)
  | directionlessChange t => cases e; exact hs
  | indexEvent t => cases e; exact stands (indexEvent_link _)
  | meterPulse t h =>
    cases e
    split
    · exact inner t (meterPulse_outer h _)
    · exact hs
  | presenceEdge t h level => cases e; exact hs
  | pressureEqualEdge t h level =>
    cases e
    split
    · exact inner t (countedEdge_outer h _)
    · exact hs
  | equalizeExpiry t h => cases e; exact inner t (takeExpiry_outer _ _ (forceToSnift_outer _) h _)
  | startFlowExpiry t h => cases e; exact inner t (takeExpiry_outer _ _ (forceToSettle_outer _) h _)
  | stallExpiry t h => cases e; exact inner t (takeExpiry_outer _ _ (forceToSettle_outer _) h _)
  | flowStillExpiry t h => cases e; exact inner t (takeExpiry_outer _ _ flowStill_outer h _)
  | settleLimitExpiry t h => cases e; exact inner t (takeExpiry_outer _ _ (equipmentEnding_outer _ _) h _)
  | sniftExpiry t h => cases e; exact inner t (takeExpiry_outer _ _ sniftDone_outer h _)
  | boostCompletion t i =>
    simp only [exec, execBoostCompletion] at e
    split at e
    · cases e; exact hs
    · cases e
      split
      · exact inner t ((arbitrate_outer _).trans (completeBoost_outer _ _ _))
      · exact hs
  | dwellEnd t h p =>
    simp only [exec, execDwellEnd] at e
    split at e
    · cases e; exact hs
    · cases e
      split
      · exact inner t (takeDwellEnd_outer _ h p _)
      · exact hs
  | divisionCompletion t =>
    simp only [exec, execDivisionCompletion] at e
    split at e
    · cases e; exact hs
    · cases e; exact stands (completeDivision_link _ _)
  | byteReceived t b => cases e; exact takeByte_portLegal b (s := s.advance t) hs
  | interbyteGap t => cases e; split <;> exact hs
  | answerEnd t =>
    cases e
    split
    · exact endAnswer_portLegal (s := s.advance t) hs
    · exact hs
  | malformed t kind body => cases e; split <;> exact hs
  | readStatus t => exact request .readStatus t e
  | readHead t head => exact request (.readHead head) t e
  | readRecipe t slot => exact request (.readRecipe slot) t e
  | readTicket t selector number => exact request (.readTicket selector number) t e
  | findTickets t head slot location disposition verdictPresent startAfter =>
    exact request (.findTickets head slot location disposition verdictPresent startAfter) t e
  | setLine t fields => exact request (.setLine fields) t e
  | writeRecipe t slot block => exact request (.writeRecipe slot block) t e
  | eraseRecipe t slot => exact request (.eraseRecipe slot) t e
  | setHead t head service k slot resetLearning => exact request (.setHead head service k slot resetLearning) t e
  | headReset t head => exact request (.headReset head) t e
  | lineReset t => exact request .lineReset t e
  | abortFill t head => exact request (.abortFill head) t e
  | verdict t tag level => exact request (.verdict tag level) t e
  | keep t tag => exact request (.keep tag) t e
  | retire t tag => exact request (.retire tag) t e
  | calibrate t tag w force => exact request (.calibrate tag w force) t e
  | holdLearning t hold => exact request (.holdLearning hold) t e
  | clearAttention t target kinds => exact request (.clearAttention target kinds) t e
  | setMask t kinds => exact request (.setMask kinds) t e

/-- Settles O55: only a completed frame and the end of an answer touch queue or sending (`exec_portLegal`), and each serves the next frame
exactly when the queue holds one. -/
theorem portStaysLegal : Obligations.PortStaysLegal := by
  intro s u hs e
  unfold step at e
  split at e
  · cases e; exact hs
  next c rest _ => exact exec_portLegal (s := { s with pending := rest }) hs e

/-! ## The statement on queue, answer and gap -/

theorem frameArrives_served {s : State} (f : Frame) (idle : s.link.queue = []) :
    let u := serveFrame f { s with link := { s.link with queue := [f] } }
    frameArrives f s = { u with link := { s.link with queue := [f], sending := u.lastAnswer } } ∧ u.lastAnswer.isSome = true :=
  ⟨(frameArrives_of_idle f idle).trans (serveNext_of_cons rfl), serveFrame_answers f _⟩

theorem exec_answerEnd_silent (t : Time) {s : State} (silent : s.link.sending = none) :
    exec (.answerEnd t) s = .next { s with now := max s.now t } := by
  show Host.Outcome.next (if s.link.sending.isSome then endAnswer (s.advance t) else s.advance t) = _
  rw [silent]; rfl

theorem exec_answerEnd_sending (t : Time) {s : State} (sends : s.link.sending.isSome = true) :
    exec (.answerEnd t) s = .next (serveNext
      { s with now := max s.now t, link := { s.link with queue := s.link.queue.tail, sending := none } }) := by
  show Host.Outcome.next (if s.link.sending.isSome then endAnswer (s.advance t) else s.advance t) = _
  rw [if_pos sends]; rfl

theorem exec_interbyteGap (t : Time) (s : State) : exec (.interbyteGap t) s =
    .next (if s.link.rx ≠ .hunt ∧ s.link.lastByte + 2000 ≤ max s.now t then
        { s with now := max s.now t, link := { s.link with rx := .hunt } }
      else { s with now := max s.now t }) := by
  show Host.Outcome.next (if decide _ = true then _ else _) = _
  simp only [decide_eq_true_eq]; rfl

/-- Settles O31: the arrival at a full, a busy and an idle queue, and the end of an answer, each by its equation. -/
theorem framesQueueAndAreServed : Obligations.FramesQueueAndAreServed := by
  refine ⟨fun f s => ⟨frameArrives_of_full f, frameArrives_of_busy f, frameArrives_served f⟩,
    fun t s => ⟨exec_answerEnd_silent t, ?ended, ?next, ?early, ?gap⟩⟩
  case ended =>
    intro sends last
    have emptied : s.link.queue.tail = [] := List.length_eq_zero_iff.mp (by rw [List.length_tail]; omega)
    rw [exec_answerEnd_sending t sends, emptied, serveNext_of_nil rfl]
  case next =>
    intro f g rest sends queued
    rw [exec_answerEnd_sending t sends, queued, List.tail_cons, serveNext_of_cons rfl]
  case early =>
    intro early
    rw [exec_interbyteGap, if_neg fun passed => early.elim passed.1 (Nat.not_lt.mpr passed.2)]
  case gap =>
    intro partly passed
    rw [exec_interbyteGap, if_pos ⟨partly, passed⟩]

end Sys2Proof.Machine
end

section
/-! SUPPORT. Request frames (R193, R196 to R198): the fields written and read back, and a frame's serving beside its request's row. -/

namespace Sys2Proof.Machine

/-! ## Fields of two and four bytes (R197) -/

theorem half_twoBytes (v : Half) : v.extractLsb' 8 8 ++ v.extractLsb' 0 8 = v := by
  rw [BitVec.extractLsb'_append_extractLsb'_eq_extractLsb' (start₁ := 0) (len₁ := 8) rfl]
  exact BitVec.extractLsb'_eq_self

theorem wide_high (v : Wide) : v.extractLsb' 24 8 ++ v.extractLsb' 16 8 = v.extractLsb' 16 16 :=
  BitVec.extractLsb'_append_extractLsb'_eq_extractLsb' rfl

theorem wide_low (v : Wide) : v.extractLsb' 8 8 ++ v.extractLsb' 0 8 = v.extractLsb' 0 16 :=
  BitVec.extractLsb'_append_extractLsb'_eq_extractLsb' rfl

theorem wide_halves (v : Wide) : v.extractLsb' 16 16 ++ v.extractLsb' 0 16 = v := by
  rw [BitVec.extractLsb'_append_extractLsb'_eq_extractLsb' (start₁ := 0) (len₁ := 16) rfl]
  exact BitVec.extractLsb'_eq_self

theorem wide_fourBytes (v : Wide) : wideAt (fourBytes v) 0 = v :=
  (congrArg₂ (· ++ ·) (wide_high v) (wide_low v)).trans (wide_halves v)

theorem twoBytes_append (a b : Byte) : twoBytes (a ++ b) = [a, b] := by
  rw [twoBytes, BitVec.extractLsb'_append_eq_left, BitVec.extractLsb'_append_eq_right]

theorem twoBytes_halfAt (body : List Byte) (i : Nat) : twoBytes (halfAt body i) = [byteAt body i, byteAt body (i + 1)] :=
  twoBytes_append _ _

theorem fourBytes_append (x y : Half) : fourBytes (x ++ y) = twoBytes x ++ twoBytes y := by
  simp only [fourBytes, twoBytes, BitVec.extractLsb'_append_eq_ite]
  rfl

theorem fourBytes_wideAt (body : List Byte) (i : Nat) :
    fourBytes (wideAt body i) = [byteAt body i, byteAt body (i + 1), byteAt body (i + 2), byteAt body (i + 3)] := by
  rw [wideAt, fourBytes_append, twoBytes_halfAt, twoBytes_halfAt]; rfl

/-- A body of known length, byte by byte. -/
theorem bytes_of_length {body : List Byte} {n : Nat} (len : n = body.length) : (List.range n).map (byteAt body) = body := by
  subst len
  apply List.ext_getElem
  · simp
  · intro i _ below
    simp [byteAt, below]

/-! ## What a written request reads as (R196, R198) -/

theorem byteAt_cons_zero (x : Byte) (l : List Byte) : byteAt (x :: l) 0 = x := rfl
theorem byteAt_cons_succ (x : Byte) (l : List Byte) (i : Nat) : byteAt (x :: l) (i + 1) = byteAt l i := rfl

theorem lineFieldsOf_bytes (f : LineFields) : lineFieldsOf (requestFrame (.setLine f)).2 = f := by
  simp only [requestFrame, twoBytes, List.cons_append, List.nil_append, lineFieldsOf, halfAt, byteAt_cons_zero, byteAt_cons_succ,
    half_twoBytes]

theorem revisionBlockAt_bytes (slot : Byte) (b : RevisionBlock) : revisionBlockAt (slot :: blockBytes b) 1 = b := by
  unfold blockBytes
  simp only [fourBytes, twoBytes, List.cons_append, List.nil_append, revisionBlockAt, wideAt, halfAt, Nat.reduceAdd, byteAt_cons_zero,
    byteAt_cons_succ, half_twoBytes, wide_high, wide_low, wide_halves]

theorem blockBytes_length (b : RevisionBlock) : (blockBytes b).length = 42 := by
  unfold blockBytes
  simp only [fourBytes, twoBytes, List.length_append, List.length_cons, List.length_nil]

theorem ofFrame_writeRecipe (slot : Byte) (b : RevisionBlock) :
    Request.ofFrame 0x07 (slot :: blockBytes b) = some (.writeRecipe slot b) := by
  rw [Request.ofFrame, List.length_cons, blockBytes_length]
  exact congrArg (fun b => some (Request.writeRecipe slot b)) (revisionBlockAt_bytes slot b)

theorem ofFrame_requestFrame (r : Request) : Request.ofFrame (requestFrame r).1 (requestFrame r).2 = some r := by
  cases r with
  | readStatus => rfl
  | readHead head => rfl
  | readRecipe slot => rfl
  | readTicket selector number => exact congrArg (fun n : Half => some (Request.readTicket selector n)) (half_twoBytes number)
  | findTickets head slot location disposition verdictPresent startAfter =>
    exact congrArg (fun n : Half => some (Request.findTickets head slot location disposition verdictPresent n)) (half_twoBytes startAfter)
  | setLine f => exact congrArg (fun f : LineFields => some (Request.setLine f)) (lineFieldsOf_bytes f)
  | writeRecipe slot block => exact ofFrame_writeRecipe slot block
  | eraseRecipe slot => rfl
  | setHead head service k slot resetLearning =>
    exact congrArg (fun k : Half => some (Request.setHead head service k slot resetLearning)) (half_twoBytes k)
  | headReset head => rfl
  | lineReset => rfl
  | abortFill head => rfl
  | verdict tag level => exact congrArg some (congrArg₂ Request.verdict (half_twoBytes tag) (half_twoBytes level))
  | keep tag => exact congrArg (fun n : Half => some (Request.keep n)) (half_twoBytes tag)
  | retire tag => exact congrArg (fun n : Half => some (Request.retire n)) (half_twoBytes tag)
  | calibrate tag w force =>
    exact congrArg some (congrArg₂ (fun n v => Request.calibrate n v force) (half_twoBytes tag) (wide_fourBytes w))
  | holdLearning hold => rfl
  | clearAttention target kinds => rfl
  | setMask kinds => rfl

/-! ## What is read is what was written (R196, R198) -/

/-- A frame that names a kind has its code and its length (R193). -/
theorem kind_of_ofFrame {kind : Byte} {n : Nat} {k : RequestKind} (e : RequestKind.ofFrame kind n = some k) :
    k.code = kind ∧ k.bodyLength = n := by
  simpa using List.find?_some e

theorem blockBytes_revisionBlockAt (body : List Byte) :
    blockBytes (revisionBlockAt body 1) = (List.range 42).map fun i => byteAt body (i + 1) := by
  unfold blockBytes
  simp only [revisionBlockAt, fourBytes_wideAt, twoBytes_halfAt, List.cons_append, List.nil_append]
  rfl

theorem requestFrame_ofFrame {kind : Byte} {body : List Byte} {r : Request} (e : Request.ofFrame kind body = some r) :
    requestFrame r = (kind, body) := by
  obtain ⟨k, named, rfl⟩ := Option.map_eq_some_iff.mp e
  obtain ⟨rfl, len⟩ := kind_of_ofFrame named
  refine Prod.ext (by cases k <;> rfl) (Eq.trans ?_ (bytes_of_length len))
  cases k with
  | readStatus => rfl
  | readHead => rfl
  | readRecipe => rfl
  | readTicket => exact congrArg (byteAt body 0 :: ·) (twoBytes_halfAt body 1)
  | findTickets => exact congrArg ([byteAt body 0, byteAt body 1, byteAt body 2, byteAt body 3, byteAt body 4] ++ ·) (twoBytes_halfAt body 5)
  | setLine => simp only [requestFrame, lineFieldsOf, twoBytes_halfAt]; rfl
  | writeRecipe => exact congrArg (byteAt body 0 :: ·) (blockBytes_revisionBlockAt body)
  | eraseRecipe => rfl
  | setHead => exact congrArg ([byteAt body 0, byteAt body 1] ++ · ++ [byteAt body 4, byteAt body 5]) (twoBytes_halfAt body 2)
  | headReset => rfl
  | lineReset => rfl
  | abortFill => rfl
  | verdict => exact congrArg₂ (· ++ ·) (twoBytes_halfAt body 0) (twoBytes_halfAt body 2)
  | keep => exact twoBytes_halfAt body 0
  | retire => exact twoBytes_halfAt body 0
  | calibrate => exact congrArg₂ (· ++ · ++ [byteAt body 6]) (twoBytes_halfAt body 0) (fourBytes_wideAt body 2)
  | holdLearning => rfl
  | clearAttention => rfl
  | setMask => rfl

/-- The well-formed request frames are those of R196's table. -/
theorem ofFrame_iff (kind : Byte) (body : List Byte) (r : Request) : Request.ofFrame kind body = some r ↔ requestFrame r = (kind, body) := by
  refine ⟨requestFrame_ofFrame, fun e => ?_⟩
  have written := ofFrame_requestFrame r
  rwa [e] at written

/-! ## Serving (R193, R194) -/

theorem serveFrame_malformed {f : Frame} (s : State) (e : Request.ofFrame f.kind f.body = none) :
    serveFrame f s = answered f.kind .malformed 0 [] s := by
  rw [serveFrame, e]; rfl

theorem serveFrame_request {f : Frame} {r : Request} (s : State) (e : Request.ofFrame f.kind f.body = some r) :
    serveFrame f s = replied f.kind (serve r s) := by
  rw [serveFrame, e]

theorem exec_malformed_frame (t : Time) {kind : Byte} {body : List Byte} (s : State) (e : Request.ofFrame kind body = none) :
    exec (.malformed t kind body) s = .next (answered kind .malformed 0 [] { s with now := max s.now t }) := by
  show Host.Outcome.next (if (Request.ofFrame kind body).isNone then _ else _) = _
  rw [e]; rfl

theorem exec_malformed_request (t : Time) {kind : Byte} {body : List Byte} (s : State) (e : Request.ofFrame kind body ≠ none) :
    exec (.malformed t kind body) s = .next { s with now := max s.now t } := by
  show Host.Outcome.next (if (Request.ofFrame kind body).isNone then _ else _) = _
  rw [if_neg (mt Option.isNone_iff_eq_none.mp e)]; rfl

theorem advance_now_self (s : State) : s.advance s.now = s := by rw [State.advance, max_self]

/-- A frame is served as its request's own row is, taken at the present moment (R193, log entry 3). -/
theorem exec_requestCommand_frame {f : Frame} {r : Request} (s : State) (e : Request.ofFrame f.kind f.body = some r) :
    exec (requestCommand s.now r) s = .next (serveFrame f s) := by
  rw [exec_requestCommand, advance_now_self, serveFrame_request s e, requestFrame_ofFrame e]

/-- Settles O32: a request read is the request written (`ofFrame_iff`), and its row and its frame are one serving. -/
theorem framesServeTheirRows : Obligations.FramesServeTheirRows := by
  refine ⟨ofFrame_iff, fun t kind body s => ⟨fun e => ⟨exec_malformed_frame t s e, serveFrame_malformed (f := ⟨kind, body⟩) s e⟩,
    exec_malformed_request t s⟩, fun f r s e => ⟨exec_requestCommand_frame s e, ?_⟩⟩
  obtain ⟨-, payload, detail⟩ := serve_served r s
  rw [serveFrame_request s e]
  exact ⟨_, rfl, rfl, payload, detail⟩

end Sys2Proof.Machine
end

section
/-! SUPPORT. The check of a frame (R191) as a polynomial remainder over the field of two elements: the register is the remainder so far. -/

namespace Sys2Proof.Machine

open Polynomial

/-! ## Bits as polynomials -/

/-- A bit as a coefficient. -/
noncomputable def bitCoeff (b : Bool) : Polynomial (ZMod 2) := if b then 1 else 0

theorem bitCoeff_xor (a b : Bool) : bitCoeff (a ^^ b) = bitCoeff a + bitCoeff b := by
  have two : (1 : Polynomial (ZMod 2)) + 1 = 0 := CharTwo.add_self_eq_zero 1
  cases a <;> cases b <;> simp [bitCoeff, two]

/-- One more bit at the end: the polynomial moves up, and the bit is its constant term. -/
theorem bitsPolynomial_concat (bits : List Bool) (b : Bool) :
    bitsPolynomial (bits ++ [b]) = X * bitsPolynomial bits + bitCoeff b := by
  simp [bitsPolynomial, bitCoeff]

/-- One more bit at the front: a term of the degree of the bits' number. -/
theorem bitsPolynomial_cons (b : Bool) (bits : List Bool) :
    bitsPolynomial (b :: bits) = bitCoeff b * X ^ bits.length + bitsPolynomial bits := by
  induction bits using List.reverseRecOn with
  | nil => simp [bitsPolynomial, bitCoeff]
  | append_singleton bits c ih =>
    rw [← List.cons_append, bitsPolynomial_concat, bitsPolynomial_concat, ih, List.length_append, List.length_singleton, pow_succ]
    ring

/-- Bits combined place by place add up as polynomials. -/
theorem bitsPolynomial_zipWith_xor : ∀ {a b : List Bool}, a.length = b.length →
    bitsPolynomial (List.zipWith xor a b) = bitsPolynomial a + bitsPolynomial b
  | [], [], _ => by simp [bitsPolynomial]
  | x :: a, y :: b, len => by
    have rest : a.length = b.length := Nat.succ.inj len
    rw [List.zipWith_cons_cons, bitsPolynomial_cons, bitsPolynomial_cons, bitsPolynomial_cons, bitsPolynomial_zipWith_xor rest,
      bitCoeff_xor, List.length_zipWith, rest, Nat.min_self]
    ring

/-! ## The register as a polynomial -/

theorem msbFirst_length {w : Nat} (v : BitVec w) : (msbFirst v).length = w := by simp [msbFirst]

theorem msbFirst_xor {w : Nat} (a b : BitVec w) : msbFirst (a ^^^ b) = List.zipWith xor (msbFirst a) (msbFirst b) := by
  simp [msbFirst, List.zipWith_map]

/-- A shift drops the top bit and brings in a 0 at the end. -/
theorem msbFirst_shiftLeft {w : Nat} (v : BitVec w) : msbFirst v ++ [false] = v.getMsbD 0 :: msbFirst (v <<< 1) := calc
  msbFirst v ++ [false] = (List.range (w + 1)).map v.getMsbD := by simp [msbFirst, List.range_succ]
  _ = v.getMsbD 0 :: msbFirst (v <<< 1) := by
    rw [List.range_succ_eq_map, List.map_cons, List.map_map, msbFirst]
    refine congrArg (v.getMsbD 0 :: ·) (List.map_congr_left fun i _ => ?_)
    simp [BitVec.getMsbD_shiftLeft]

/-- Over the field of two elements a sum with itself is 0. -/
theorem poly_add_self (p : Polynomial (ZMod 2)) : p + p = 0 := CharTwo.add_self_eq_zero p

/-- The register shifted: its polynomial moved up, less the term of degree 16. -/
theorem poly_shiftLeft (reg : Half) :
    bitsPolynomial (msbFirst (reg <<< 1)) = X * bitsPolynomial (msbFirst reg) + bitCoeff (reg.getMsbD 0) * X ^ 16 := by
  have moved := congrArg bitsPolynomial (msbFirst_shiftLeft reg)
  rw [bitsPolynomial_concat, bitsPolynomial_cons, msbFirst_length, show bitCoeff false = 0 from rfl] at moved
  linear_combination -moved - poly_add_self (bitCoeff (reg.getMsbD 0) * X ^ 16)

/-- The polynomial that is combined in is the generator without its leading term (R191). -/
theorem poly_low_generator : bitsPolynomial (msbFirst 0x1021#16) = generator + X ^ 16 := by
  have bits : msbFirst 0x1021#16 = [false, false, false, true, false, false, false, false, false, false, true, false, false, false, false,
    true] := by decide
  have terms : bitsPolynomial (msbFirst 0x1021#16) = X ^ 12 + X ^ 5 + 1 := by
    rw [bits]
    simp only [bitsPolynomial, List.foldl_cons, List.foldl_nil, Bool.false_eq_true, if_false, if_true]
    ring
  rw [terms, generator]
  linear_combination -poly_add_self (X ^ 16)

/-- One bit of the check: the register's polynomial takes it in at degree 16, and a multiple of the generator goes (R191). -/
theorem poly_checkBit (reg : Half) (bit : Bool) : bitsPolynomial (msbFirst (checkBit reg bit)) =
    X * bitsPolynomial (msbFirst reg) + bitCoeff bit * X ^ 16 + bitCoeff (reg.getMsbD 0 ^^ bit) * generator := by
  have combined : bitsPolynomial (msbFirst (checkBit reg bit)) =
      bitsPolynomial (msbFirst (reg <<< 1)) + bitCoeff (reg.getMsbD 0 ^^ bit) * (generator + X ^ 16) := by
    show bitsPolynomial (msbFirst (if (reg.getMsbD 0 ^^ bit) = true then _ else _)) = _
    cases reg.getMsbD 0 ^^ bit with
    | true =>
      rw [if_pos rfl, msbFirst_xor, bitsPolynomial_zipWith_xor (by rw [msbFirst_length, msbFirst_length]), poly_low_generator,
        show bitCoeff true = 1 from rfl, one_mul]
    | false => rw [if_neg Bool.false_ne_true, show bitCoeff false = 0 from rfl, zero_mul, add_zero]
  rw [combined, poly_shiftLeft, bitCoeff_xor]
  linear_combination poly_add_self (bitCoeff (reg.getMsbD 0) * X ^ 16)

/-- The register after some bits is the remainder of the register before and the bits (R191). -/
theorem poly_checkBits (reg : Half) (bits : List Bool) : ∃ q : Polynomial (ZMod 2),
    X ^ 16 * bitsPolynomial bits + X ^ bits.length * bitsPolynomial (msbFirst reg) =
      q * generator + bitsPolynomial (msbFirst (bits.foldl checkBit reg)) := by
  induction bits using List.reverseRecOn with
  | nil => exact ⟨0, by simp [bitsPolynomial]⟩
  | append_singleton bits bit ih =>
    obtain ⟨q, before⟩ := ih
    refine ⟨X * q + bitCoeff ((bits.foldl checkBit reg).getMsbD 0 ^^ bit), ?_⟩
    rw [List.foldl_append, List.foldl_cons, List.foldl_nil, poly_checkBit, bitsPolynomial_concat, List.length_append,
      List.length_singleton, pow_succ]
    linear_combination X * before - poly_add_self (bitCoeff ((bits.foldl checkBit reg).getMsbD 0 ^^ bit) * generator)

/-- The check takes the bits of the bytes one by one, the most significant first (R191). -/
theorem checkOf_eq_foldl (bytes : List Byte) : checkOf bytes = (bytes.flatMap msbFirst).foldl checkBit 0xFFFF#16 :=
  List.foldl_flatMap.symm

theorem checkOf_remainder (bytes : List Byte) :
    let bits := bytes.flatMap msbFirst
    ∃ q : Polynomial (ZMod 2), X ^ 16 * bitsPolynomial bits + X ^ bits.length * bitsPolynomial (List.replicate 16 true) =
      q * generator + bitsPolynomial (msbFirst (checkOf bytes)) := by
  have ones : msbFirst 0xFFFF#16 = List.replicate 16 true := by decide
  simpa only [ones, ← checkOf_eq_foldl] using poly_checkBits 0xFFFF#16 (bytes.flatMap msbFirst)

end Sys2Proof.Machine
end

section
/-! SUPPORT. The receiver byte by byte (R190), and the frame of an answer (R190, R194). -/

namespace Sys2Proof.Machine

/-! ## The frame of an answer -/

/-- The kind byte with its top bit set (R194). -/
theorem answerKind_eq (kind : Byte) : kind ||| 0x80#8 = BitVec.ofNat 8 (128 + kind.toNat % 128) := by
  revert kind; decide

theorem answerFrame_eq (a : Answer) :
    let n := a.payload.length + 4
    let content := BitVec.ofNat 8 (128 + a.kind.toNat % 128) :: a.code.value :: (if a.attention then 1 else 0) :: a.detail :: a.payload
    let c := checkOf (BitVec.ofNat 8 (n / 256) :: BitVec.ofNat 8 n :: content)
    a.frame = 0xC3 :: BitVec.ofNat 8 (n / 256) :: BitVec.ofNat 8 n :: content ++ [BitVec.ofNat 8 (c.toNat / 256), BitVec.ofNat 8 c.toNat] := by
  rw [Answer.frame, answerKind_eq]
  rfl

/-! ## The receiver -/

/-- The clock, the receiver and the time of the last byte once a byte has been taken (R190). -/
def State.received (s : State) (t : Time) (rx : Receiver) : State :=
  { s with now := max s.now t, link := { s.link with rx := rx, lastByte := max s.now t } }

/-- A byte that completes no good frame leaves the receiver in its next state, and no more (R190). -/
theorem exec_byteReceived_partial {t : Time} {b : Byte} {s : State} {rx : Receiver} (taken : s.link.rx.take b = (rx, none)) :
    exec (.byteReceived t b) s = .next (s.received t rx) := by
  show Host.Outcome.next (takeByte b (s.advance t)) = _
  rw [takeByte, advance_link, taken]; rfl

/-- A byte that completes a good frame hands it to the receive queue (R190 to R192). -/
theorem exec_byteReceived_frame {t : Time} {b : Byte} {s : State} {rx : Receiver} {f : Frame} (taken : s.link.rx.take b = (rx, some f)) :
    exec (.byteReceived t b) s = .next (frameArrives f (s.received t rx)) := by
  show Host.Outcome.next (takeByte b (s.advance t)) = _
  rw [takeByte, advance_link, taken]; rfl

theorem toNat_half (a b : Byte) : (a ++ b).toNat = a.toNat * 256 + b.toNat := by
  rw [BitVec.toNat_append, ← Nat.shiftLeft_add_eq_or_of_lt b.isLt, Nat.shiftLeft_eq]

theorem receiver_take_length (hi b : Byte) : (Receiver.length (some hi)).take b =
    (if 1 ≤ hi.toNat * 256 + b.toNat ∧ hi.toNat * 256 + b.toNat ≤ 64 then .body (hi ++ b) [] else .hunt, none) := by
  rw [← toNat_half]; rfl

theorem receiver_take_bad_check {len : Half} {kind hi b : Byte} {body : List Byte} (bad : ¬checkOf (halfBytes len ++ kind :: body) = hi ++ b) :
    (Receiver.check len (kind :: body) (some hi)).take b = (.hunt, none) :=
  congrArg (Receiver.hunt, ·) (if_neg bad)

theorem receiver_take_good_check {len : Half} {kind hi b : Byte} {body : List Byte} (good : checkOf (halfBytes len ++ kind :: body) = hi ++ b) :
    (Receiver.check len (kind :: body) (some hi)).take b = (.hunt, some { kind := kind, body := body }) :=
  congrArg (Receiver.hunt, ·) (if_pos good)

/-- Settles O30: the register is the remainder of the bits taken (`poly_checkBits`), and the receiver takes each byte by its state. -/
theorem receiverTakesBytes : Obligations.ReceiverTakesBytes := by
  refine ⟨checkOf_remainder, answerFrame_eq, rfl, fun t b s => ⟨?hunt, ?length, ?short, ?body, ?check, ?complete⟩⟩
  case hunt => intro rx; exact exec_byteReceived_partial (by rw [rx]; rfl)
  case length => intro rx; exact exec_byteReceived_partial (by rw [rx]; rfl)
  case short => intro hi rx; exact exec_byteReceived_partial (by rw [rx]; exact receiver_take_length hi b)
  case body => intro len taken rx; exact exec_byteReceived_partial (by rw [rx]; rfl)
  case check => intro len taken rx; exact exec_byteReceived_partial (by rw [rx]; rfl)
  case complete =>
    intro len kind body hi rx
    exact ⟨fun bad => exec_byteReceived_partial (by rw [rx]; exact receiver_take_bad_check bad),
      fun good => exec_byteReceived_frame (by rw [rx]; exact receiver_take_good_check good)⟩

end Sys2Proof.Machine
end

section
/-! SUPPORT. The record images byte by byte (R197 to R201): which bytes stand at which offset, and the sets and codes they hold. -/

namespace Sys2Proof.Machine

/-! ## Bytes at an offset -/

/-- These bytes stand in an image from an offset on. -/
def StandsAt (p : List Byte) (o : Nat) (l : List Byte) : Prop := ∀ i, i < l.length → byteAt p (o + i) = byteAt l i

theorem standsAt_self (p : List Byte) : StandsAt p 0 p := fun i _ => by rw [Nat.zero_add]

theorem standsAt_nil (p : List Byte) (o : Nat) : StandsAt p o [] ↔ True := iff_true_intro fun _ below => absurd below (Nat.not_lt_zero _)

theorem standsAt_cons (p : List Byte) (o : Nat) (b : Byte) (l : List Byte) :
    StandsAt p o (b :: l) ↔ byteAt p o = b ∧ StandsAt p (o + 1) l := by
  refine ⟨fun e => ⟨e 0 (Nat.succ_pos _), fun i below => ?_⟩, fun ⟨first, rest⟩ i below => ?_⟩
  · rw [Nat.add_assoc, Nat.add_comm 1]; exact e (i + 1) (Nat.succ_lt_succ below)
  · cases i with
    | zero => exact first
    | succ i => rw [Nat.add_comm i, ← Nat.add_assoc, Nat.add_comm 1]; exact rest i (Nat.lt_of_succ_lt_succ below)

/-- Fields written one after the other stand one after the other. -/
theorem standsAt_append (p : List Byte) : ∀ (o : Nat) (l m : List Byte),
    StandsAt p o (l ++ m) ↔ StandsAt p o l ∧ StandsAt p (o + l.length) m
  | o, [], m => by simp [standsAt_nil]
  | o, b :: l, m => by
    rw [List.cons_append, standsAt_cons, standsAt_append p (o + 1) l m, standsAt_cons, and_assoc, List.length_cons, Nat.add_assoc,
      Nat.add_comm 1]

/-! ## The fields of an image (R197) -/

theorem bits_append_inj {m n : Nat} {a c : BitVec m} {b d : BitVec n} : a ++ b = c ++ d ↔ a = c ∧ b = d := by
  refine ⟨fun e => ⟨?_, ?_⟩, fun ⟨high, low⟩ => by rw [high, low]⟩
  · rw [← BitVec.extractLsb'_append_eq_left (a := a) (b := b), e, BitVec.extractLsb'_append_eq_left]
  · rw [← BitVec.extractLsb'_append_eq_right (a := a) (b := b), e, BitVec.extractLsb'_append_eq_right]

theorem halves_wide (v : Nat) : BitVec.ofNat 16 (v / 65536) ++ BitVec.ofNat 16 v = BitVec.ofNat 32 v := by
  apply BitVec.eq_of_toNat_eq
  have low : v % 2 ^ 16 < 2 ^ 16 := Nat.mod_lt v (by decide)
  rw [BitVec.toNat_append, BitVec.toNat_ofNat, BitVec.toNat_ofNat, BitVec.toNat_ofNat, ← Nat.shiftLeft_add_eq_or_of_lt low,
    Nat.shiftLeft_eq]
  omega

theorem standsAt_be2 (p : List Byte) (o v : Nat) : StandsAt p o (be2 v) ↔ halfAt p o = BitVec.ofNat 16 v := by
  rw [be2, standsAt_cons, standsAt_cons, standsAt_nil, and_true, ← be2_half, halfAt, bits_append_inj]

theorem be4_eq (v : Nat) : be4 v = be2 (v / 65536) ++ be2 v := by
  rw [be4, be2, be2, Nat.div_div_eq_div_mul]; rfl

theorem standsAt_be4 (p : List Byte) (o v : Nat) : StandsAt p o (be4 v) ↔ wideAt p o = BitVec.ofNat 32 v := by
  rw [be4_eq, standsAt_append, be2_length, standsAt_be2, standsAt_be2, ← halves_wide, wideAt, bits_append_inj]

theorem standsAt_be1 (p : List Byte) (o v : Nat) : StandsAt p o (be1 v) ↔ byteAt p o = BitVec.ofNat 8 v := by
  rw [be1, standsAt_cons, standsAt_nil, and_true]

theorem standsAt_flagByte (p : List Byte) (o : Nat) (b : Bool) : StandsAt p o (flagByte b) ↔ byteAt p o = if b then 1 else 0 := by
  rw [flagByte, standsAt_cons, standsAt_nil, and_true]; rfl

theorem standsAt_se1 (p : List Byte) (o : Nat) (v : Int) : StandsAt p o (se1 v) ↔ byteAt p o = BitVec.ofInt 8 v := by
  rw [se1, standsAt_be1, BitVec.ofNat_toNat, BitVec.setWidth_eq]

theorem standsAt_se2 (p : List Byte) (o : Nat) (v : Int) : StandsAt p o (se2 v) ↔ halfAt p o = BitVec.ofInt 16 v := by
  rw [se2, standsAt_be2, BitVec.ofNat_toNat, BitVec.setWidth_eq]

theorem standsAt_se4 (p : List Byte) (o : Nat) (v : Int) : StandsAt p o (se4 v) ↔ wideAt p o = BitVec.ofInt 32 v := by
  rw [se4, standsAt_be4, BitVec.ofNat_toNat, BitVec.setWidth_eq]

@[simp] theorem se1_length (v : Int) : (se1 v).length = 1 := rfl

/-! ## Sets (R197) -/

theorem setBits_bitsByte : ∀ members : List Bool, SetBits (bitsByte members) members
  | [], i, _ => by simp [bitsByte]
  | b :: members, 0, _ => by cases b <;> simp [bitsByte]
  | b :: members, i + 1, below => by
    have rest := setBits_bitsByte members i (Nat.lt_of_succ_lt below)
    have tail : bitsByte (b :: members) = bitsByte members <<< 1 ||| (if b then 1#8 else 0#8) := rfl
    have first : (if b then 1#8 else 0#8 : Byte).getLsbD (i + 1) = false := by cases b <;> simp
    rw [tail, BitVec.getLsbD_or, first, Bool.or_false, BitVec.getLsbD_shiftLeft]
    simpa [below] using rest

/-- A set with at most the members of another one, or none. -/
theorem getLsbD_ite (c : Bool) (x : Byte) (i : Nat) : (if c then x else 0#8).getLsbD i = (c && x.getLsbD i) := by
  cases c with
  | true => exact (Bool.true_and _).symm
  | false => exact BitVec.getLsbD_zero

theorem flags_setBits (tk : Ticket) : SetBits tk.flags [tk.noSlow, tk.toppedUp, tk.settleCut, tk.outlier, tk.kept] := by
  intro i below
  simp only [Ticket.flags, BitVec.getLsbD_or, getLsbD_ite]
  interval_cases i <;> simp

theorem causes_setBits (c : Causes) :
    SetBits c.kindSet [c.equipment.isSome, c.intervention.isSome, c.fillFault.isSome, c.trimLimit, c.calDone.isSome] := by
  intro i below
  simp only [Causes.kindSet, kindBit, Kind.code, BitVec.getLsbD_or, getLsbD_ite]
  interval_cases i <;> simp

theorem globals_setBits (g : Globals) :
    SetBits g.kindSet [false, false, false, false, false, g.angleFault, g.reverse, g.verdictLoss] := by
  intro i below
  simp only [Globals.kindSet, kindBit, Kind.code, BitVec.getLsbD_or, getLsbD_ite]
  interval_cases i <;> simp

/-! ## Revisions (R198) -/

theorem standsAt_block {p : List Byte} {o : Nat} {r : Recipe} (e : StandsAt p o r.block) : BlockAt p o r := by
  unfold Recipe.block at e
  simp only [List.append_assoc, standsAt_append, standsAt_be1, standsAt_be2, standsAt_be4, standsAt_flagByte, be1_length, be2_length,
    be4_length, flagByte_length, Nat.add_assoc, Nat.reduceAdd] at e
  exact e

theorem byteAt_replicate_zero (n i : Nat) : byteAt (List.replicate n 0) i = 0 := by
  rw [byteAt, List.getD_eq_getElem?_getD, List.getElem?_replicate]
  split <;> rfl

theorem standsAt_revision {p : List Byte} {o : Nat} {rev : Option Revision} (e : StandsAt p o (revisionImage rev)) : RevisionAt p o rev := by
  cases rev with
  | none => exact fun i below => (e i (by simpa [revisionImage] using below)).trans (byteAt_replicate_zero 43 i)
  | some rev =>
    obtain ⟨number, block⟩ := (standsAt_cons p o rev.number rev.recipe.block).mp e
    exact ⟨number, standsAt_block block⟩

/-! ## Counts and codes of the images -/

theorem toList_eq_map_finRange {α : Type} {n : Nat} (v : Vector α n) : v.toList = (List.finRange n).map fun i => v[i.val] := by
  apply List.ext_getElem <;> simp

theorem liveCount_eq (s : State) : s.liveCount = ((List.finRange 96).filter fun h => (s.head h).ticket.isSome).length := by
  rw [State.liveCount, toList_eq_map_finRange, List.filter_map, List.length_map]; rfl

theorem heldBoosts_eq (s : State) : s.heldBoosts = ((List.finRange 6).filter fun i : BoostId => (s.boosts[i.val]).isSome).length := by
  rw [State.heldBoosts, toList_eq_map_finRange, List.filter_map, List.length_map]; rfl

theorem classDepth_eq (s : State) {rank : Nat} {kinds : OpenKind → Bool} (same : ∀ k : OpenKind, decide (k.rank = rank) = kinds k) :
    s.classDepth rank = (s.pilotQueue.filter fun e => kinds e.kind).length := by
  simp only [State.classDepth, same]

theorem fillDepth_eq (s : State) :
    s.classDepth 0 = (s.pilotQueue.filter fun e => decide (e.kind = .fill ∨ e.kind = .topUp)).length :=
  classDepth_eq s (kinds := fun k => decide (k = .fill ∨ k = .topUp)) fun k => by cases k <;> rfl

theorem sniftDepth_eq (s : State) : s.classDepth 1 = (s.pilotQueue.filter fun e => decide (e.kind = .snift)).length :=
  classDepth_eq s (kinds := fun k => decide (k = .snift)) fun k => by cases k <;> rfl

theorem gasDepth_eq (s : State) : s.classDepth 2 = (s.pilotQueue.filter fun e => decide (e.kind = .gas)).length :=
  classDepth_eq s (kinds := fun k => decide (k = .gas)) fun k => by cases k <;> rfl

theorem slotState_code (sl : Slot) :
    BitVec.ofNat 8 sl.state.code = if sl.current = none then 0 else if sl.members = 0 then 1 else (2 : Byte) := by
  simp only [Slot.state, Option.isNone_iff_eq_none, apply_ite SlotState.code, apply_ite (BitVec.ofNat 8)]
  rfl

theorem summary_code (s : State) (h : HeadId) :
    let c := (s.head h).causes
    BitVec.ofNat 8 (s.summaryCause h) = if s.tracker.line.headCount ≤ h.val then 0 else if c.equipment.isSome then 1
      else if c.intervention.isSome then 2 else if c.fillFault.isSome then 3 else if c.trimLimit then 4
      else if c.calDone.isSome then 5 else (0 : Byte) := by
  simp only [State.summaryCause, State.isInstalled, decide_eq_true_eq, Causes.highest, apply_ite (BitVec.ofNat 8), ← Nat.not_lt, ite_not]
  rfl

/-- What stands at a position of a row of bytes, one per number. -/
theorem standsAt_row {n : Nat} {p : List Byte} {o : Nat} {f : Fin n → Byte} (e : StandsAt p o ((List.finRange n).map f)) (i : Fin n) :
    byteAt p (o + i.val) = f i := by
  rw [e i.val (by simp)]
  simp [byteAt]

/-! ## Fields of the head and the ticket image (R199, R200) -/

/-- The detail byte of a pending cause is the code of its detail (R199). -/
theorem detailByte_of_pending {α : Type} {code : α → Nat} {detail : Option α} {d : α} (free : Byte) (pending : detail = some d) :
    detailByte (detail.map code) free = BitVec.ofNat 8 (code d) := by
  rw [pending]; rfl

/-- A verdict as a two-byte field (R197, R200). -/
def verdictHalf : Option Verdict → Half
  | none => 0
  | some (.level e) => BitVec.ofInt 16 e
  | some .noReading => BitVec.ofInt 16 (-32768)

theorem standsAt_verdictBytes (p : List Byte) (o : Nat) (v : Option Verdict) :
    StandsAt p o (verdictBytes v) ↔ halfAt p o = verdictHalf v := by
  cases v with
  | none => exact standsAt_be2 p o 0
  | some v =>
    cases v with
    | level e => exact standsAt_se2 p o e
    | noReading => exact standsAt_be2 p o 0x8000

theorem headImage_length (h : HeadId) (x : Head) (n : Nat) : (headImage h x n).length = 36 := by
  unfold headImage
  simp only [List.length_append, List.length_cons, List.length_nil, be1_length, be2_length, be4_length, se1_length, se2_length]

/-! ## The statement -/

/-- Settles O34: each image is cut into the fields it is written from (`standsAt_append`), and each field stands at its offset. -/
theorem imagesLaidOut : Obligations.ImagesLaidOut := by
  refine ⟨fun s => ?status, fun n sl => ?recipe, fun h x n => ?head, fun loc tk => ?ticket, rfl, rfl, rfl, rfl, fun _ _ => rfl, rfl, rfl,
    rfl, rfl, rfl, rfl, rfl⟩
  case status =>
    intro p k l
    have len : p.length = 149 := statusImage_length s
    have whole : StandsAt p 0 (statusImage s) := standsAt_self p
    clear_value p
    unfold statusImage at whole
    simp only [List.append_assoc, standsAt_append, standsAt_cons, standsAt_nil, and_true, standsAt_be1, standsAt_be2, standsAt_se2,
      standsAt_flagByte, be1_length, be2_length, se2_length, flagByte_length, toList_eq_map_finRange, List.map_map, List.length_map,
      List.length_finRange, List.length_cons, List.length_nil, Nat.zero_add, Nat.reduceAdd, liveCount_eq, heldBoosts_eq, fillDepth_eq,
      sniftDepth_eq, gasDepth_eq] at whole
    obtain ⟨motion, headCount, angle, backlog, indexError, infeed, gas, fill, closeBy, sniftBy, discharge, commit, boostTime, minDwell, live,
      transit, kept, lines, tagCounter, hold, busy, calHead, calTag, depth, depth0, depth1, depth2, boosts, globals, masks, line, slots,
      heads⟩ := whole
    refine ⟨len, motion, headCount, angle, backlog, indexError, infeed, gas, fill, closeBy, sniftBy, discharge, commit, boostTime, minDwell,
      live, transit, kept, ?_, tagCounter, hold, busy, fun idle => ?_, fun c running => ?_, depth, depth0, depth1,
      depth2, boosts, ?_, masks, line, fun n => ?_, fun h => ?_⟩
    · rw [lines]; exact setBits_bitsByte _
    · rw [calHead, calTag, idle]; exact ⟨rfl, rfl⟩
    · rw [calHead, calTag, running]; exact ⟨rfl, rfl⟩
    · rw [globals]; exact globals_setBits s.globals
    · exact (standsAt_row slots n).trans (slotState_code (s.slot n))
    · exact (standsAt_row heads h).trans (summary_code s h)
  case recipe =>
    intro p
    have len : p.length = 93 := recipeImage_length n sl
    have whole : StandsAt p 0 (recipeImage n sl) := standsAt_self p
    clear_value p
    unfold recipeImage at whole
    simp only [List.append_assoc, standsAt_append, standsAt_cons, standsAt_nil, and_true, standsAt_be1, be1_length, revisionImage_length,
      List.length_cons, List.length_nil, Nat.zero_add, Nat.reduceAdd] at whole
    obtain ⟨number, state, counter, members, unadopted, adopted, presence, current, pending⟩ := whole
    refine ⟨len, number, state.trans (slotState_code sl), counter, members, unadopted, adopted, ?_, standsAt_revision current,
      standsAt_revision pending⟩
    rw [presence]; exact setBits_bitsByte _
  case head =>
    intro p r c slotByte cal
    have len : p.length = 36 := headImage_length h x n
    have whole : StandsAt p 0 (headImage h x n) := standsAt_self p
    clear_value p
    unfold headImage at whole
    simp only [List.append_assoc, standsAt_append, standsAt_cons, standsAt_nil, and_true, standsAt_be1, standsAt_be2, standsAt_be4,
      standsAt_se1, standsAt_se2, be1_length, be2_length, be4_length, se1_length, se2_length, List.length_cons, List.length_nil,
      Nat.zero_add, Nat.reduceAdd] at whole
    obtain ⟨number, service, phase, slot, pendingSlot, adoptedRev, k, stagedK, a, pendingA, t, pendingT, drift, faultCount, stray, flags,
      presence, causes, ⟨equipment, intervention, fillFault⟩, outcome, kNew, calTag, ticketTag⟩ := whole
    refine ⟨len, number, service, phase, slot, pendingSlot, adoptedRev, k, stagedK, a, pendingA, t, pendingT, drift, faultCount, stray, ?_,
      ?_, ?_, fun d e => equipment.trans (detailByte_of_pending _ e), fun d e => intervention.trans (detailByte_of_pending _ e),
      fun d e => fillFault.trans (detailByte_of_pending _ e), outcome, kNew, calTag, ticketTag⟩
    · rw [flags]; exact setBits_bitsByte _
    · rw [presence]; exact setBits_bitsByte _
    · rw [causes]; exact causes_setBits x.causes
  case ticket =>
    intro p q verdict
    have len : p.length = 96 := ticketImage_length loc tk
    have whole : StandsAt p 0 (ticketImage loc tk) := standsAt_self p
    clear_value p
    unfold ticketImage at whole
    simp only [List.append_assoc, standsAt_append, standsAt_cons, standsAt_nil, and_true, standsAt_be1, standsAt_be2, standsAt_be4,
      standsAt_se2, standsAt_se4, standsAt_verdictBytes, be1_length, be2_length, be4_length, se2_length, se4_length, verdictBytes_length,
      List.length_cons, List.length_nil, Nat.zero_add, Nat.reduceAdd] at whole
    obtain ⟨tag, head, slot, revision, location, disposition, flags, reasons, presence, glitches, pulses, fine, dClose, x, outcome, headEnd,
      given, final, k, a, t, e, f, eTop, block⟩ := whole
    refine ⟨len, tag, head, slot, revision, location, disposition, ?_, ?_, ?_, glitches, pulses,
      fine, dClose, x, outcome, headEnd, given, final, k, a, t, e, f, eTop, standsAt_block block⟩
    · rw [flags]; exact flags_setBits tk
    · rw [reasons, BitVec.ofNat_toNat, BitVec.setWidth_eq]
    · rw [presence]; exact setBits_bitsByte _

end Sys2Proof.Machine
end
